-- ==== Sys2Proof/Word.lean ====
section
/-! DEFINITION. The two things the manual treats as bits: the bytes of the supervisory line and the 16-bit
points of point memory. Every other quantity of the manual is a number and is a `Nat` or an `Int` here. -/

namespace Sys2Proof

/-- One byte of the supervisory line (R184). -/
abbrev Byte := BitVec 8

/-- One point of point memory: a signed value stored as its 16-bit pattern (R28). -/
abbrev Point := BitVec 16

end Sys2Proof
end

