-- ==== Sys2Proof/Syntax.lean ====
section
/-! DEFINITION. The commands of the RD16: one constructor of `Instr` for each row of spec/opcode_table.json.

A row that is a request (Open Clip to Reset Part) is the TAKING of that request (R189), with the request's tag and the fields
of its payload as numbers, in payload order; enumerations, flags and masks stay the raw numbers of their bytes, because the
part itself judges them (R198). A row that is an event carries what the event brings from outside: a byte, a frame, a servo
response, an edge, and where the manual measures elapsed time, the moment `at` in quanta of `Config.second`.

A row that names an event INSIDE an update or a response (CAPTURE_COMPLETE, RAMP_IN_COMPLETE, RAMP_OUT_COMPLETE, PASS_END,
PASS_END_IN_RAMP_OUT, DETECTOR_FIRE, LINK_LOST, LINKING_TIMEOUT) is that one event taken by itself (log entry 1). -/

namespace Sys2Proof

/-- Status of a servo response (section 5.5). -/
inductive ServoStatus where
  | ok
  | overload
deriving DecidableEq, Repr

/-- Source of a full reset (R197). -/
inductive ResetSource where
  | powerOn
  | resetInput
deriving DecidableEq, Repr

/-- The three detectors of a channel (section 6.1). -/
inductive DetectorKind where
  | envelope
  | tracking
  | clampRate
deriving DecidableEq, Repr

/-- One field change of a Modify Entry: a field number and a 4-byte value (R200). -/
structure FieldChange where
  field : Nat
  value : Nat
deriving DecidableEq, Repr

/-- The payload of an Append Entry, by its kind byte (section 11.4). `unknown` is a kind byte that names no kind. -/
inductive AppendFields where
  | play (tag clip flags gainSet passes first count : Nat)
  | dwell (tag flags length : Nat)
  | loopOpen (tag count : Nat)
  | loopClose (tag : Nat)
  | unknown (kind : Nat) (body : List Byte)
deriving DecidableEq, Repr

/-- The payload of a Configure Mark, by its mode byte (R200). `unknown` is a mode byte that names no mode. -/
inductive MarkFields where
  | off (unit : Nat)
  | compare (unit selector value output triggers : Nat)
  | capture (unit edge prescale notify : Nat)
  | unknown (unit mode : Nat) (body : List Byte)
deriving DecidableEq, Repr

/-- The payload of a Configure Limits after its channel (R134). -/
structure LimitFields where
  fMin : Int
  fMax : Int
  eMax : Nat
  delay : Nat
  envPersist : Nat
  trkPersist : Nat
  kc : Nat
  envAction : Nat
  envEnable : Nat
  trkAction : Nat
  trkEnable : Nat
  clampAction : Nat
  clampEnable : Nat
deriving DecidableEq, Repr

/-- A request the part knows, with the fields of its payload (R189, R198, R199, R200). -/
inductive Request where
  | openClip (id mask upsample length checksum : Nat)
  | clipData (id offset : Nat) (points : List Point)
  | closeClip (id : Nat)
  | freeClip (id : Nat)
  | clipInfo (id position : Nat)
  | storeInfo
  | appendEntry (fields : AppendFields)
  | modifyEntry (entry : Nat) (changes : List FieldChange)
  | flushQueue
  | readQueue (position withStats : Nat)
  | readDone (sequence : Nat)
  | advanceWatch
  | start
  | pause
  | resume
  | stop
  | clearTrip
  | setRamp (ri ro : Nat)
  | setTimebase (rate source : Nat)
  | readEngine
  | configureChannel (channel : Nat) (offset clampMin clampMax : Int) (slew : Nat)
  | writeGainSet (set : Nat) (gains : List Nat)
  | readGainSet (set : Nat)
  | channelPowerOn (channel : Nat)
  | channelPowerOff (channel : Nat)
  | setRigMode (mode : Nat)
  | setChannelOwner (channel owner : Nat)
  | engage (channel : Nat)
  | release (channel : Nat)
  | acknowledgeChannels (mask : Nat)
  | readChannel (channel : Nat)
  | configureLimits (channel : Nat) (limits : LimitFields)
  | configureMark (fields : MarkFields)
  | setMarkOutput (unit level : Nat)
  | readMark (unit clearOverflow : Nat)
  | configureCapture (mask content decimation records rearm : Nat)
  | captureTrigger
  | abortCapture
  | readCapture (sequence offset count : Nat)
  | captureInfo
  | enableEvents (mask : Nat)
  | takeEvent
  | setSupervision (interval : Nat)
  | queryIdentity
  | queryStatus (clear : Nat)
  | resetPart
deriving DecidableEq, Repr

/-- The commands: one constructor per row of spec/opcode_table.json, in the table's order. -/
inductive Instr where
  /-- OPEN_CLIP (R30). -/
  | openClip (tag id mask upsample length checksum : Nat)
  /-- CLIP_DATA (R31). -/
  | clipData (tag id offset : Nat) (points : List Point)
  /-- CLOSE_CLIP (R32). -/
  | closeClip (tag id : Nat)
  /-- FREE_CLIP (R38). -/
  | freeClip (tag id : Nat)
  /-- CLIP_INFO (R41). -/
  | clipInfo (tag id position : Nat)
  /-- STORE_INFO (R42). -/
  | storeInfo (tag : Nat)
  /-- APPEND_ENTRY (R55). -/
  | appendEntry (tag : Nat) (fields : AppendFields)
  /-- MODIFY_ENTRY (R62). -/
  | modifyEntry (tag entry : Nat) (changes : List FieldChange)
  /-- FLUSH_QUEUE (R69). -/
  | flushQueue (tag : Nat)
  /-- READ_QUEUE (R70). -/
  | readQueue (tag position withStats : Nat)
  /-- READ_DONE (R61). -/
  | readDone (tag sequence : Nat)
  /-- ADVANCE_WATCH (R71). -/
  | advanceWatch (tag : Nat)
  /-- START (R81). -/
  | start (tag : Nat)
  /-- PAUSE (R82). -/
  | pause (tag : Nat)
  /-- RESUME (R83). -/
  | resume (tag : Nat)
  /-- STOP (R84). -/
  | stop (tag : Nat)
  /-- CLEAR_TRIP (R96). -/
  | clearTrip (tag : Nat)
  /-- SET_RAMP (R76). -/
  | setRamp (tag ri ro : Nat)
  /-- SET_TIMEBASE (R99). -/
  | setTimebase (tag rate source : Nat)
  /-- READ_ENGINE (R102). -/
  | readEngine (tag : Nat)
  /-- CONFIGURE_CHANNEL (R2). -/
  | configureChannel (tag channel : Nat) (offset clampMin clampMax : Int) (slew : Nat)
  /-- WRITE_GAIN_SET (R21). -/
  | writeGainSet (tag set : Nat) (gains : List Nat)
  /-- READ_GAIN_SET (R23). -/
  | readGainSet (tag set : Nat)
  /-- CHANNEL_POWER_ON (R105). -/
  | channelPowerOn (tag channel : Nat)
  /-- CHANNEL_POWER_OFF (R106). -/
  | channelPowerOff (tag channel : Nat)
  /-- SET_RIG_MODE_REPLAY (R107). -/
  | setRigModeReplay (tag : Nat)
  /-- SET_RIG_MODE_LOCAL (R108). -/
  | setRigModeLocal (tag : Nat)
  /-- SET_CHANNEL_OWNER (R109). -/
  | setChannelOwner (tag channel owner : Nat)
  /-- ENGAGE (R111). -/
  | engage (tag channel : Nat)
  /-- RELEASE (R112). -/
  | release (tag channel : Nat)
  /-- ACKNOWLEDGE_CHANNELS (R119). -/
  | acknowledgeChannels (tag mask : Nat)
  /-- READ_CHANNEL (R121). -/
  | readChannel (tag channel : Nat)
  /-- CONFIGURE_LIMITS (R134). -/
  | configureLimits (tag channel : Nat) (limits : LimitFields)
  /-- CONFIGURE_MARK (R143). -/
  | configureMark (tag : Nat) (fields : MarkFields)
  /-- SET_MARK_OUTPUT (R144). -/
  | setMarkOutput (tag unit level : Nat)
  /-- READ_MARK (R157). -/
  | readMark (tag unit clearOverflow : Nat)
  /-- CONFIGURE_CAPTURE (R160). -/
  | configureCapture (tag mask content decimation records rearm : Nat)
  /-- CAPTURE_TRIGGER (R163). -/
  | captureTrigger (tag : Nat)
  /-- ABORT_CAPTURE (R169). -/
  | abortCapture (tag : Nat)
  /-- READ_CAPTURE (R170). -/
  | readCapture (tag sequence offset count : Nat)
  /-- CAPTURE_INFO (R171). -/
  | captureInfo (tag : Nat)
  /-- ENABLE_EVENTS (R180). -/
  | enableEvents (tag mask : Nat)
  /-- TAKE_EVENT (R181). -/
  | takeEvent (tag : Nat)
  /-- SET_SUPERVISION (R192). -/
  | setSupervision (tag interval : Nat)
  /-- QUERY_IDENTITY (R194). -/
  | queryIdentity (tag : Nat)
  /-- QUERY_STATUS (R195). -/
  | queryStatus (tag clear : Nat)
  /-- RESET_PART (R196). -/
  | resetPart (tag : Nat)
  /-- UNKNOWN_REQUEST (R189): a taken request whose code names no request. -/
  | unknownRequest (code tag : Nat)
  /-- REQUEST_ARRIVAL (R188): a complete frame, its payload and the CRC it carries. -/
  | requestArrival (kind code tag : Nat) (payload : List Byte) (crc : Nat) (at' : Nat)
  /-- OVERLONG_FRAME (R186). -/
  | overlongFrame (at' : Nat)
  /-- FRAME_SENT (R190). -/
  | frameSent
  /-- SUPERVISION_EXPIRY (R193). -/
  | supervisionExpiry (at' : Nat)
  /-- FULL_RESET (R197). -/
  | fullReset (source : ResetSource)
  /-- UPDATE (R98). -/
  | update (at' : Nat)
  /-- SYNC_EDGE (R98). -/
  | syncEdge (at' : Nat)
  /-- SYNC_LOSS (R100). -/
  | syncLoss (at' : Nat)
  /-- CAPTURE_COMPLETE (R167). -/
  | captureComplete
  /-- RAMP_IN_COMPLETE (R75). -/
  | rampInComplete
  /-- RAMP_OUT_COMPLETE (R89). -/
  | rampOutComplete
  /-- PASS_END (R88). -/
  | passEnd
  /-- PASS_END_IN_RAMP_OUT (R89). -/
  | passEndInRampOut
  /-- SERVO_RESPONSE (R114): `intact` says whether the response passes its integrity check. -/
  | servoResponse (channel : Nat) (intact : Bool) (exchange : Nat) (feedback setpoint : Int) (status : ServoStatus)
  /-- DETECTOR_FIRE (R131): the evaluation at which a detector fires; `feedback` is not used by CLAMP_RATE. -/
  | detectorFire (channel : Nat) (detector : DetectorKind) (feedback : Int)
  /-- LINK_LOST (R115). -/
  | linkLost (channel : Nat)
  /-- LINKING_TIMEOUT (R116). -/
  | linkingTimeout (channel : Nat)
  /-- RIG_READY_DEASSERTED (R120). -/
  | rigReadyDeasserted
  /-- RIG_READY_REASSERTED (R120). -/
  | rigReadyReasserted
  /-- MARK_INPUT_EDGE (R153): a rising or a falling edge. -/
  | markInputEdge (unit : Nat) (rising : Bool)
  /-- VERIFICATION_COMPLETE (R35). -/
  | verificationComplete (at' : Nat)
  /-- RECEIVED_BYTE (R185). -/
  | receivedByte (byte : Byte) (at' : Nat)
deriving DecidableEq, Repr

end Sys2Proof
end

