-- ==== Sys2Proof/Decode.lean ====
section
/-! DEFINITION. Reading a command from the bits of a table row. No row of spec/opcode_table.json gives bits: the commands of
this block are requests, whose bytes Machine/Operands.lean reads from a frame, and events (log entry 18). -/

namespace Sys2Proof

/-- The command a word spells by the table's bits. The table gives no row any bits, so no word spells a command. -/
def decodeTableWord (_nbits _w : Nat) : Option Instr := none

end Sys2Proof
end

