-- ==== Sys2Proof/Config.lean ====
section
/-! DEFINITION. The constants of the RD16 and the values the manual leaves open. -/

namespace Sys2Proof.Config

/-! ### Sizes -/

/-- Drive channels, numbered 0 to 15. -/
abbrev channels : Nat := 16
/-- Pages of point memory (section 2.1). -/
abbrev pages : Nat := 2048
/-- Points of one page (section 2.1). -/
abbrev pageSize : Nat := 4096
/-- Points of the whole point memory (section 2.1). -/
abbrev pointMemory : Nat := 8388608
/-- Clip records (section 2.2). -/
abbrev clips : Nat := 64
/-- Entries the segment queue holds at most (R45). -/
abbrev queueSize : Nat := 64
/-- Frames the loop stack holds at most, and the bound of the tail depth (R49, R50). -/
abbrev loopDepth : Nat := 6
/-- Records the done ring holds at most (R60). -/
abbrev doneRing : Nat := 32
/-- Gain sets (section 1.8). -/
abbrev gainSets : Nat := 8
/-- Mark units (section 7). -/
abbrev markUnits : Nat := 6
/-- Words of one capture bank (section 8.1). -/
abbrev bankWords : Nat := 262144
/-- Event causes (section 9.1). -/
abbrev causes : Nat := 9
/-- Places of the request buffer, and the bound of waiting BUSY_LINK replies (R188). -/
abbrev requestBuffer : Nat := 8
/-- Reply places of the transmit path (R190). -/
abbrev replyPlaces : Nat := 2
/-- The largest payload of a frame in bytes (section 10.2). -/
abbrev maxPayload : Nat := 1024
/-- The longest DWELL (R55). -/
abbrev maxDwell : Nat := 16777215
/-- The largest compare value of a mark unit (R143). -/
abbrev maxCompare : Nat := 67108863
/-- λ at full level (R74). -/
abbrev fullRamp : Nat := 65536
/-- The saturation value of the 32-bit counts (R13, R47). -/
abbrev max32 : Nat := 4294967295
/-- Two to the 48th: the update counter wraps here (R101). -/
abbrev stampWrap : Nat := 281474976710656
/-- Two to the 32nd: done and capture sequences wrap here (R60, R159). -/
abbrev seqWrap : Nat := 4294967296

/-! ### Elapsed time

Elapsed time is counted in quanta of 1/3,276,800,000 second. Every duration of the manual is a whole number of them
(DESIGN CHOICE, log entry 2). -/

/-- Quanta of one second. -/
abbrev second : Nat := 3276800000
/-- Quanta of one millisecond. -/
abbrev millisecond : Nat := 3276800
/-- Quanta the verifier takes for one point: 1/1,048,576 second (R33). -/
abbrev verifyPoint : Nat := 3125
/-- The time after which an incomplete frame is overlong: 20 milliseconds (R186). -/
abbrev overlongTime : Nat := 65536000

/-! ### Open values -/

/-- What a Capture Info reply shows as the trigger update stamp of a filling header before the first record is taken: the
manual states no value there (R163 fixes the stamp only at the first update). FREE VALUE, applied to the update counter;
log entry 10. -/
opaque unstatedStamp : Nat → Nat

/-- What a Capture Info reply shows as the position at trigger of a filling header before the first record is taken, while a
context exists: entry tag, pass number, update value and flags, or absent. The manual states no value there (R164 fixes the
position only at the first record). FREE VALUE, applied to the update counter; log entry 10. -/
opaque unstatedPosition : Nat → Option (Nat × Nat × Nat × Nat)

/-- Whether the trigger at a place in the list of the triggers of the update with this stamp reaches the Response Capture Unit
before a capture completes at that update: R168 allows each to come before or after. FREE VALUE; log entry 11. -/
opaque triggerBefore : Nat → Nat → Bool

/-- Whether, at the update with this stamp, the segment-start trigger reaches the Response Capture Unit before the mark
units' triggers: R162 allows both orders. FREE VALUE; log entry 11. -/
opaque segmentStartFirst : Nat → Bool

end Sys2Proof.Config
end

