-- ==== Sys2Proof/Machine/State.lean ====
section
/-! DEFINITION. The state of the RD16, block by block as the manual's block diagram owns it, the reasons a step can stop, and
the state right after a full reset. Plain data throughout. -/

namespace Sys2Proof.Machine

open Sys2Proof

/-! ### Why a step stops -/

/-- No command of the RD16 stops the machine: every request is answered and every event has an effect or none (section
Conventions, "Refusals"; R189). So there is no fault, and the type is empty. -/
inductive Fault : Type
deriving DecidableEq, Repr

/-- Reasons of a refusal. -/
inductive Refusal where
  /-- A command whose meaning is not written yet, raised by `exec`'s arm for it alone; safe. No arm raises it. -/
  | notModelled (mnemonic : String)
deriving DecidableEq, Repr

/-! ### Drive Computation Unit (chapter 1) -/

/-- The channel drive record (section 1.1). -/
structure DriveRecord where
  offset : Int
  clampMin : Int
  clampMax : Int
  slew : Nat
  lastOutput : Int
deriving DecidableEq, Repr

/-- A gain set: active copy, pending copy and pending flag (section 1.8). -/
structure GainSet where
  active : Vector Nat 16
  pending : Vector Nat 16
  flag : Bool
deriving DecidableEq, Repr

/-- The Drive Computation Unit's state. -/
structure DriveUnit where
  drives : Vector DriveRecord 16
  gains : Vector GainSet 8
deriving DecidableEq, Repr

/-! ### Clip Store (chapter 2) -/

/-- Memory of 16-bit words by address: addresses strictly rising, no entry equal to the word 0 that an unlisted address
reads as (log entry 4). -/
abbrev Ram := List (Nat × Point)

/-- Clip states (section 2.2). -/
inductive ClipState where
  | free
  | loading
  | verifying
  | ready
  | failed
deriving DecidableEq, Repr

/-- Why a clip failed (section 2.2). -/
inductive FailReason where
  | incomplete
  | checksum
deriving DecidableEq, Repr

/-- The fields a clip record holds in every state except FREE (section 2.2). -/
structure ClipLoad where
  chans : List Nat
  upsample : Nat
  length : Nat
  pages : List Nat
  expected : Nat
  received : Nat
deriving DecidableEq, Repr

/-- A clip record. Points checked is computed from the verifier's start time (log entry 3). -/
structure Clip where
  state : ClipState
  load : Option ClipLoad
  computed : Option Nat
  failReason : Option FailReason
  refs : Nat
deriving DecidableEq, Repr

/-- The Clip Store's state: point memory (a point at address page × 4096 + offset), the free page list, the clip table, the
verification order, and when the verifier began on the clip at its front. -/
structure ClipStore where
  points : Ram
  freePages : List Nat
  clips : Vector Clip 64
  order : List Nat
  verifierSince : Nat
deriving DecidableEq, Repr

/-! ### Segment Queue (chapter 3) -/

/-- A statistics record of a channel; `span` is peak and valley, absent until a feedback is taken (sections 3.2, 6.8). -/
structure StatRecord where
  channel : Nat
  span : Option (Int × Int)
  clamped : Nat
  limited : Nat
deriving DecidableEq, Repr

/-- The runtime part of a PLAY or DWELL entry (section 3.2). -/
structure Runtime where
  visits : Nat
  passes : Nat
  cutSeen : Bool
  interrupted : Option Nat
  firstStamp : Option Nat
  lastStamp : Option Nat
  stats : Option (List StatRecord)
deriving DecidableEq, Repr

/-- The fields of a PLAY entry; an absent window is the whole clip (section 3.2). -/
structure PlayFields where
  clip : Nat
  window : Option (Nat × Nat)
  passes : Nat
  gainSet : Nat
  skip : Bool
  notify : Bool
  captureAtStart : Bool
deriving DecidableEq, Repr

/-- The fields of a DWELL entry (section 3.2). -/
structure DwellFields where
  length : Nat
  skip : Bool
  notify : Bool
deriving DecidableEq, Repr

/-- What an entry is, by kind (section 3.2). -/
inductive EntryBody where
  | play (fields : PlayFields) (runtime : Runtime)
  | dwell (fields : DwellFields) (runtime : Runtime)
  | loopOpen (count : Nat)
  | loopClose
deriving DecidableEq, Repr

/-- An entry of the segment queue. -/
structure Entry where
  tag : Nat
  body : EntryBody
deriving DecidableEq, Repr

/-- A frame of the loop stack, naming its LOOP_OPEN by tag (R50). -/
structure LoopFrame where
  tag : Nat
  count : Nat
  iterations : Nat
deriving DecidableEq, Repr

/-- The kinds of entry that leave a done record and that a context plays. -/
inductive PlayKind where
  | play
  | dwell
deriving DecidableEq, Repr

/-- Status of a done record (R59). -/
inductive DoneStatus where
  | complete
  | cut
  | skipped
  | flushed
deriving DecidableEq, Repr

/-- A done record (R58). -/
structure DoneRecord where
  sequence : Nat
  tag : Nat
  kind : PlayKind
  status : DoneStatus
  visits : Nat
  passes : Nat
  firstStamp : Option Nat
  lastStamp : Option Nat
  stats : Option (List StatRecord)
deriving DecidableEq, Repr

/-- The Segment Queue's state; `stack` has the innermost loop first. -/
structure SegmentQueue where
  entries : List Entry
  cursor : Nat
  stack : List LoopFrame
  tailDepth : Nat
  doneRing : List DoneRecord
  nextSeq : Nat
  watch : Bool
deriving DecidableEq, Repr

/-! ### Playback Engine (chapter 4) -/

/-- Engine states (section 4.1). -/
inductive EngineState where
  | idle
  | rampIn
  | running
  | rampOut
  | paused
  | tripped
  | returning
deriving DecidableEq, Repr

/-- Target of a ramp-out (section 4.1). -/
inductive Target where
  | paused
  | idle
deriving DecidableEq, Repr

/-- Stop and trip causes (section 11.3). -/
inductive EngineCause where
  | hostStop
  | hostPause
  | queueEmpty
  | clipNotReady
  | channelNotEngaged
  | limitPause
  | limitStop
  | supervision
  | rigReadyLost
  | channelFault
  | limitTrip
  | timebaseLost
deriving DecidableEq, Repr

/-- A detector's action; the engine receives PAUSE, STOP and TRIP (R85, section 6.1). -/
inductive Action where
  | note
  | pause
  | stop
  | trip
deriving DecidableEq, Repr

/-- The last-action record (R85). -/
structure LastAction where
  action : Action
  cause : EngineCause
  channel : Option Nat
  stamp : Nat
  applied : Bool
deriving DecidableEq, Repr

/-- The PLAY part of the playback context (section 4.3). -/
structure PlayContext where
  clip : Nat
  chans : List Nat
  upsample : Nat
  first : Nat
  count : Nat
  gainSet : Nat
  u : Nat
  stats : List StatRecord
deriving DecidableEq, Repr

/-- What a context plays: a PLAY visit, or a DWELL with its elapsed updates. -/
inductive ContextBody where
  | play (play : PlayContext)
  | dwell (elapsed : Nat)
deriving DecidableEq, Repr

/-- The playback context (section 4.3). The entry position is the cursor (R46, log entry 5); n, k and the pass number are
computed. `captureDue` remembers the entry's capture-at-start flag as it stood when the visit began, until the visit's first
update (R78). -/
structure Context where
  tag : Nat
  body : ContextBody
  counted : Nat
  overrun : Bool
  cut : Bool
  firstUpdate : Option Nat
  lastUpdate : Option Nat
  captureDue : Bool
deriving DecidableEq, Repr

/-- Timebase source (R98). -/
inductive TimebaseSource where
  | internal
  | externalSync
deriving DecidableEq, Repr

/-- The Playback Engine's state, timebase and update counter included. `lastUpdateAt` is when the previous update came and
`syncWatchFrom` the moment the sync-loss watch measures from (R98, R100). -/
structure Engine where
  state : EngineState
  target : Option Target
  stopCause : Option EngineCause
  lam : Nat
  tripCause : Option EngineCause
  tripChannel : Option Nat
  lastAction : Option LastAction
  ctx : Option Context
  rate : Nat
  source : TimebaseSource
  ri : Nat
  ro : Nat
  counter : Nat
  lastUpdateAt : Option Nat
  syncWatchFrom : Nat
deriving DecidableEq, Repr

/-! ### Channel Port Controller (chapter 5) -/

/-- Port states (section 5.1). -/
inductive PortState where
  | off
  | linking
  | standby
  | engaged
  | fault
deriving DecidableEq, Repr

/-- Owner of a channel, and rig mode (section 5.1). -/
inductive Owner where
  | local
  | replay
deriving DecidableEq, Repr

/-- Fault causes (section 5.1). -/
inductive FaultCause where
  | overload
  | linkLost
  | noLink
deriving DecidableEq, Repr

/-- The command record whose response window is open, the update it was sent at, and whether it was answered (section 5.5). -/
structure Window where
  stamp : Nat
  exchange : Nat
  engaged : Bool
  command : Int
  answered : Bool
deriving DecidableEq, Repr

/-- A port record, with the servo link's enable line and open window (sections 5.1, 5.5). -/
structure Port where
  state : PortState
  owner : Owner
  changed : Bool
  faultCause : Option FaultCause
  missCount : Nat
  linkCount : Option Nat
  setpoint : Option Int
  feedback : Option Int
  enable : Bool
  window : Option Window
deriving DecidableEq, Repr

/-- The Channel Port Controller's state and the level of the Rig Ready input. -/
structure PortUnit where
  ports : Vector Port 16
  rigMode : Owner
  rigReady : Bool
deriving DecidableEq, Repr

/-! ### Limit Monitor (chapter 6) -/

/-- Detector states (section 6.1). -/
inductive DetectorState where
  | clear
  | counting
  | triggered
deriving DecidableEq, Repr

/-- A detector's state record (section 6.1). -/
structure Detector where
  state : DetectorState
  count : Nat
deriving DecidableEq, Repr

/-- A detector's action and enable (section 6.1). -/
structure DetectorSetup where
  action : Action
  enable : Bool
deriving DecidableEq, Repr

/-- The detector configuration of a channel (section 6.1). -/
structure LimitConfig where
  fMin : Int
  fMax : Int
  eMax : Nat
  delay : Nat
  envPersist : Nat
  trkPersist : Nat
  kc : Nat
  env : DetectorSetup
  trk : DetectorSetup
  clamp : DetectorSetup
deriving DecidableEq, Repr

/-- What the Limit Monitor keeps for a channel; `history` has the newest place first (R127). -/
structure ChannelLimits where
  config : LimitConfig
  env : Detector
  trk : Detector
  clamp : Detector
  history : Vector Int 16
deriving DecidableEq, Repr

/-! ### Mark units (chapter 7) -/

/-- Where the context stood, in a mark capture record and in a capture header (sections 7.5, 8.3, 11.7). -/
structure Position where
  tag : Nat
  pass : Nat
  value : Nat
  overrun : Bool
  dwell : Bool
deriving DecidableEq, Repr

/-- Mark unit modes. -/
inductive MarkMode where
  | off
  | compare
  | capture
deriving DecidableEq, Repr

/-- Output modes of a COMPARE unit (section 7.3). -/
inductive OutputMode where
  | level
  | set
  | clear
  | toggle
  | setClear
  | clearSet
  | toggleClear
  | toggleSet
deriving DecidableEq, Repr

/-- Edge settings of a CAPTURE unit. -/
inductive EdgeMode where
  | rising
  | falling
  | both
deriving DecidableEq, Repr

/-- A mark unit's capture record (R155). -/
structure MarkRecord where
  stamp : Nat
  level : Bool
  position : Option Position
deriving DecidableEq, Repr

/-- A mark unit: its record of section 7.1 and the level of its mark input. An absent selector is ANY. -/
structure MarkUnit where
  mode : MarkMode
  selector : Option Nat
  compareAt : Nat
  outputMode : OutputMode
  trigNotify : Bool
  trigCapture : Bool
  trigCut : Bool
  edge : EdgeMode
  prescale : Nat
  captureNotify : Bool
  output : Bool
  counter : Nat
  record : Option MarkRecord
  unread : Bool
  overflow : Bool
  input : Bool
deriving DecidableEq, Repr

/-! ### Response Capture Unit (chapter 8) -/

/-- Capture states (section 8.1). -/
inductive CaptureState where
  | unconfigured
  | armed
  | filling
deriving DecidableEq, Repr

/-- Bank roles (section 8.1). -/
inductive BankRole where
  | free
  | filling
  | committed
deriving DecidableEq, Repr

/-- A capture bank: its role and the words written, in bank order from word 0 (R161). -/
structure Bank where
  role : BankRole
  words : List Int
deriving DecidableEq, Repr

/-- The capture configuration (section 8.1); `withCommand` is the content FEEDBACK_AND_COMMAND. -/
structure CaptureConfig where
  chans : List Nat
  withCommand : Bool
  decimation : Nat
  records : Nat
  rearm : Bool
deriving DecidableEq, Repr

/-- Trigger kinds (section 8.3). -/
inductive TriggerKind where
  | request
  | mark
  | segmentStart
deriving DecidableEq, Repr

/-- Per-channel figures of a capture header: minimum and maximum feedback, and the absent count (R166). -/
structure Figure where
  span : Option (Int × Int)
  absentCount : Nat
deriving DecidableEq, Repr

/-- A capture header (R171). The trigger stamp is absent until the first record is taken (R163). -/
structure Header where
  sequence : Option Nat
  kind : TriggerKind
  unit : Option Nat
  stamp : Option Nat
  position : Option Position
  chans : List Nat
  withCommand : Bool
  decimation : Nat
  records : Nat
  taken : Nat
  missed : Bool
  figures : List Figure
deriving DecidableEq, Repr

/-- The Response Capture Unit's state. -/
structure CaptureUnit where
  state : CaptureState
  config : Option CaptureConfig
  bank0 : Bank
  bank1 : Bank
  filling : Option Header
  committed : Option Header
  sequence : Nat
deriving DecidableEq, Repr

/-! ### Event Unit (chapter 9) -/

/-- The nine event causes (section 9.1). -/
inductive Cause where
  | trip
  | channel
  | limit
  | engine
  | segment
  | advance
  | mark
  | capture
  | clip
deriving DecidableEq, Repr

/-- Outcome a CLIP cause reports (R175). -/
inductive ClipOutcome where
  | ready
  | incomplete
  | checksum
deriving DecidableEq, Repr

/-- The limit record (R131). -/
structure LimitRecord where
  channel : Nat
  detector : DetectorKind
  action : Action
  stamp : Nat
  measured : Int
deriving DecidableEq, Repr

/-- The detail a raising carries (R175). CHANNEL carries none. -/
inductive Detail where
  | trip (cause : EngineCause) (channel : Option Nat) (stamp : Nat)
  | limit (record : LimitRecord)
  | engine (left entered : EngineState) (cause : Option EngineCause)
  | segment (sequence : Nat)
  | advance (stamp : Nat)
  | mark (unit stamp : Nat)
  | capture (sequence : Option Nat)
  | clip (id : Nat) (outcome : ClipOutcome)
deriving DecidableEq, Repr

/-- State of one cause (section 9.1). -/
structure CauseState where
  count : Nat
  enable : Bool
  detail : Option Detail
deriving DecidableEq, Repr

/-- The Event Unit's state: the causes in priority order, and MARK's unit set as a mask (R176). -/
structure EventUnit where
  causes : Vector CauseState 9
  markSet : BitVec 6
deriving DecidableEq, Repr

/-! ### Supervisory Link Interface (chapter 10) -/

/-- What kind of frame the transmit queue holds (R190). -/
inductive FrameClass where
  | reply
  | busy
  | notice (cause : Cause)
  | startNotice
deriving DecidableEq, Repr

/-- A frame of the transmit queue, less its sync pair, length and CRC, which the frame's bytes fix (section 11.2). -/
structure Frame where
  cls : FrameClass
  code : Nat
  tag : Nat
  payload : List Byte
deriving DecidableEq, Repr

/-- A request in the request buffer (R188). -/
structure RequestFrame where
  code : Nat
  tag : Nat
  payload : List Byte
deriving DecidableEq, Repr

/-- The receiver (R185). `start` is the arrival of the first sync byte; bytes are kept in arrival order. -/
inductive Receiver where
  | hunt
  | sync (start : Nat)
  | header (start : Nat) (bytes : List Byte)
  | payload (start : Nat) (header : List Byte) (length : Nat) (bytes : List Byte)
  | check (start : Nat) (header payload bytes : List Byte)
deriving DecidableEq, Repr

/-- The five link error counters (R187). -/
structure LinkCounters where
  lengthErrors : Nat
  overlong : Nat
  crcErrors : Nat
  kindErrors : Nat
  busyAnswers : Nat
deriving DecidableEq, Repr

/-- The Supervisory Link Interface's state. The frame that is leaving stands apart from the frames that wait behind it.
`timerSince` is when the supervision timer was last started, absent while it is stopped (R192). -/
structure LinkUnit where
  receiver : Receiver
  buffer : List RequestFrame
  leaving : Option Frame
  waiting : List Frame
  counters : LinkCounters
  interval : Nat
  timerSince : Option Nat
deriving DecidableEq, Repr

/-! ### The whole part -/

/-- The state of the part, by owning block. `clock` is the elapsed time of the latest timed event and `pending` the queue of
the commands that wait; both are the model's own. -/
structure State where
  cs : ClipStore
  sq : SegmentQueue
  pe : Engine
  dcu : DriveUnit
  cpc : PortUnit
  lm : Vector ChannelLimits 16
  mu : Vector MarkUnit 6
  rcu : CaptureUnit
  eu : EventUnit
  sli : LinkUnit
  clock : Nat
  pending : List Instr
deriving DecidableEq, Repr

/-! ### Full-reset values -/

/-- R1. -/
def DriveRecord.reset : DriveRecord :=
  { offset := 0, clampMin := -32768, clampMax := 32767, slew := 65535, lastOutput := 0 }

/-- R20. -/
def GainSet.reset : GainSet :=
  { active := Vector.replicate 16 0, pending := Vector.replicate 16 0, flag := false }

/-- R1, R20. -/
def DriveUnit.reset : DriveUnit :=
  { drives := Vector.replicate 16 DriveRecord.reset, gains := Vector.replicate 8 GainSet.reset }

/-- A FREE clip record with reference count 0 and every optional field absent (R27). -/
def Clip.reset : Clip :=
  { state := .free, load := none, computed := none, failReason := none, refs := 0 }

/-- R26, R27: every clip FREE, the verification order empty, all 2048 pages free. -/
def ClipStore.reset : ClipStore :=
  { points := [], freePages := List.range Config.pages, clips := Vector.replicate 64 Clip.reset, order := [], verifierSince := 0 }

/-- R44. -/
def SegmentQueue.reset : SegmentQueue :=
  { entries := [], cursor := 0, stack := [], tailDepth := 0, doneRing := [], nextSeq := 0, watch := false }

/-- R73. -/
def Engine.reset : Engine :=
  { state := .idle, target := none, stopCause := none, lam := 0, tripCause := none, tripChannel := none, lastAction := none,
    ctx := none, rate := 1024, source := .internal, ri := 2048, ro := 2048, counter := 0, lastUpdateAt := none,
    syncWatchFrom := 0 }

/-- R104. A response window that is open at a full reset is dropped with the rest of the record, which R104 does not say (log
entry 25). -/
def Port.reset : Port :=
  { state := .off, owner := .local, changed := false, faultCause := none, missCount := 0, linkCount := none, setpoint := none,
    feedback := none, enable := false, window := none }

/-- R104. The level of Rig Ready is an input; the model's reset has it deasserted (log entry 6). -/
def PortUnit.reset : PortUnit :=
  { ports := Vector.replicate 16 Port.reset, rigMode := .local, rigReady := false }

/-- A detector in CLEAR. -/
def Detector.cleared : Detector := { state := .clear, count := 0 }

/-- R123. -/
def LimitConfig.reset : LimitConfig :=
  { fMin := -32768, fMax := 32767, eMax := 65535, delay := 0, envPersist := 1, trkPersist := 1, kc := 65535,
    env := { action := .note, enable := false }, trk := { action := .note, enable := false },
    clamp := { action := .note, enable := false } }

/-- R123. -/
def ChannelLimits.reset : ChannelLimits :=
  { config := LimitConfig.reset, env := Detector.cleared, trk := Detector.cleared, clamp := Detector.cleared,
    history := Vector.replicate 16 0 }

/-- R141. The level of a mark input is an input; the model's reset has it low (log entry 6). -/
def MarkUnit.reset : MarkUnit :=
  { mode := .off, selector := none, compareAt := 0, outputMode := .level, trigNotify := false, trigCapture := false,
    trigCut := false, edge := .rising, prescale := 1, captureNotify := false, output := false, counter := 0, record := none,
    unread := false, overflow := false, input := false }

/-- R159. -/
def CaptureUnit.reset : CaptureUnit :=
  { state := .unconfigured, config := none, bank0 := { role := .free, words := [] }, bank1 := { role := .free, words := [] },
    filling := none, committed := none, sequence := 0 }

/-- R173. -/
def EventUnit.reset : EventUnit :=
  { causes := Vector.replicate 9 { count := 0, enable := false, detail := none }, markSet := 0 }

/-- R187. -/
def LinkCounters.reset : LinkCounters :=
  { lengthErrors := 0, overlong := 0, crcErrors := 0, kindErrors := 0, busyAnswers := 0 }

/-- The Start Notice of R197, laid out as section 11.8 gives it: ETALIX, RD16, revision 1, reset source, update counter 0. -/
def Frame.startNotice (source : ResetSource) : Frame :=
  { cls := .startNotice, code := 0xF1, tag := 0,
    payload := [0x45, 0x54, 0x41, 0x4C, 0x49, 0x58, 0x52, 0x44, 0x31, 0x36, 1,
      (match source with | .powerOn => 1 | .resetInput => 2), 0, 0, 0, 0, 0, 0] }

/-- R197: the receiver hunts, buffer and queue are empty, and the one Start Notice has begun to leave. -/
def LinkUnit.reset (source : ResetSource) : LinkUnit :=
  { receiver := .hunt, buffer := [], leaving := some (Frame.startNotice source), waiting := [], counters := LinkCounters.reset,
    interval := 0, timerSince := none }

/-- The part right after a full reset made at power-on, with no command waiting. -/
def State.reset : State :=
  { cs := ClipStore.reset, sq := SegmentQueue.reset, pe := Engine.reset, dcu := DriveUnit.reset, cpc := PortUnit.reset,
    lm := Vector.replicate 16 ChannelLimits.reset, mu := Vector.replicate 6 MarkUnit.reset, rcu := CaptureUnit.reset,
    eu := EventUnit.reset, sli := LinkUnit.reset .powerOn, clock := 0, pending := [] }

end Sys2Proof.Machine
end

