-- ==== Sys2Proof/Machine/Bytes.lean ====
section
/-! DEFINITION. Field encoding of the supervisory line (sections 11.1 to 11.3): numbers, counts, masks, presence bytes, the
codes of the enumerations and statuses, and the frame with its CRC. -/

namespace Sys2Proof.Machine

open Sys2Proof

/-! ### Numbers and counts (R198) -/

/-- An unsigned number in `n` bytes, most significant byte first (R198). -/
def beBytes : Nat → Nat → List Byte
  | 0, _ => []
  | n + 1, v => BitVec.ofNat 8 (v / 256 ^ n) :: beBytes n v

/-- The unsigned number a byte list spells, most significant byte first (R198). -/
def beValue (bytes : List Byte) : Nat :=
  bytes.foldl (fun acc b => acc * 256 + b.toNat) 0

/-- The 16-bit pattern of a count. -/
def countPattern (v : Int) : Point := BitVec.ofInt 16 v

/-- A signed count: 2 bytes, two's complement (R198). -/
def countBytes (v : Int) : List Byte := beBytes 2 (countPattern v).toNat

/-- A measured value that may exceed a count: 4 bytes, two's complement (R198). -/
def measuredBytes (v : Int) : List Byte := beBytes 4 (BitVec.ofInt 32 v).toNat

/-- A point: its 16-bit pattern (R28). -/
def pointBytes (p : Point) : List Byte := beBytes 2 p.toNat

/-- An update stamp: 6 bytes (R198). -/
def stampBytes (v : Nat) : List Byte := beBytes 6 v

/-- A flag: 1 byte (R198). -/
def flagBytes (b : Bool) : List Byte := [if b then 1 else 0]

/-- An optional field: its bytes, or as many zero bytes as it takes (R198). -/
def optionalBytes {α : Type} (width : Nat) (encode : α → List Byte) : Option α → List Byte
  | some a => encode a
  | none => List.replicate width 0

/-- Presence bits as one number, bit 0 for the first field (R198). -/
def presenceValue : List Bool → Nat
  | [] => 0
  | b :: bs => (if b then 1 else 0) + 2 * presenceValue bs

/-- Presence bytes: one bit for each optional field, bit 0 of the first byte for the first, as many bytes as the fields need
(R198). -/
def presenceBytes : List Bool → List Byte
  | b0 :: b1 :: b2 :: b3 :: b4 :: b5 :: b6 :: b7 :: c :: rest =>
    BitVec.ofNat 8 (presenceValue [b0, b1, b2, b3, b4, b5, b6, b7]) :: presenceBytes (c :: rest)
  | bits => [BitVec.ofNat 8 (presenceValue bits)]

/-! ### Masks (R198) -/

/-- The channels of a 2-byte mask, in ascending order. -/
def maskChannels (mask : Nat) : List Nat := (List.range 16).filter fun n => mask.testBit n

/-- The mask of the numbers below `width` that satisfy `p`. -/
def maskOf (width : Nat) (p : Nat → Bool) : Nat :=
  (List.range width).foldl (fun acc n => if p n then acc + 2 ^ n else acc) 0

/-- The 2-byte mask of a channel list. -/
def channelMask (chans : List Nat) : Nat := maskOf 16 fun n => chans.contains n

/-! ### Codes of the enumerations (section 11.3) -/

def ClipState.code : ClipState → Nat
  | .free => 0 | .loading => 1 | .verifying => 2 | .ready => 3 | .failed => 4

def FailReason.code : FailReason → Nat
  | .incomplete => 1 | .checksum => 2

def ClipOutcome.code : ClipOutcome → Nat
  | .ready => 0 | .incomplete => 1 | .checksum => 2

def PlayKind.code : PlayKind → Nat
  | .play => 0 | .dwell => 1

def DoneStatus.code : DoneStatus → Nat
  | .complete => 0 | .cut => 1 | .skipped => 2 | .flushed => 3

def EngineState.code : EngineState → Nat
  | .idle => 0 | .rampIn => 1 | .running => 2 | .rampOut => 3 | .paused => 4 | .tripped => 5 | .returning => 6

def Target.code : Target → Nat
  | .paused => 4 | .idle => 0

def EngineCause.code : EngineCause → Nat
  | .hostStop => 1 | .hostPause => 2 | .queueEmpty => 3 | .clipNotReady => 4 | .channelNotEngaged => 5 | .limitPause => 6
  | .limitStop => 7 | .supervision => 8 | .rigReadyLost => 9 | .channelFault => 10 | .limitTrip => 11 | .timebaseLost => 12

def causeCode (c : Option EngineCause) : Nat := (c.map EngineCause.code).getD 0

/-- Place of a cause in the Event Unit, which is its priority less one (section 9.1). -/
def Cause.index : Cause → Nat
  | .trip => 0 | .channel => 1 | .limit => 2 | .engine => 3 | .segment => 4 | .advance => 5 | .mark => 6 | .capture => 7
  | .clip => 8

/-- The nine causes in priority order. -/
def allCauses : List Cause := [.trip, .channel, .limit, .engine, .segment, .advance, .mark, .capture, .clip]

def Cause.code (c : Cause) : Nat := c.index + 1

def detectorCode : DetectorKind → Nat
  | .envelope => 0 | .tracking => 1 | .clampRate => 2

def DetectorState.code : DetectorState → Nat
  | .clear => 0 | .counting => 1 | .triggered => 2

def Action.code : Action → Nat
  | .note => 0 | .pause => 1 | .stop => 2 | .trip => 3

def TriggerKind.code : TriggerKind → Nat
  | .request => 0 | .mark => 1 | .segmentStart => 2

def Owner.code : Owner → Nat
  | .local => 0 | .replay => 1

def PortState.code : PortState → Nat
  | .off => 0 | .linking => 1 | .standby => 2 | .engaged => 3 | .fault => 4

def FaultCause.code : FaultCause → Nat
  | .overload => 0 | .linkLost => 1 | .noLink => 2

def TimebaseSource.code : TimebaseSource → Nat
  | .internal => 0 | .externalSync => 1

def MarkMode.code : MarkMode → Nat
  | .off => 0 | .compare => 1 | .capture => 2

def OutputMode.code : OutputMode → Nat
  | .level => 0 | .set => 1 | .clear => 2 | .toggle => 3 | .setClear => 4 | .clearSet => 5 | .toggleClear => 6 | .toggleSet => 7

def EdgeMode.code : EdgeMode → Nat
  | .rising => 0 | .falling => 1 | .both => 2

def CaptureState.code : CaptureState → Nat
  | .unconfigured => 0 | .armed => 1 | .filling => 2

/-- The statuses of a reply (R191), with the byte values of section 11.2 in `Status.code`. -/
inductive Status where
  | ok
  | unknownRequest
  | badLength
  | invalidValue
  | wrongState
  | noSpace
  | queueFull
  | notFound
  | inUse
  | notOwner
  | notReady
  | nesting
  | unbalanced
  | duplicateTag
  | clipState
  | clipNotReady
  | channelNotEngaged
  | queueEmpty
  | outOfOrder
  | busyLink
deriving DecidableEq, Repr

def statusCode : Status → Nat
  | .ok => 0x00 | .unknownRequest => 0x01 | .badLength => 0x02 | .invalidValue => 0x03 | .wrongState => 0x04 | .noSpace => 0x05
  | .queueFull => 0x06 | .notFound => 0x07 | .inUse => 0x08 | .notOwner => 0x09 | .notReady => 0x0A | .nesting => 0x0B
  | .unbalanced => 0x0C | .duplicateTag => 0x0D | .clipState => 0x0E | .clipNotReady => 0x0F | .channelNotEngaged => 0x10
  | .queueEmpty => 0x11 | .outOfOrder => 0x12 | .busyLink => 0x13

/-! ### Enumeration bytes of requests (section 11.3): absent where the byte has no meaning -/

def readFlag : Nat → Option Bool
  | 0 => some false | 1 => some true | _ => none

def readOwner : Nat → Option Owner
  | 0 => some .local | 1 => some .replay | _ => none

def readSource : Nat → Option TimebaseSource
  | 0 => some .internal | 1 => some .externalSync | _ => none

def readAction : Nat → Option Action
  | 0 => some .note | 1 => some .pause | 2 => some .stop | 3 => some .trip | _ => none

def readOutputMode : Nat → Option OutputMode
  | 0 => some .level | 1 => some .set | 2 => some .clear | 3 => some .toggle | 4 => some .setClear | 5 => some .clearSet
  | 6 => some .toggleClear | 7 => some .toggleSet | _ => none

def readEdge : Nat → Option EdgeMode
  | 0 => some .rising | 1 => some .falling | 2 => some .both | _ => none

/-- A clip selector byte: 0x00 to 0x3F a clip id, 0xFF ANY (R198). -/
def readSelector (v : Nat) : Option (Option Nat) :=
  if v < 64 then some (some v) else if v = 0xFF then some none else none

/-! ### The frame (R186, R199) -/

/-- One step of the CRC register for a bit, most significant bit first; polynomial x^16 + x^12 + x^5 + 1 (R186). -/
def crcBit (reg : BitVec 16) (bit : Bool) : BitVec 16 :=
  if reg.msb != bit then (reg <<< 1) ^^^ 0x1021#16 else reg <<< 1

/-- The CRC register after one byte, most significant bit first (R186). -/
def crcByte (reg : BitVec 16) (b : Byte) : BitVec 16 :=
  [7, 6, 5, 4, 3, 2, 1, 0].foldl (fun r i => crcBit r (b.getLsbD i)) reg

/-- The CRC of a byte list: the register starts at 65535 and is not inverted at the end (R186). -/
def crc16 (bytes : List Byte) : Nat := (bytes.foldl crcByte 0xFFFF#16).toNat

/-- The bytes of a frame that its CRC covers, from the kind through the payload (R186, R199). -/
def coveredBytes (kind code tag : Nat) (payload : List Byte) : List Byte :=
  beBytes 1 kind ++ beBytes 1 code ++ beBytes 2 tag ++ beBytes 2 payload.length ++ payload

/-- The kind byte of a frame the part sends: REPLY, or NOTICE (section 11.2). -/
def FrameClass.kindCode : FrameClass → Nat
  | .reply => 2 | .busy => 2 | .notice _ => 3 | .startNotice => 3

/-- The bytes of a frame on the transmit line: sync pair, header, payload and CRC (R199). -/
def frameBytes (f : Frame) : List Byte :=
  let covered := coveredBytes f.cls.kindCode f.code f.tag f.payload
  [0x5A, 0xC3] ++ covered ++ beBytes 2 (crc16 covered)

end Sys2Proof.Machine
end

