-- ==== Sys2Proof/Machine/Operands.lean ====
section
/-! DEFINITION. The operand forms of the block: the code of every request, its payload, and the judgement of a payload's
length (R189, R198, R199, R200). -/

namespace Sys2Proof.Machine

open Sys2Proof

/-- The code of a request (R199). -/
def requestCode : Request → Nat
  | .openClip .. => 0x10 | .clipData .. => 0x11 | .closeClip .. => 0x12 | .freeClip .. => 0x13 | .clipInfo .. => 0x14
  | .storeInfo => 0x15
  | .appendEntry .. => 0x20 | .modifyEntry .. => 0x21 | .flushQueue => 0x22 | .readQueue .. => 0x23 | .readDone .. => 0x24
  | .advanceWatch => 0x25
  | .start => 0x30 | .pause => 0x31 | .resume => 0x32 | .stop => 0x33 | .clearTrip => 0x34 | .setRamp .. => 0x35
  | .setTimebase .. => 0x36 | .readEngine => 0x37
  | .configureChannel .. => 0x40 | .writeGainSet .. => 0x41 | .readGainSet .. => 0x42
  | .channelPowerOn .. => 0x50 | .channelPowerOff .. => 0x51 | .setRigMode .. => 0x52 | .setChannelOwner .. => 0x53
  | .engage .. => 0x54 | .release .. => 0x55 | .acknowledgeChannels .. => 0x56 | .readChannel .. => 0x57
  | .configureLimits .. => 0x60
  | .configureMark .. => 0x70 | .setMarkOutput .. => 0x71 | .readMark .. => 0x72
  | .configureCapture .. => 0x80 | .captureTrigger => 0x81 | .abortCapture => 0x82 | .readCapture .. => 0x83
  | .captureInfo => 0x84
  | .enableEvents .. => 0x90 | .takeEvent => 0x91
  | .setSupervision .. => 0xA0 | .queryIdentity => 0xA1 | .queryStatus .. => 0xA2 | .resetPart => 0xA3

/-- The codes that name a request (R199). -/
def knownCodes : List Nat :=
  [0x10, 0x11, 0x12, 0x13, 0x14, 0x15, 0x20, 0x21, 0x22, 0x23, 0x24, 0x25, 0x30, 0x31, 0x32, 0x33, 0x34, 0x35, 0x36, 0x37,
   0x40, 0x41, 0x42, 0x50, 0x51, 0x52, 0x53, 0x54, 0x55, 0x56, 0x57, 0x60, 0x70, 0x71, 0x72, 0x80, 0x81, 0x82, 0x83, 0x84,
   0x90, 0x91, 0xA0, 0xA1, 0xA2, 0xA3]

/-! ### Payloads as bytes -/

/-- The payload of an Append Entry (section 11.4). -/
def appendPayload : AppendFields → List Byte
  | .play tag clip flags gainSet passes first count =>
    beBytes 1 0 ++ beBytes 2 tag ++ beBytes 1 clip ++ beBytes 1 flags ++ beBytes 1 gainSet ++ beBytes 2 passes ++ beBytes 4 first
      ++ beBytes 4 count
  | .dwell tag flags length => beBytes 1 1 ++ beBytes 2 tag ++ beBytes 1 flags ++ beBytes 4 length
  | .loopOpen tag count => beBytes 1 2 ++ beBytes 2 tag ++ beBytes 2 count
  | .loopClose tag => beBytes 1 3 ++ beBytes 2 tag
  | .unknown kind body => beBytes 1 kind ++ body

/-- The payload of a Configure Mark (R200). -/
def markPayload : MarkFields → List Byte
  | .off unit => beBytes 1 unit ++ beBytes 1 0
  | .compare unit selector value output triggers =>
    beBytes 1 unit ++ beBytes 1 1 ++ beBytes 1 selector ++ beBytes 4 value ++ beBytes 1 output ++ beBytes 1 triggers
  | .capture unit edge prescale notify => beBytes 1 unit ++ beBytes 1 2 ++ beBytes 1 edge ++ beBytes 1 prescale ++ beBytes 1 notify
  | .unknown unit mode body => beBytes 1 unit ++ beBytes 1 mode ++ body

/-- The payload of a Configure Limits after its channel (R134, R198): each detector's action stands before its enable, the
detectors in the order ENVELOPE, TRACKING, CLAMP_RATE (log entry 9). -/
def limitPayload (l : LimitFields) : List Byte :=
  countBytes l.fMin ++ countBytes l.fMax ++ beBytes 2 l.eMax ++ beBytes 1 l.delay ++ beBytes 1 l.envPersist
    ++ beBytes 1 l.trkPersist ++ beBytes 2 l.kc ++ beBytes 1 l.envAction ++ beBytes 1 l.envEnable ++ beBytes 1 l.trkAction
    ++ beBytes 1 l.trkEnable ++ beBytes 1 l.clampAction ++ beBytes 1 l.clampEnable

/-- The payload of a request: its fields at their natural widths, in the order their rules list them (R198, R200). -/
def requestPayload : Request → List Byte
  | .openClip id mask upsample length checksum =>
    beBytes 1 id ++ beBytes 2 mask ++ beBytes 1 upsample ++ beBytes 4 length ++ beBytes 4 checksum
  | .clipData id offset points => beBytes 1 id ++ beBytes 4 offset ++ beBytes 2 points.length ++ points.flatMap pointBytes
  | .closeClip id => beBytes 1 id
  | .freeClip id => beBytes 1 id
  | .clipInfo id position => beBytes 1 id ++ beBytes 2 position
  | .storeInfo => []
  | .appendEntry fields => appendPayload fields
  | .modifyEntry entry changes =>
    beBytes 2 entry ++ beBytes 1 changes.length ++ changes.flatMap (fun c => beBytes 1 c.field ++ beBytes 4 c.value)
  | .flushQueue => []
  | .readQueue position withStats => beBytes 1 position ++ beBytes 1 withStats
  | .readDone sequence => beBytes 4 sequence
  | .advanceWatch => []
  | .start => []
  | .pause => []
  | .resume => []
  | .stop => []
  | .clearTrip => []
  | .setRamp ri ro => beBytes 2 ri ++ beBytes 2 ro
  | .setTimebase rate source => beBytes 2 rate ++ beBytes 1 source
  | .readEngine => []
  | .configureChannel channel offset clampMin clampMax slew =>
    beBytes 1 channel ++ countBytes offset ++ countBytes clampMin ++ countBytes clampMax ++ beBytes 2 slew
  | .writeGainSet set gains => beBytes 1 set ++ gains.flatMap (beBytes 2)
  | .readGainSet set => beBytes 1 set
  | .channelPowerOn channel => beBytes 1 channel
  | .channelPowerOff channel => beBytes 1 channel
  | .setRigMode mode => beBytes 1 mode
  | .setChannelOwner channel owner => beBytes 1 channel ++ beBytes 1 owner
  | .engage channel => beBytes 1 channel
  | .release channel => beBytes 1 channel
  | .acknowledgeChannels mask => beBytes 2 mask
  | .readChannel channel => beBytes 1 channel
  | .configureLimits channel limits => beBytes 1 channel ++ limitPayload limits
  | .configureMark fields => markPayload fields
  | .setMarkOutput unit level => beBytes 1 unit ++ beBytes 1 level
  | .readMark unit clearOverflow => beBytes 1 unit ++ beBytes 1 clearOverflow
  | .configureCapture mask content decimation records rearm =>
    beBytes 2 mask ++ beBytes 1 content ++ beBytes 1 decimation ++ beBytes 4 records ++ beBytes 1 rearm
  | .captureTrigger => []
  | .abortCapture => []
  | .readCapture sequence offset count => beBytes 4 sequence ++ beBytes 4 offset ++ beBytes 2 count
  | .captureInfo => []
  | .enableEvents mask => beBytes 2 mask
  | .takeEvent => []
  | .setSupervision interval => beBytes 2 interval
  | .queryIdentity => []
  | .queryStatus clear => beBytes 1 clear
  | .resetPart => []

/-! ### Bytes as payloads -/

/-- The number that the `n` bytes from place `at'` spell. -/
def field (p : List Byte) (at' n : Nat) : Nat := beValue ((p.drop at').take n)

/-- The count that the 2 bytes from place `at'` spell. -/
def countField (p : List Byte) (at' : Nat) : Int := (BitVec.ofNat 16 (field p at' 2)).toInt

/-- The points a byte list spells, two bytes a point. -/
def readPoints : List Byte → List Point
  | hi :: lo :: rest => (hi ++ lo : BitVec 16) :: readPoints rest
  | _ => []

/-- The changes a Modify Entry's byte list spells, five bytes a change (R200). -/
def readChanges : List Byte → List FieldChange
  | f :: v3 :: v2 :: v1 :: v0 :: rest => { field := f.toNat, value := beValue [v3, v2, v1, v0] } :: readChanges rest
  | _ => []

/-- Sixteen 2-byte gains. -/
def readGains (p : List Byte) : List Nat := (readPoints p).map BitVec.toNat

/-- What the judgement of a taken request's code and payload length gives (R189). -/
inductive Parsed where
  | unknownCode
  | badLength
  | request (r : Request)
deriving DecidableEq, Repr

/-- A request whose payload has one fixed length. -/
def fixedLength (p : List Byte) (n : Nat) (r : Request) : Parsed :=
  if p.length = n then .request r else .badLength

/-- The payload of an Append Entry, as its kind byte calls for (R200). -/
def parseAppend (p : List Byte) : Parsed :=
  if p.length < 1 then .badLength
  else match field p 0 1 with
    | 0 => fixedLength p 16 (.appendEntry (.play (field p 1 2) (field p 3 1) (field p 4 1) (field p 5 1) (field p 6 2)
        (field p 8 4) (field p 12 4)))
    | 1 => fixedLength p 8 (.appendEntry (.dwell (field p 1 2) (field p 3 1) (field p 4 4)))
    | 2 => fixedLength p 5 (.appendEntry (.loopOpen (field p 1 2) (field p 3 2)))
    | 3 => fixedLength p 3 (.appendEntry (.loopClose (field p 1 2)))
    | kind => if 3 ≤ p.length ∧ p.length ≤ 16 then .request (.appendEntry (.unknown kind (p.drop 1))) else .badLength

/-- The payload of a Configure Mark, as its mode byte calls for (R200). -/
def parseMark (p : List Byte) : Parsed :=
  if p.length < 2 then .badLength
  else match field p 1 1 with
    | 0 => fixedLength p 2 (.configureMark (.off (field p 0 1)))
    | 1 => fixedLength p 9 (.configureMark (.compare (field p 0 1) (field p 2 1) (field p 3 4) (field p 7 1) (field p 8 1)))
    | 2 => fixedLength p 5 (.configureMark (.capture (field p 0 1) (field p 2 1) (field p 3 1) (field p 4 1)))
    | mode =>
      if 2 ≤ p.length ∧ p.length ≤ 9 then .request (.configureMark (.unknown (field p 0 1) mode (p.drop 2))) else .badLength

/-- The payload of a Clip Data, which must fit the point count it carries (R31, R200). -/
def parseClipData (p : List Byte) : Parsed :=
  if 7 ≤ p.length ∧ p.length = 7 + 2 * field p 5 2 then
    .request (.clipData (field p 0 1) (field p 1 4) (readPoints (p.drop 7)))
  else .badLength

/-- The payload of a Modify Entry, which must fit the change count it carries (R200). -/
def parseModify (p : List Byte) : Parsed :=
  if 3 ≤ p.length ∧ p.length = 3 + 5 * field p 2 1 then
    .request (.modifyEntry (field p 0 2) (readChanges (p.drop 3)))
  else .badLength

/-- The payload of a Configure Limits (R134). -/
def parseLimits (p : List Byte) : Parsed :=
  fixedLength p 18 (.configureLimits (field p 0 1)
    { fMin := countField p 1, fMax := countField p 3, eMax := field p 5 2, delay := field p 7 1, envPersist := field p 8 1,
      trkPersist := field p 9 1, kc := field p 10 2, envAction := field p 12 1, envEnable := field p 13 1,
      trkAction := field p 14 1, trkEnable := field p 15 1, clampAction := field p 16 1, clampEnable := field p 17 1 })

/-- The judgement of a taken request: its code first, then its payload length, then its fields (R189, R200). -/
def parseRequest (code : Nat) (p : List Byte) : Parsed :=
  match code with
  | 0x10 => fixedLength p 12 (.openClip (field p 0 1) (field p 1 2) (field p 3 1) (field p 4 4) (field p 8 4))
  | 0x11 => parseClipData p
  | 0x12 => fixedLength p 1 (.closeClip (field p 0 1))
  | 0x13 => fixedLength p 1 (.freeClip (field p 0 1))
  | 0x14 => fixedLength p 3 (.clipInfo (field p 0 1) (field p 1 2))
  | 0x15 => fixedLength p 0 .storeInfo
  | 0x20 => parseAppend p
  | 0x21 => parseModify p
  | 0x22 => fixedLength p 0 .flushQueue
  | 0x23 => fixedLength p 2 (.readQueue (field p 0 1) (field p 1 1))
  | 0x24 => fixedLength p 4 (.readDone (field p 0 4))
  | 0x25 => fixedLength p 0 .advanceWatch
  | 0x30 => fixedLength p 0 .start
  | 0x31 => fixedLength p 0 .pause
  | 0x32 => fixedLength p 0 .resume
  | 0x33 => fixedLength p 0 .stop
  | 0x34 => fixedLength p 0 .clearTrip
  | 0x35 => fixedLength p 4 (.setRamp (field p 0 2) (field p 2 2))
  | 0x36 => fixedLength p 3 (.setTimebase (field p 0 2) (field p 2 1))
  | 0x37 => fixedLength p 0 .readEngine
  | 0x40 => fixedLength p 9 (.configureChannel (field p 0 1) (countField p 1) (countField p 3) (countField p 5) (field p 7 2))
  | 0x41 => fixedLength p 33 (.writeGainSet (field p 0 1) (readGains (p.drop 1)))
  | 0x42 => fixedLength p 1 (.readGainSet (field p 0 1))
  | 0x50 => fixedLength p 1 (.channelPowerOn (field p 0 1))
  | 0x51 => fixedLength p 1 (.channelPowerOff (field p 0 1))
  | 0x52 => fixedLength p 1 (.setRigMode (field p 0 1))
  | 0x53 => fixedLength p 2 (.setChannelOwner (field p 0 1) (field p 1 1))
  | 0x54 => fixedLength p 1 (.engage (field p 0 1))
  | 0x55 => fixedLength p 1 (.release (field p 0 1))
  | 0x56 => fixedLength p 2 (.acknowledgeChannels (field p 0 2))
  | 0x57 => fixedLength p 1 (.readChannel (field p 0 1))
  | 0x60 => parseLimits p
  | 0x70 => parseMark p
  | 0x71 => fixedLength p 2 (.setMarkOutput (field p 0 1) (field p 1 1))
  | 0x72 => fixedLength p 2 (.readMark (field p 0 1) (field p 1 1))
  | 0x80 => fixedLength p 9 (.configureCapture (field p 0 2) (field p 2 1) (field p 3 1) (field p 4 4) (field p 8 1))
  | 0x81 => fixedLength p 0 .captureTrigger
  | 0x82 => fixedLength p 0 .abortCapture
  | 0x83 => fixedLength p 10 (.readCapture (field p 0 4) (field p 4 4) (field p 8 2))
  | 0x84 => fixedLength p 0 .captureInfo
  | 0x90 => fixedLength p 2 (.enableEvents (field p 0 2))
  | 0x91 => fixedLength p 0 .takeEvent
  | 0xA0 => fixedLength p 2 (.setSupervision (field p 0 2))
  | 0xA1 => fixedLength p 0 .queryIdentity
  | 0xA2 => fixedLength p 1 (.queryStatus (field p 0 1))
  | 0xA3 => fixedLength p 0 .resetPart
  | _ => .unknownCode

end Sys2Proof.Machine
end

