-- ==== Sys2Proof/Machine/Ops.lean ====
section
/-! DEFINITION. The operations every block shares: memory, access to the records of each block, the transmit path, raising a
cause, and the taking of a request. -/

namespace Sys2Proof.Machine

open Sys2Proof

/-! ### Word memory (log entry 4) -/

/-- What a word of memory reads as; 0 where nothing is listed. -/
def ramRead : Ram → Nat → Point
  | [], _ => 0
  | (b, v) :: rest, a => if a = b then v else ramRead rest a

/-- Writing one word keeps the canonical form: addresses rise and no entry is 0. -/
def ramWrite : Ram → Nat → Point → Ram
  | [], a, v => if v = 0 then [] else [(a, v)]
  | (b, w) :: rest, a, v =>
    if a < b then (if v = 0 then (b, w) :: rest else (a, v) :: (b, w) :: rest)
    else if a = b then (if v = 0 then rest else (b, v) :: rest)
    else (b, w) :: ramWrite rest a v

/-- Every listed address is above `low`, addresses rise, and no entry is 0. -/
def ramAbove (low : Nat) : Ram → Bool
  | [] => true
  | (b, w) :: rest => low ≤ b && w != 0 && ramAbove (b + 1) rest

/-- The canonical form of a memory. -/
def ramWf (m : Ram) : Bool := ramAbove 0 m

/-! ### Elapsed time (log entry 2) -/

/-- The clock moves on to the moment of a timed event; it never goes back. -/
def State.tick (s : State) (at' : Nat) : State := { s with clock := max s.clock at' }

/-! ### Records of the blocks -/

def State.clip (s : State) (id : Nat) : Clip := s.cs.clips[id]?.getD Clip.reset
def State.setClip (s : State) (id : Nat) (c : Clip) : State :=
  { s with cs := { s.cs with clips := s.cs.clips.setIfInBounds id c } }

def State.drive (s : State) (ch : Nat) : DriveRecord := s.dcu.drives[ch]?.getD DriveRecord.reset
def State.setDrive (s : State) (ch : Nat) (d : DriveRecord) : State :=
  { s with dcu := { s.dcu with drives := s.dcu.drives.setIfInBounds ch d } }

def State.gainSet (s : State) (g : Nat) : GainSet := s.dcu.gains[g]?.getD GainSet.reset
def State.setGainSet (s : State) (g : Nat) (v : GainSet) : State :=
  { s with dcu := { s.dcu with gains := s.dcu.gains.setIfInBounds g v } }

def State.port (s : State) (ch : Nat) : Port := s.cpc.ports[ch]?.getD Port.reset
def State.setPort (s : State) (ch : Nat) (p : Port) : State :=
  { s with cpc := { s.cpc with ports := s.cpc.ports.setIfInBounds ch p } }

def State.limits (s : State) (ch : Nat) : ChannelLimits := s.lm[ch]?.getD ChannelLimits.reset
def State.setLimits (s : State) (ch : Nat) (l : ChannelLimits) : State := { s with lm := s.lm.setIfInBounds ch l }

def State.mark (s : State) (m : Nat) : MarkUnit := s.mu[m]?.getD MarkUnit.reset
def State.setMark (s : State) (m : Nat) (u : MarkUnit) : State := { s with mu := s.mu.setIfInBounds m u }

def State.cause (s : State) (c : Cause) : CauseState :=
  s.eu.causes[c.index]?.getD { count := 0, enable := false, detail := none }
def State.setCause (s : State) (c : Cause) (v : CauseState) : State :=
  { s with eu := { s.eu with causes := s.eu.causes.setIfInBounds c.index v } }

/-- The context and the other fields of the engine, replaced together. -/
def State.setPe (s : State) (e : Engine) : State := { s with pe := e }
def State.setCtx (s : State) (c : Option Context) : State := { s with pe := { s.pe with ctx := c } }
def State.setSq (s : State) (q : SegmentQueue) : State := { s with sq := q }
def State.setRcu (s : State) (r : CaptureUnit) : State := { s with rcu := r }
def State.setSli (s : State) (l : LinkUnit) : State := { s with sli := l }

/-- The channels 0 to 15. -/
def allChannels : List Nat := List.range Config.channels

/-- A count raised by 1 and held at 4,294,967,295 (R13, R47). -/
def sat32 (n : Nat) : Nat := min Config.max32 (n + 1)

/-! ### Facts of the engine and its context -/

/-- The states in which the context is playing (section 4.1). -/
def EngineState.playing : EngineState → Bool
  | .rampIn => true | .running => true | .rampOut => true | .idle => false | .paused => false | .tripped => false
  | .returning => false

/-- The pass number of a context: passes counted plus one (section 4.3). -/
def passNumber (c : Context) : Nat := c.counted + 1

/-- The channels the context drives: the channel list of a PLAY context (R4). -/
def State.drivenChannels (s : State) : List Nat :=
  match s.pe.ctx with
  | some { body := .play p, .. } => p.chans
  | _ => []

/-- Whether the context drives a channel (R4). -/
def State.driven (s : State) (ch : Nat) : Bool := s.drivenChannels.contains ch

/-- Where the context stands, as a mark capture record and a capture header give it (R155, R164). -/
def State.position (s : State) : Option Position :=
  s.pe.ctx.map fun c =>
    match c.body with
    | .play p => { tag := c.tag, pass := passNumber c, value := p.u, overrun := c.overrun, dwell := false }
    | .dwell elapsed => { tag := c.tag, pass := passNumber c, value := elapsed, overrun := c.overrun, dwell := true }

/-! ### The transmit path (R190) -/

/-- A frame is placed at the back of the transmit queue; in an empty queue it begins to leave. -/
def State.placeFrame (s : State) (f : Frame) : State :=
  match s.sli.leaving with
  | none => s.setSli { s.sli with leaving := some f }
  | some _ => s.setSli { s.sli with waiting := s.sli.waiting ++ [f] }

/-- The payload of an Event Notice (section 11.8). -/
def noticePayload (c : Cause) (count : Nat) : List Byte := beBytes 1 c.code ++ beBytes 1 count

/-- An Event Notice. -/
def noticeFrame (c : Cause) (count : Nat) : Frame :=
  { cls := .notice c, code := 0xF0, tag := 0, payload := noticePayload c count }

/-- An Event Notice is handed on: a waiting notice of the same cause takes the new count and keeps its place, else the
notice is placed (R190). -/
def State.placeNotice (s : State) (c : Cause) (count : Nat) : State :=
  if s.sli.waiting.any (fun f => f.cls == .notice c) then
    s.setSli { s.sli with
      waiting := s.sli.waiting.map fun f => if f.cls == .notice c then { f with payload := noticePayload c count } else f }
  else s.placeFrame (noticeFrame c count)

/-- The frames of the transmit queue, the leaving one first. -/
def State.queuedFrames (s : State) : List Frame := s.sli.leaving.toList ++ s.sli.waiting

/-- The reply places in use: replies to taken requests whose last byte has not left (R190). -/
def State.repliesHeld (s : State) : Nat := (s.queuedFrames.filter fun f => f.cls == .reply).length

/-- The BUSY_LINK replies that wait unsent behind the leaving frame (R188). -/
def State.busyWaiting (s : State) : Nat := (s.sli.waiting.filter fun f => f.cls == .busy).length

/-! ### Raising a cause (R174) -/

/-- A block raises a cause: the count rises, held at 255, the detail is replaced, and a count going from 0 to 1 of an enabled
cause makes a notice (R174, R178). -/
def State.raise (s : State) (c : Cause) (d : Option Detail) : State :=
  let old := s.cause c
  let s' := s.setCause c { old with count := min 255 (old.count + 1), detail := d }
  if old.count = 0 ∧ old.enable then s'.placeNotice c 1 else s'

/-- A mark unit raises MARK and joins MARK's unit set (R149, R176). -/
def State.raiseMark (s : State) (unit stamp : Nat) : State :=
  let s' := s.raise .mark (some (.mark unit stamp))
  { s' with eu := { s'.eu with markSet := s'.eu.markSet ||| BitVec.ofNat 6 (2 ^ unit) } }

/-- The causes pending, as a mask (R174, R181). -/
def State.pendingMask (s : State) : Nat :=
  allCauses.foldl (fun acc c => if 0 < (s.cause c).count then acc + 2 ^ c.index else acc) 0

/-! ### Taking a request (R189 to R191) -/

/-- A reply's status and the fields that follow it (R191). -/
structure Reply where
  status : Status
  fields : List Byte
deriving DecidableEq, Repr

/-- What the taking of a request does: the next state and its reply. -/
abbrev Taking : Type := State → State × Reply

/-- A refusal changes nothing and carries its status alone (R191). -/
def refuse (s : State) (st : Status) : State × Reply := (s, { status := st, fields := [] })

/-- A request that is taken and acted on. -/
def accept (s : State) (fields : List Byte) : State × Reply := (s, { status := .ok, fields := fields })

/-- The reply frame of a request (R191). -/
def replyFrame (code tag : Nat) (r : Reply) : Frame :=
  { cls := .reply, code := code, tag := tag, payload := beBytes 1 (statusCode r.status) ++ r.fields }

/-- Taking a request: it is acted on and its reply is placed in the transmit queue (R189). -/
def State.perform (s : State) (code tag : Nat) (act : Taking) : State :=
  let (s', r) := act s
  s'.placeFrame (replyFrame code tag r)

/-- A valid request arrives at the request buffer: it joins the back, or with 8 held it is counted, and answered BUSY_LINK
while fewer than 8 such replies wait (R188). -/
def State.bufferRequest (s : State) (f : RequestFrame) : State :=
  if s.sli.buffer.length < Config.requestBuffer then s.setSli { s.sli with buffer := s.sli.buffer ++ [f] }
  else
    let s' := s.setSli { s.sli with
      counters := { s.sli.counters with busyAnswers := min 65535 (s.sli.counters.busyAnswers + 1) } }
    if s.busyWaiting < Config.requestBuffer then
      s'.placeFrame { cls := .busy, code := f.code, tag := f.tag, payload := beBytes 1 (statusCode .busyLink) }
    else s'

/-- A request's row: the request is taken, if a reply place is free; otherwise it waits in the request buffer until
one is (R189, R190; log entry 7). -/
def State.takeOrWait (s : State) (tag : Nat) (r : Request) (act : Taking) : State :=
  if s.repliesHeld < Config.replyPlaces then s.perform (requestCode r) tag act
  else s.bufferRequest { code := requestCode r, tag := tag, payload := requestPayload r }

/-- What every command of the block answers: a next state. -/
abbrev Answer : Type := Host.Outcome State Fault Refusal

end Sys2Proof.Machine
end

