-- ==== Sys2Proof/Machine/Clips.lean ====
section
/-! DEFINITION. The Clip Store: point memory, the clip table, loading, verification, reference counting, and its six requests
(chapter 2). -/

namespace Sys2Proof.Machine

open Sys2Proof

/-! ### Pages and points -/

/-- The pages that hold this many points (R30). -/
def pagesFor (points : Nat) : Nat := (points + (Config.pageSize - 1)) / Config.pageSize

/-- A page merged into an ascending list at the place its number calls for (R26). -/
def insertPage (p : Nat) : List Nat → List Nat
  | [] => [p]
  | q :: rest => if p ≤ q then p :: q :: rest else q :: insertPage p rest

/-- The pages of a clip merged back into the free page list (R26). -/
def mergePages (pages free : List Nat) : List Nat := pages.foldr insertPage free

/-- The number of points of a clip, L × m (R28). -/
def clipPoints (l : ClipLoad) : Nat := l.length * l.chans.length

/-- Where the point at a storage index lies: page (i div 4096) of the page list, offset i mod 4096 (R28). -/
def pointAddress (l : ClipLoad) (i : Nat) : Nat :=
  l.pages.getD (i / Config.pageSize) 0 * Config.pageSize + i % Config.pageSize

/-- The point at a storage index of a clip. -/
def clipPoint (cs : ClipStore) (l : ClipLoad) (i : Nat) : Point := ramRead cs.points (pointAddress l i)

/-- The point of the channel at list position `j` at point-frame `f` (R28). -/
def framePoint (cs : ClipStore) (l : ClipLoad) (f j : Nat) : Point := clipPoint cs l (f * l.chans.length + j)

/-- Points stored at consecutive storage indices (R31). -/
def storePoints (m : Ram) (l : ClipLoad) : Nat → List Point → Ram
  | _, [] => m
  | i, p :: rest => storePoints (ramWrite m (pointAddress l i) p) l (i + 1) rest

/-- One point taken into the running sums A and B (R34). -/
def checksumStep (ab : Nat × Nat) (p : Point) : Nat × Nat :=
  let a := (ab.1 + p.toNat) % 65536
  (a, (ab.2 + a) % 65536)

/-- The checksum of a point list: B × 65536 + A (R34). -/
def checksumOf (points : List Point) : Nat :=
  let ab := points.foldl checksumStep (0, 0)
  ab.2 * 65536 + ab.1

/-- The points of a clip in storage order. -/
def clipPointList (cs : ClipStore) (l : ClipLoad) : List Point := (List.range (clipPoints l)).map (clipPoint cs l)

/-! ### References (R36) -/

def State.addRef (s : State) (id : Nat) : State := s.setClip id { s.clip id with refs := (s.clip id).refs + 1 }
def State.dropRef (s : State) (id : Nat) : State := s.setClip id { s.clip id with refs := (s.clip id).refs - 1 }

/-! ### Becoming FREE, and the verification order -/

/-- A clip becomes FREE: its pages are merged back and it loses every optional field (R26, R27). -/
def State.freeClip (s : State) (id : Nat) : State :=
  let pages := ((s.clip id).load.map (·.pages)).getD []
  let s' := s.setClip id { Clip.reset with refs := (s.clip id).refs }
  { s' with cs := { s'.cs with freePages := mergePages pages s'.cs.freePages } }

/-- A clip leaves the verification order; when it was at the front the verifier begins at once on the next (R33). -/
def State.leaveOrder (s : State) (id : Nat) : State :=
  { s with cs := { s.cs with
      order := s.cs.order.filter (· != id),
      verifierSince := if s.cs.order.head? = some id then s.clock else s.cs.verifierSince } }

/-- Points checked of a VERIFYING clip: the verifier does 1,048,576 points a second on the front clip (R33, log entry 3). -/
def State.pointsChecked (s : State) (id : Nat) (l : ClipLoad) : Nat :=
  if s.cs.order.head? = some id then min (clipPoints l) ((s.clock - s.cs.verifierSince) / Config.verifyPoint) else 0

/-- The verifier has processed the last point of the front clip: the clip becomes READY or FAILED, CLIP is raised, and the
verifier begins on the next (R35). -/
def State.completeVerification (s : State) (id : Nat) (l : ClipLoad) : State :=
  let sum := checksumOf (clipPointList s.cs l)
  let ok := sum = l.expected
  let s1 := s.setClip id { s.clip id with
    state := if ok then .ready else .failed, computed := some sum, failReason := if ok then none else some .checksum }
  (s1.leaveOrder id).raise .clip (some (.clip id (if ok then .ready else .checksum)))

/-! ### Takings -/

/-- Open Clip (R29, R30). -/
def takeOpenClip (id mask upsample length checksum : Nat) (s : State) : State × Reply :=
  let chans := maskChannels mask
  let need := pagesFor (length * chans.length)
  if 63 < id then refuse s .invalidValue
  else if (s.clip id).state ≠ .free then refuse s .inUse
  else if chans = [] then refuse s .invalidValue
  else if ¬ (upsample = 1 ∨ upsample = 2 ∨ upsample = 4 ∨ upsample = 8) then refuse s .invalidValue
  else if length = 0 ∨ Config.pointMemory < length * chans.length then refuse s .invalidValue
  else if s.cs.freePages.length < need then refuse s .noSpace
  else
    let load : ClipLoad :=
      { chans := chans, upsample := upsample, length := length, pages := s.cs.freePages.take need, expected := checksum,
        received := 0 }
    let s1 := s.setClip id { s.clip id with state := .loading, load := some load, computed := none, failReason := none }
    accept { s1 with cs := { s1.cs with freePages := s1.cs.freePages.drop need } } (beBytes 2 need)

/-- Clip Data (R31). -/
def takeClipData (id offset : Nat) (points : List Point) (s : State) : State × Reply :=
  if 63 < id ∨ points.length = 0 ∨ 500 < points.length then refuse s .invalidValue
  else match (s.clip id).state, (s.clip id).load with
    | .loading, some l =>
      if offset ≠ l.received then (s, { status := .outOfOrder, fields := beBytes 4 l.received })
      else if clipPoints l < offset + points.length then (s, { status := .invalidValue, fields := beBytes 4 l.received })
      else
        let received := l.received + points.length
        let s1 := s.setClip id { s.clip id with load := some { l with received := received } }
        accept { s1 with cs := { s1.cs with points := storePoints s1.cs.points l offset points } } (beBytes 4 received)
    | _, _ => refuse s .wrongState

/-- Close Clip (R32). -/
def takeCloseClip (id : Nat) (s : State) : State × Reply :=
  if 63 < id then refuse s .invalidValue
  else match (s.clip id).state, (s.clip id).load with
    | .loading, some l =>
      if l.received < clipPoints l then
        let s1 := s.setClip id { s.clip id with state := .failed, failReason := some .incomplete }
        accept (s1.raise .clip (some (.clip id .incomplete))) (beBytes 1 ClipState.failed.code)
      else
        let s1 := s.setClip id { s.clip id with state := .verifying }
        accept { s1 with cs := { s1.cs with
            verifierSince := if s1.cs.order = [] then s1.clock else s1.cs.verifierSince,
            order := s1.cs.order ++ [id] } } (beBytes 1 ClipState.verifying.code)
    | _, _ => refuse s .wrongState

/-- Free Clip (R38). -/
def takeFreeClip (id : Nat) (s : State) : State × Reply :=
  if 63 < id then refuse s .invalidValue
  else if 0 < (s.clip id).refs then refuse s .inUse
  else
    let s' := match (s.clip id).state with
      | .free => s
      | .loading => s.freeClip id
      | .ready => s.freeClip id
      | .failed => s.freeClip id
      | .verifying => (s.leaveOrder id).freeClip id
    accept s' (beBytes 2 s'.cs.freePages.length)

/-- The clip record of a Clip Info reply (section 11.6). -/
def clipInfoBytes (s : State) (id position : Nat) : List Byte :=
  let c := s.clip id
  let checked : Option Nat := if c.state = .verifying then c.load.map (s.pointsChecked id) else none
  let place : Option Nat := if c.state = .verifying then s.cs.order.idxOf? id else none
  let pages := (c.load.map (·.pages)).getD []
  let shown := (pages.drop position).take 256
  let fixed (w : Nat) (f : ClipLoad → Nat) : List Byte := optionalBytes w (beBytes w) (c.load.map f)
  beBytes 1 id ++ beBytes 1 c.state.code
    ++ presenceBytes [c.load.isSome, checked.isSome, c.computed.isSome, c.failReason.isSome, place.isSome]
    ++ beBytes 1 c.refs
    ++ fixed 2 (fun l => channelMask l.chans) ++ fixed 1 (·.upsample) ++ fixed 4 (·.length) ++ fixed 4 (·.expected)
    ++ fixed 4 (·.received)
    ++ optionalBytes 4 (beBytes 4) checked ++ optionalBytes 4 (beBytes 4) c.computed
    ++ optionalBytes 1 (fun r => beBytes 1 (FailReason.code r)) c.failReason ++ optionalBytes 1 (beBytes 1) place
    ++ beBytes 2 pages.length ++ beBytes 2 shown.length ++ shown.flatMap (beBytes 2)

/-- Clip Info (R41). -/
def takeClipInfo (id position : Nat) (s : State) : State × Reply :=
  if 63 < id ∨ 2047 < position then refuse s .invalidValue else accept s (clipInfoBytes s id position)

/-- Store Info (R42). -/
def takeStoreInfo (s : State) : State × Reply :=
  accept s (presenceBytes [s.cs.freePages.head?.isSome] ++ beBytes 2 s.cs.freePages.length
    ++ optionalBytes 2 (beBytes 2) s.cs.freePages.head?
    ++ (List.range Config.clips).flatMap (fun id => beBytes 1 (s.clip id).state.code)
    ++ beBytes 1 s.cs.order.length ++ s.cs.order.flatMap (beBytes 1))

/-- The Clip Store's part of a warm reset: finished clips stay with reference count 0, unfinished ones become FREE (R43). -/
def State.warmResetClips (s : State) : State :=
  let s1 := (List.range Config.clips).foldl (fun s id =>
    match (s.clip id).state with
    | .loading => s.freeClip id
    | .verifying => s.freeClip id
    | _ => s) s
  { s1 with cs := { s1.cs with order := [], clips := s1.cs.clips.mapIdx fun _ c => { c with refs := 0 } } }

/-! ### Commands -/

/-- OPEN_CLIP. -/
def execOpenClip (tag id mask upsample length checksum : Nat) (s : State) : Answer :=
  .next (s.takeOrWait tag (.openClip id mask upsample length checksum) (takeOpenClip id mask upsample length checksum))

/-- CLIP_DATA. -/
def execClipData (tag id offset : Nat) (points : List Point) (s : State) : Answer :=
  .next (s.takeOrWait tag (.clipData id offset points) (takeClipData id offset points))

/-- CLOSE_CLIP. -/
def execCloseClip (tag id : Nat) (s : State) : Answer := .next (s.takeOrWait tag (.closeClip id) (takeCloseClip id))

/-- FREE_CLIP. -/
def execFreeClip (tag id : Nat) (s : State) : Answer := .next (s.takeOrWait tag (.freeClip id) (takeFreeClip id))

/-- CLIP_INFO. -/
def execClipInfo (tag id position : Nat) (s : State) : Answer :=
  .next (s.takeOrWait tag (.clipInfo id position) (takeClipInfo id position))

/-- STORE_INFO. -/
def execStoreInfo (tag : Nat) (s : State) : Answer := .next (s.takeOrWait tag .storeInfo takeStoreInfo)

/-- VERIFICATION_COMPLETE: once the front clip's points have taken their time, its verification completes (R33, R35). -/
def execVerificationComplete (at' : Nat) (s : State) : Answer :=
  let s1 := s.tick at'
  match s1.cs.order with
  | [] => .next s1
  | id :: _ =>
    match (s1.clip id).load with
    | none => .next s1
    | some l =>
      if s1.cs.verifierSince + clipPoints l * Config.verifyPoint ≤ s1.clock then .next (s1.completeVerification id l)
      else .next s1

end Sys2Proof.Machine
end

