-- ==== Sys2Proof/Machine/Schedule.lean ====
section
/-! DEFINITION. The Segment Queue's own procedures: the advance routine, retirement, the done ring, and the advance watch
(sections 3.3, 3.4, 3.6, 3.9). The Playback Engine calls them. -/

namespace Sys2Proof.Machine

open Sys2Proof

/-! ### Entries -/

/-- A playable entry is a PLAY or DWELL entry whose skip flag is clear (section 3.4). -/
def Entry.playable (e : Entry) : Bool :=
  match e.body with
  | .play f _ => !f.skip
  | .dwell f _ => !f.skip
  | .loopOpen _ => false
  | .loopClose => false

/-- The runtime part of a PLAY or DWELL entry. -/
def Entry.runtime (e : Entry) : Option Runtime :=
  match e.body with
  | .play _ r => some r
  | .dwell _ r => some r
  | .loopOpen _ => none
  | .loopClose => none

/-- The same entry with its runtime part changed. -/
def Entry.mapRuntime (e : Entry) (f : Runtime → Runtime) : Entry :=
  match e.body with
  | .play p r => { e with body := .play p (f r) }
  | .dwell d r => { e with body := .dwell d (f r) }
  | .loopOpen _ => e
  | .loopClose => e

/-- The passes that make up one visit; a DWELL visit has one (R88). -/
def Entry.passes (e : Entry) : Nat :=
  match e.body with
  | .play f _ => f.passes
  | .dwell _ _ => 1
  | .loopOpen _ => 1
  | .loopClose => 1

/-- The runtime part of a new entry (R47). -/
def Runtime.fresh : Runtime :=
  { visits := 0, passes := 0, cutSeen := false, interrupted := none, firstStamp := none, lastStamp := none, stats := none }

/-- The position of the entry with a tag. -/
def findTag (es : List Entry) (tag : Nat) : Option Nat := es.findIdx? fun e => e.tag == tag

/-- The entry the cursor stands on; none at the tail (R46). -/
def State.cursorEntry (s : State) : Option Entry := s.sq.entries[s.sq.cursor]?

/-- The tag of the entry the cursor stands on (R102, R195). -/
def State.cursorTag (s : State) : Option Nat := s.cursorEntry.map (·.tag)

/-- The entry at a position, changed. -/
def State.mapEntry (s : State) (pos : Nat) (f : Entry → Entry) : State :=
  s.setSq { s.sq with entries := s.sq.entries.modify pos f }

/-- The runtime part of the entry at the cursor, which is the entry the context holds (R46), changed. -/
def State.mapHeld (s : State) (f : Runtime → Runtime) : State := s.mapEntry s.sq.cursor fun e => e.mapRuntime f

/-! ### The advance routine (R51 to R54) -/

/-- Whether the body of a loop holds a playable entry (R53). -/
def bodyPlayable (es : List Entry) (opener closer : Nat) : Bool :=
  ((es.drop (opener + 1)).take (closer - (opener + 1))).any Entry.playable

/-- The advance routine from a cursor: it examines entries until a playable one or the tail. The fuel bounds the entries
examined; `advanceFuel` always suffices, because a jump back lands in a body with a playable entry (R53). -/
def scan (es : List Entry) : Nat → Nat → List LoopFrame → Nat × List LoopFrame
  | 0, cursor, stack => (cursor, stack)
  | fuel + 1, cursor, stack =>
    match es[cursor]? with
    | none => (cursor, stack)
    | some e =>
      if e.playable then (cursor, stack)
      else match e.body with
        | .play _ _ => scan es fuel (cursor + 1) stack
        | .dwell _ _ => scan es fuel (cursor + 1) stack
        | .loopOpen count => scan es fuel (cursor + 1) ({ tag := e.tag, count := count, iterations := 0 } :: stack)
        | .loopClose =>
          match stack with
          | [] => scan es fuel (cursor + 1) []
          | frame :: rest =>
            let done := min 65535 (frame.iterations + 1)
            match findTag es frame.tag with
            | none => scan es fuel (cursor + 1) rest
            | some opener =>
              if (frame.count = 0 ∨ done < frame.count) ∧ bodyPlayable es opener cursor then
                scan es fuel (opener + 1) ({ frame with iterations := done } :: rest)
              else scan es fuel (cursor + 1) rest

/-- Enough fuel for a run of the advance routine. -/
def advanceFuel (es : List Entry) : Nat := 2 * es.length + 2

/-- Where a run of the advance routine from this cursor ends. -/
def State.advanceFrom (s : State) (start : Nat) : Nat × List LoopFrame :=
  scan s.sq.entries (advanceFuel s.sq.entries) start s.sq.stack

/-- A lookahead run: the entry a real run would stand on, or none at the tail; nothing changes (R54). -/
def State.lookahead (s : State) (start : Nat) : Option Entry := s.sq.entries[(s.advanceFrom start).1]?

/-! ### Retirement and the done ring (R57 to R60) -/

/-- How an entry ended (R59). -/
def doneStatus (flushed : Bool) (r : Runtime) : DoneStatus :=
  if flushed then .flushed else if r.visits = 0 then .skipped else if r.cutSeen then .cut else .complete

/-- A done record joins the ring: with 32 held the oldest is lost (R60). -/
def pushDone (ring : List DoneRecord) (r : DoneRecord) : List DoneRecord :=
  (if Config.doneRing ≤ ring.length then ring.drop (ring.length - (Config.doneRing - 1)) else ring) ++ [r]

/-- A done record is made under the next sequence number, and SEGMENT is raised when notify is set (R58). -/
def State.addDone (s : State) (tag : Nat) (kind : PlayKind) (flushed notify : Bool) (r : Runtime) : State :=
  let seq := s.sq.nextSeq
  let record : DoneRecord :=
    { sequence := seq, tag := tag, kind := kind, status := doneStatus flushed r, visits := r.visits, passes := r.passes,
      firstStamp := r.firstStamp, lastStamp := r.lastStamp, stats := r.stats }
  let s1 := s.setSq { s.sq with doneRing := pushDone s.sq.doneRing record, nextSeq := (seq + 1) % Config.seqWrap }
  if notify then s1.raise .segment (some (.segment seq)) else s1

/-- An entry leaves the queue: a marker without a record, a PLAY or DWELL with one, and a PLAY drops its clip reference
(R58, R69). -/
def State.leaveEntry (s : State) (flushed : Bool) (e : Entry) : State :=
  match e.body with
  | .play f r => (s.dropRef f.clip).addDone e.tag .play flushed f.notify r
  | .dwell f r => s.addDone e.tag .dwell flushed f.notify r
  | .loopOpen _ => s
  | .loopClose => s

/-- Entries retire from the front, oldest first; the cursor's position falls with them (R57). -/
def State.retire (s : State) : Nat → State
  | 0 => s
  | n + 1 =>
    match s.sq.entries with
    | [] => s
    | e :: rest =>
      ((s.setSq { s.sq with entries := rest, cursor := s.sq.cursor - 1 }).leaveEntry false e).retire n

/-- How many entries retire at the end of a real run: those before the cursor, or before the bottom frame's LOOP_OPEN
(R57). -/
def State.retireCount (s : State) : Nat :=
  match s.sq.stack.getLast? with
  | none => s.sq.cursor
  | some frame => (findTag s.sq.entries frame.tag).getD 0

/-- A real run of the advance routine: the cursor and the loop stack move, then entries retire (R51, R54, R57). -/
def State.realRun (s : State) (start : Nat) : State :=
  let (cursor, stack) := s.advanceFrom start
  let s1 := s.setSq { s.sq with cursor := cursor, stack := stack }
  s1.retire s1.retireCount

/-! ### Statistics and the advance watch -/

/-- A visit's record added to the entry's record of the same channel (R48, R138). -/
def addRecord (e v : StatRecord) : StatRecord :=
  { e with
    span := match e.span, v.span with
      | none, b => b
      | a, none => a
      | some (p, q), some (p', q') => some (max p p', min q q'),
    clamped := min Config.max32 (e.clamped + v.clamped),
    limited := min Config.max32 (e.limited + v.limited) }

/-- A visit's statistics added to an entry's statistics list, which they create when it is absent (R48). -/
def addStats (entry : Option (List StatRecord)) (visit : List StatRecord) : Option (List StatRecord) :=
  match entry with
  | none => some visit
  | some es => some (List.zipWith addRecord es visit)

/-- An armed advance watch fires: ADVANCE is raised with the update stamp, and the flag is cleared (R72). -/
def State.fireWatch (s : State) : State :=
  if s.sq.watch then (s.setSq { s.sq with watch := false }).raise .advance (some (.advance s.pe.counter)) else s

end Sys2Proof.Machine
end

