-- ==== Sys2Proof/Machine/Playback.lean ====
section
/-! DEFINITION. The Playback Engine's procedures: state changes, visits, passes, reload points, context release, actions and
cuts (chapter 4). -/

namespace Sys2Proof.Machine

open Sys2Proof

/-! ### State changes (R72, R103) -/

/-- The engine enters a state and raises ENGINE (R103). -/
def State.enterState (s : State) (new : EngineState) (cause : Option EngineCause) : State :=
  (s.setPe { s.pe with state := new }).raise .engine (some (.engine s.pe.state new cause))

/-- The engine enters IDLE, PAUSED or TRIPPED: ENGINE is raised, and an armed advance watch fires (R72, R103). -/
def State.enterStopped (s : State) (new : EngineState) (cause : Option EngineCause) : State :=
  (s.enterState new cause).fireWatch

/-- The engine enters RAMP_OUT with a target and a stop cause; λ stays where it is (R74). -/
def State.enterRampOut (s : State) (target : Target) (cause : EngineCause) : State :=
  (s.setPe { s.pe with target := some target, stopCause := some cause }).enterState .rampOut (some cause)

/-! ### Segment start check (R80) -/

/-- The segment start check: none when the entry passes, else the status it fails with (R39, R80). -/
def State.startCheck (s : State) (e : Entry) : Option Status :=
  match e.body with
  | .play f _ =>
    if (s.clip f.clip).state ≠ .ready then some .clipNotReady
    else if (((s.clip f.clip).load.map (·.chans)).getD []).all fun ch => (s.port ch).state == .engaged then none
    else some .channelNotEngaged
  | .dwell _ _ => none
  | .loopOpen _ => none
  | .loopClose => none

/-- The stop cause of a pass end whose lookahead failed the check (R88). -/
def checkCause : Status → EngineCause
  | .clipNotReady => .clipNotReady
  | _ => .channelNotEngaged

/-! ### Pass starts and reload points -/

/-- At each pass start every CLAMP_RATE detector returns to CLEAR with count 0 (R130). -/
def State.passStart (s : State) : State := { s with lm := s.lm.mapIdx fun _ l => { l with clamp := Detector.cleared } }

/-- A gain set's pending write is copied into the active copy and the flag cleared (R21, R22). -/
def GainSet.latched (g : GainSet) : GainSet := { g with active := g.pending, flag := false }

/-- A pending write of the set, if there is one, is latched (R22). -/
def State.latchPending (s : State) (g : Nat) : State :=
  if (s.gainSet g).flag then s.setGainSet g (s.gainSet g).latched else s

/-- A reload point: the context takes the entry's gain set, a pending write of it is latched, and an armed advance watch
fires (R79). -/
def State.reloadPoint (s : State) : State :=
  match s.pe.ctx, s.cursorEntry with
  | some c, some { body := .play f _, .. } =>
    match c.body with
    | .play p =>
      ((s.setCtx (some { c with body := .play { p with gainSet := f.gainSet } })).latchPending f.gainSet).fireWatch
    | .dwell _ => s.fireWatch
  | _, _ => s.fireWatch

/-! ### Visits (R78, R91) -/

/-- The visit statistics of a new PLAY visit: one record per channel (R135). -/
def freshStats (chans : List Nat) : List StatRecord :=
  chans.map fun ch => { channel := ch, span := none, clamped := 0, limited := 0 }

/-- The entry's runtime part as a visit begins, or is reinstated (R47, R78). -/
def Runtime.begun (r : Runtime) : Runtime :=
  match r.interrupted with
  | none => { r with visits := sat32 r.visits }
  | some _ => { r with interrupted := none }

/-- A visit of the entry at the cursor begins: the context is loaded, a PLAY takes its clip reference, and the first pass
begins at a reload point (R78). -/
def State.beginVisit (s : State) : State :=
  match s.cursorEntry with
  | some { tag := tag, body := .play f r } =>
    match (s.clip f.clip).load with
    | none => s
    | some l =>
      let (first, count) := f.window.getD (0, l.length)
      let ctx : Context :=
        { tag := tag,
          body := .play
            { clip := f.clip, chans := l.chans, upsample := l.upsample, first := first, count := count, gainSet := f.gainSet,
              u := 0, stats := freshStats l.chans },
          counted := r.interrupted.getD 0, overrun := false, cut := false, firstUpdate := none, lastUpdate := none,
          captureDue := f.captureAtStart }
      ((((s.mapHeld Runtime.begun).addRef f.clip).setCtx (some ctx)).passStart).reloadPoint
  | some { tag := tag, body := .dwell _ r } =>
    let ctx : Context :=
      { tag := tag, body := .dwell 0, counted := r.interrupted.getD 0, overrun := false, cut := false, firstUpdate := none,
        lastUpdate := none, captureDue := false }
    (((s.mapHeld Runtime.begun).setCtx (some ctx)).passStart).reloadPoint
  | _ => s

/-- The visit's statistics and last update played are added to the entry's runtime part (R47, R48, R91). -/
def Runtime.addVisit (r : Runtime) (c : Context) : Runtime :=
  { r with
    lastStamp := if c.lastUpdate.isSome then c.lastUpdate else r.lastStamp,
    stats := match c.body with
      | .play p => addStats r.stats p.stats
      | .dwell _ => r.stats }

/-- A PLAY context drops its clip reference (R90, R91). -/
def State.dropContextRef (s : State) (c : Context) : State :=
  match c.body with
  | .play p => s.dropRef p.clip
  | .dwell _ => s

/-- The passes of the entry the context holds, as they stand (R66). -/
def State.heldPasses (s : State) : Nat := (s.cursorEntry.map Entry.passes).getD 1

/-- Whether the context's visit is finished (R88, R90). -/
def State.visitFinished (s : State) (c : Context) : Bool := c.cut || decide (s.heldPasses ≤ c.counted)

/-- A visit ends: statistics and stamp are added, a cut that ended it early is recorded, the clip reference is dropped
(R91). -/
def State.endVisit (s : State) (c : Context) : State :=
  let cutNow := c.cut && decide (c.counted < s.heldPasses)
  ((s.mapHeld fun r => { r.addVisit c with cutSeen := r.cutSeen || cutNow }).dropContextRef c).setCtx none

/-- An unfinished visit is interrupted at context release (R90). -/
def State.interruptVisit (s : State) (c : Context) : State :=
  ((s.mapHeld fun r => { r.addVisit c with interrupted := some c.counted }).dropContextRef c).setCtx none

/-- The context is released: a finished visit ends and the advance routine runs for real, an unfinished one is interrupted
(R90). -/
def State.releaseContext (s : State) : State :=
  match s.pe.ctx with
  | none => s
  | some c => if s.visitFinished c then (s.endVisit c).realRun (s.sq.cursor + 1) else s.interruptVisit c

/-! ### Passes (R87 to R89) -/

/-- A new pass of the same window begins: u or elapsed updates 0 (R88, R89). -/
def Context.newPass (c : Context) (overrun : Bool) : Context :=
  { c with
    overrun := overrun,
    body := match c.body with
      | .play p => .play { p with u := 0 }
      | .dwell _ => .dwell 0 }

/-- The pass length in updates: W × U, or the DWELL entry's length as it stands (R77, R87). -/
def State.passLength (s : State) (c : Context) : Nat :=
  match c.body with
  | .play p => p.count * p.upsample
  | .dwell _ =>
    match s.cursorEntry with
    | some { body := .dwell f _, .. } => f.length
    | _ => 0

/-- The update-in-pass or the elapsed updates (section 4.3). -/
def Context.elapsed (c : Context) : Nat :=
  match c.body with
  | .play p => p.u
  | .dwell e => e

/-- The position advanced by one update (R87). -/
def Context.advanced (c : Context) : Context :=
  match c.body with
  | .play p => { c with body := .play { p with u := p.u + 1 } }
  | .dwell e => { c with body := .dwell (e + 1) }

/-- Whether the advance of this update ends the pass (R87, step 6). -/
def State.advanceEndsPass (s : State) (c : Context) : Bool := decide (s.passLength c ≤ c.elapsed + 1)

/-- A pass end is counted unless the pass was an overrun pass (R88). -/
def State.countPass (s : State) (c : Context) : State :=
  if c.overrun then s
  else (s.mapHeld fun r => { r with passes := sat32 r.passes }).setCtx (some { c with counted := c.counted + 1 })

/-- The finished visit stays in the context, an overrun pass begins, and the engine ramps out toward IDLE (R88). -/
def State.overrunOut (s : State) (c : Context) (cause : EngineCause) : State :=
  ((s.enterRampOut .idle cause).setCtx (some (c.newPass true))).passStart

/-- A pass end taken in RAMP_IN or RUNNING (R88). -/
def State.passEndPlaying (s : State) : State :=
  match s.pe.ctx with
  | none => s
  | some c0 =>
    let s1 := s.countPass c0
    let c := if c0.overrun then c0 else { c0 with counted := c0.counted + 1 }
    if s1.visitFinished c then
      match s1.lookahead (s1.sq.cursor + 1) with
      | none => s1.overrunOut c .queueEmpty
      | some e =>
        match s1.startCheck e with
        | some st => s1.overrunOut c (checkCause st)
        | none => ((s1.endVisit c).realRun (s1.sq.cursor + 1)).beginVisit
    else ((s1.setCtx (some (c.newPass false))).passStart).reloadPoint

/-- A pass end taken in RAMP_OUT: nothing is counted, and an overrun or repeat pass begins (R89). -/
def State.passEndRampOut (s : State) : State :=
  match s.pe.ctx with
  | none => s
  | some c => (s.setCtx (some (c.newPass (s.visitFinished c)))).passStart

/-- The ramp-out ends: the engine enters its target, and for IDLE the context is released (R89). -/
def State.endRampOut (s : State) : State :=
  let cause := s.pe.stopCause
  match s.pe.target with
  | some .paused => (s.setPe { s.pe with target := none, lam := 0 }).enterStopped .paused cause
  | _ => ((s.setPe { s.pe with target := none, lam := 0 }).enterStopped .idle cause).releaseContext

/-! ### The ramp (R75) -/

/-- The ramp step of a ramp length: ceil(65536 / R) (R75). -/
def rampStepOf (r : Nat) : Nat := (Config.fullRamp + (r - 1)) / r

/-- λ one step up (R75). -/
def rampUp (lam ri : Nat) : Nat := min Config.fullRamp (lam + rampStepOf ri)

/-- λ one step down (R75). -/
def rampDown (lam ro : Nat) : Nat := lam - rampStepOf ro

/-- The ramp step of an update: λ moves in RAMP_IN and RAMP_OUT, and RAMP_IN ends when λ reaches 65536 (R75). -/
def State.rampStep (s : State) : State :=
  match s.pe.state with
  | .rampIn =>
    let lam := rampUp s.pe.lam s.pe.ri
    let s1 := s.setPe { s.pe with lam := lam }
    if lam = Config.fullRamp then s1.enterState .running none else s1
  | .rampOut => s.setPe { s.pe with lam := rampDown s.pe.lam s.pe.ro }
  | _ => s

/-! ### Trips, actions and cuts (R85, R92, R95) -/

/-- A TRIP action is applied: the engine enters TRIPPED, raising ENGINE and TRIP (R95). -/
def State.enterTripped (s : State) (cause : EngineCause) (channel : Option Nat) : State :=
  let s1 := s.setPe { s.pe with
    lam := 0, tripCause := some cause, tripChannel := channel,
    stopCause := if s.pe.state = .rampOut then none else s.pe.stopCause, target := none }
  ((s1.enterState .tripped (some cause)).raise .trip (some (.trip cause channel s.pe.counter))).fireWatch

/-- Whether the engine applies an action, or records it only (the table of R85). -/
def State.actionApplies (s : State) (a : Action) : Bool :=
  match a, s.pe.state with
  | .trip, .tripped => false
  | .trip, _ => true
  | .stop, .rampIn => true
  | .stop, .running => true
  | .stop, .rampOut => s.pe.target == some .paused
  | .stop, .paused => true
  | .pause, .rampIn => true
  | .pause, .running => true
  | _, _ => false

/-- What an applied action does (the table of R85). The channel stands in the trip cause for CHANNEL_FAULT only (R95). -/
def State.actionEffect (s : State) (a : Action) (cause : EngineCause) (channel : Option Nat) : State :=
  match a with
  | .trip => s.enterTripped cause (if cause = .channelFault then channel else none)
  | .stop =>
    match s.pe.state with
    | .rampOut => s.setPe { s.pe with target := some .idle, stopCause := some cause }
    | .paused => ((s.setPe { s.pe with stopCause := some cause }).enterStopped .idle (some cause)).releaseContext
    | _ => s.enterRampOut .idle cause
  | .pause => s.enterRampOut .paused cause
  | .note => s

/-- The engine takes an action: it is applied or recorded, and replaces the last-action record (R85). -/
def State.applyAction (s : State) (a : Action) (cause : EngineCause) (channel : Option Nat) : State :=
  let applies := s.actionApplies a
  let s1 := s.setPe { s.pe with
    lastAction := some { action := a, cause := cause, channel := channel, stamp := s.pe.counter, applied := applies } }
  if applies then s1.actionEffect a cause channel else s1

/-- The context's cut pending is set (R92). -/
def State.setCut (s : State) : State := s.setCtx (s.pe.ctx.map fun c => { c with cut := true })

/-- A mark unit's cut: taken in RAMP_IN and RUNNING, ignored elsewhere (R92, R151). -/
def State.markCut (s : State) : State :=
  match s.pe.state with
  | .rampIn => s.setCut
  | .running => s.setCut
  | _ => s

end Sys2Proof.Machine
end

