-- ==== Sys2Proof/Machine/Records.lean ====
section
/-! DEFINITION. The layouts of the records that replies carry: entries, done records, the context, positions and capture
headers (sections 11.1, 11.4, 11.5, 11.7). -/

namespace Sys2Proof.Machine

open Sys2Proof

/-- A statistics record: channel and presence, peak, valley and the two counts, 13 bytes (section 11.4). -/
def statBytes (r : StatRecord) : List Byte :=
  beBytes 1 (r.channel % 16 + (if r.span.isSome then 128 else 0))
    ++ optionalBytes 4 (fun s => countBytes s.1 ++ countBytes s.2) r.span ++ beBytes 4 r.clamped ++ beBytes 4 r.limited

/-- A list of statistics records behind its count. -/
def statListBytes (rs : List StatRecord) : List Byte := beBytes 1 rs.length ++ rs.flatMap statBytes

/-- The entry flags byte of a PLAY entry (section 11.4). -/
def playFlags (f : PlayFields) : Nat := presenceValue [f.skip, f.notify, f.captureAtStart, f.window.isSome]

/-- An entry in its one layout (section 11.4). -/
def entryBytes (e : Entry) : List Byte :=
  match e.body with
  | .play f _ =>
    let (first, count) := f.window.getD (0, 0)
    appendPayload (.play e.tag f.clip (playFlags f) f.gainSet f.passes first count)
  | .dwell f _ => appendPayload (.dwell e.tag (presenceValue [f.skip, f.notify]) f.length)
  | .loopOpen count => appendPayload (.loopOpen e.tag count)
  | .loopClose => appendPayload (.loopClose e.tag)

/-- The runtime part of an entry in a Read Queue reply (section 11.4). -/
def runtimeBytes (withStats : Bool) (r : Runtime) : List Byte :=
  presenceBytes [r.cutSeen, r.interrupted.isSome, r.firstStamp.isSome, r.lastStamp.isSome, r.stats.isSome]
    ++ beBytes 4 r.visits ++ beBytes 4 r.passes ++ optionalBytes 2 (beBytes 2) r.interrupted
    ++ optionalBytes 6 stampBytes r.firstStamp ++ optionalBytes 6 stampBytes r.lastStamp
    ++ statListBytes (if withStats then r.stats.getD [] else [])

/-- An entry with its position in a Read Queue reply (section 11.4). -/
def queueEntryBytes (withStats : Bool) (pos : Nat) (e : Entry) : List Byte :=
  beBytes 1 pos ++ entryBytes e ++ (e.runtime.map (runtimeBytes withStats)).getD []

/-- A frame of the loop stack in a Read Queue reply: tag, present position, count, iterations (section 11.4). -/
def loopFrameBytes (es : List Entry) (f : LoopFrame) : List Byte :=
  beBytes 2 f.tag ++ beBytes 1 ((findTag es f.tag).getD 0) ++ beBytes 2 f.count ++ beBytes 2 f.iterations

/-- A done record (section 11.5). -/
def doneBytes (r : DoneRecord) : List Byte :=
  beBytes 4 r.sequence ++ beBytes 2 r.tag ++ beBytes 1 r.kind.code ++ beBytes 1 r.status.code
    ++ presenceBytes [false, false, r.firstStamp.isSome, r.lastStamp.isSome, r.stats.isSome]
    ++ beBytes 4 r.visits ++ beBytes 4 r.passes ++ optionalBytes 6 stampBytes r.firstStamp
    ++ optionalBytes 6 stampBytes r.lastStamp ++ statListBytes (r.stats.getD [])

/-- The last-action record of a Read Engine reply, 11 bytes, behind its own presence byte (R102, R198; log entry 9). -/
def lastActionBytes (a : LastAction) : List Byte :=
  presenceBytes [a.channel.isSome] ++ beBytes 1 a.action.code ++ beBytes 1 a.cause.code
    ++ optionalBytes 1 (beBytes 1) a.channel ++ stampBytes a.stamp ++ flagBytes (!a.applied)

/-- The context record of a Read Engine reply, behind its own presence bytes, its fields in the order of section 4.3 (R102,
R198). Section 4.3 lists F and W in one row, and n and k in another; each of the four has a presence bit of its own here
(log entry 9). -/
def contextBytes (cursor : Nat) (c : Context) : List Byte :=
  let play : Option PlayContext := match c.body with | .play p => some p | .dwell _ => none
  let dwell : Option Nat := match c.body with | .play _ => none | .dwell e => some e
  let kind : PlayKind := if play.isSome then .play else .dwell
  let num (w : Nat) (f : PlayContext → Nat) : List Byte := optionalBytes w (fun p => beBytes w (f p)) play
  presenceBytes [play.isSome, play.isSome, play.isSome, play.isSome, play.isSome, play.isSome, play.isSome, play.isSome,
      play.isSome, dwell.isSome, c.firstUpdate.isSome, c.lastUpdate.isSome, play.isSome]
    ++ beBytes 1 cursor ++ beBytes 2 c.tag ++ beBytes 1 kind.code
    ++ num 1 (·.clip) ++ num 2 (fun p => channelMask p.chans) ++ num 1 (·.upsample) ++ num 4 (·.first) ++ num 4 (·.count)
    ++ num 1 (·.gainSet) ++ num 4 (·.u) ++ num 4 (fun p => p.u / p.upsample) ++ num 1 (fun p => p.u % p.upsample)
    ++ optionalBytes 4 (beBytes 4) dwell ++ beBytes 2 c.counted ++ beBytes 4 (passNumber c) ++ flagBytes c.overrun
    ++ flagBytes c.cut ++ optionalBytes 6 stampBytes c.firstUpdate ++ optionalBytes 6 stampBytes c.lastUpdate
    ++ statListBytes ((play.map (·.stats)).getD [])

/-- The width of a context record without its statistics records. -/
def contextWidth : Nat := 53

/-- A position, 11 bytes (section 11.7). -/
def positionBytes (p : Position) : List Byte :=
  beBytes 2 p.tag ++ beBytes 4 p.pass ++ beBytes 4 p.value ++ beBytes 1 (presenceValue [p.overrun, p.dwell])

/-- A mark unit's capture record behind its own presence byte, 19 bytes (R155, R198; log entry 9). -/
def markRecordBytes (r : MarkRecord) : List Byte :=
  presenceBytes [r.position.isSome] ++ stampBytes r.stamp ++ flagBytes r.level ++ optionalBytes 11 positionBytes r.position

/-- Per-channel figures of a capture header, 9 bytes (section 11.7). -/
def figureBytes (f : Figure) : List Byte :=
  flagBytes f.span.isSome ++ optionalBytes 4 (fun s => countBytes s.1 ++ countBytes s.2) f.span ++ beBytes 4 f.absentCount

/-- The position that a filling header without a record yet is shown with: the free value of log entry 10 while a context
exists, absent without one (R164). -/
def State.unstatedPosition (s : State) : Option Position :=
  if s.pe.ctx.isSome then
    (Config.unstatedPosition s.pe.counter).map fun (tag, pass, value, flags) =>
      { tag := tag, pass := pass, value := value, overrun := flags.testBit 0, dwell := flags.testBit 1 }
  else none

/-- A capture header (section 11.7). A filling header has its records taken and no sequence, a committed one the reverse. The
trigger stamp and the position of a header without a record yet are the free values of log entry 10, the position given as
`unstated`. -/
def headerBytes (counter : Nat) (unstated : Option Position) (h : Header) : List Byte :=
  let position := if h.stamp.isSome then h.position else unstated
  presenceBytes [h.sequence.isSome, h.unit.isSome, position.isSome, h.sequence.isNone]
    ++ optionalBytes 4 (beBytes 4) h.sequence ++ beBytes 1 h.kind.code ++ optionalBytes 1 (beBytes 1) h.unit
    ++ stampBytes (h.stamp.getD (Config.unstatedStamp counter)) ++ optionalBytes 11 positionBytes position
    ++ beBytes 2 (channelMask h.chans) ++ flagBytes h.withCommand ++ beBytes 1 h.decimation ++ beBytes 4 h.records
    ++ (if h.sequence.isNone then beBytes 4 h.taken else List.replicate 4 0) ++ flagBytes h.missed
    ++ h.figures.flatMap figureBytes

end Sys2Proof.Machine
end

