-- ==== Sys2Proof/Machine/Capture.lean ====
section
/-! DEFINITION. The Response Capture Unit: banks, triggers, records, completion, and its five requests (chapter 8). -/

namespace Sys2Proof.Machine

open Sys2Proof

/-! ### Banks (section 8.1) -/

/-- A bank that holds nothing. -/
def Bank.empty : Bank := { role := .free, words := [] }

/-- The free bank becomes the filling bank; bank 0 is taken while both are free (R162). -/
def CaptureUnit.startBank (r : CaptureUnit) : CaptureUnit :=
  if r.bank0.role = .free then { r with bank0 := { role := .filling, words := [] } }
  else { r with bank1 := { role := .filling, words := [] } }

/-- Words written at the next places of the filling bank (R161, R165). -/
def CaptureUnit.writeWords (r : CaptureUnit) (ws : List Int) : CaptureUnit :=
  if r.bank0.role = .filling then { r with bank0 := { r.bank0 with words := r.bank0.words ++ ws } }
  else if r.bank1.role = .filling then { r with bank1 := { r.bank1 with words := r.bank1.words ++ ws } }
  else r

/-- How a bank changes role at a completion: filling becomes committed, committed becomes free (R167). -/
def Bank.swapped (b : Bank) : Bank :=
  match b.role with
  | .filling => { b with role := .committed }
  | .committed => Bank.empty
  | .free => Bank.empty

/-- The filling bank becomes free and its records are discarded (R169). -/
def Bank.aborted (b : Bank) : Bank := if b.role = .filling then Bank.empty else b

/-- The words of the committed bank. -/
def CaptureUnit.committedWords (r : CaptureUnit) : List Int :=
  if r.bank0.role = .committed then r.bank0.words else if r.bank1.role = .committed then r.bank1.words else []

/-! ### Records (R161, R164 to R166) -/

/-- The words of one channel in a record: the last feedback or 0, then the command (R161). After the Drive Computation Unit has
handed on an update's commands, a channel's last output is its command (R14, R18), ENGAGED or not. -/
def State.recordWords (s : State) (withCommand : Bool) (ch : Nat) : List Int :=
  ((s.port ch).feedback.getD 0) :: (if withCommand then [(s.drive ch).lastOutput] else [])

/-- A channel's figures after a record (R166). -/
def Figure.after (f : Figure) (feedback : Option Int) : Figure :=
  match feedback with
  | none => { f with absentCount := f.absentCount + 1 }
  | some v =>
    { f with span := match f.span with
        | none => some (v, v)
        | some (lo, hi) => some (min lo v, max hi v) }

/-- The filling capture completes: the counter advances, the banks change roles, the header is committed, CAPTURE is raised,
and the unit re-arms or not (R167). -/
def State.completeCapture (s : State) (h : Header) : State :=
  let seq := (s.rcu.sequence + 1) % Config.seqWrap
  let rearm := (s.rcu.config.map (·.rearm)).getD false
  (s.setRcu { s.rcu with
    sequence := seq, bank0 := s.rcu.bank0.swapped, bank1 := s.rcu.bank1.swapped, filling := none,
    committed := some { h with sequence := some seq },
    state := if rearm then .armed else .unconfigured }).raise .capture (some (.capture (some seq)))

/-- A record is taken at this update: words, records taken, figures; the first record fixes the trigger stamp and the
position at trigger, which is the position `pos` of the update (R162 to R166). A capture that has its N records then
completes (R167). -/
def State.takeRecord (s : State) (h : Header) (pos : Option Position) : State :=
  let words := h.chans.flatMap (s.recordWords h.withCommand)
  let h' : Header :=
    { h with
      stamp := some (h.stamp.getD s.pe.counter),
      position := if h.stamp.isSome then h.position else pos,
      taken := h.taken + 1,
      figures := List.zipWith (fun f ch => f.after (s.port ch).feedback) h.figures h.chans }
  let s1 := s.setRcu { (s.rcu.writeWords words) with filling := some h' }
  if h.records ≤ h'.taken then s1.completeCapture h' else s1

/-- Whether the filling capture takes a record at this update: its first, or one every D_c updates from the trigger stamp
(R163, R165). -/
def State.recordDue (s : State) (h : Header) : Bool :=
  match h.stamp with
  | none => true
  | some t0 => (s.pe.counter + Config.stampWrap - t0) % Config.stampWrap % h.decimation == 0

/-- The Response Capture Unit's own handling of an update (R165). -/
def State.captureUpdate (s : State) (pos : Option Position) : State :=
  match s.rcu.state, s.rcu.filling with
  | .filling, some h => if s.recordDue h then s.takeRecord h pos else s
  | _, _ => s

/-! ### Triggers (R162, R168) -/

/-- A trigger: its kind, and the mark unit for MARK. -/
structure Trigger where
  kind : TriggerKind
  unit : Option Nat
deriving DecidableEq, Repr

/-- The filling header a trigger sets up (R162). The stamp and the position are those of the first record, and absent until it
is taken (R163, R164); what a Capture Info shows for them until then is log entry 10. -/
def freshHeader (c : CaptureConfig) (t : Trigger) : Header :=
  { sequence := none, kind := t.kind, unit := t.unit, stamp := none, position := none, chans := c.chans,
    withCommand := c.withCommand, decimation := c.decimation, records := c.records, taken := 0, missed := false,
    figures := c.chans.map fun _ => { span := none, absentCount := 0 } }

/-- A trigger is handled by the capture state (R162): in ARMED it starts a capture, in FILLING it sets the missed-trigger
flag, in UNCONFIGURED it is ignored. -/
def State.captureTrigger (s : State) (t : Trigger) : State :=
  match s.rcu.state, s.rcu.config, s.rcu.filling with
  | .armed, some c, _ => s.setRcu { s.rcu.startBank with state := .filling, filling := some (freshHeader c t) }
  | .filling, _, some h => s.setRcu { s.rcu with filling := some { h with missed := true } }
  | _, _, _ => s

/-- A trigger that reaches the unit after it has handled the update: a capture it starts takes its first record at once
(R162). -/
def State.lateTrigger (pos : Option Position) (s : State) (t : Trigger) : State :=
  let s1 := s.captureTrigger t
  match s.rcu.state, s1.rcu.state, s1.rcu.filling with
  | .armed, .filling, some h => s1.takeRecord h pos
  | _, _, _ => s1

/-- Whether a capture may complete at this update: the filling one takes its N-th record, or one started at this update has a
single record (R167). -/
def State.completesNow (s : State) : Bool :=
  match s.rcu.state, s.rcu.filling, s.rcu.config with
  | .filling, some h, _ => s.recordDue h && decide (h.records ≤ h.taken + 1)
  | .armed, _, some c => decide (c.records ≤ 1)
  | _, _, _ => false

/-- The triggers of an update, of which some reach the unit before it handles the update, the others after (R162, R168). -/
def State.captureSplit (s : State) (before after : List Trigger) (pos : Option Position) : State :=
  after.foldl (State.lateTrigger pos) ((before.foldl State.captureTrigger s).captureUpdate pos)

/-- The triggers of an update that come before a completion at it, and those that come after (R168; log entry 11). -/
def splitTriggers (counter : Nat) (triggers : List Trigger) : List Trigger × List Trigger :=
  let (before, after) := triggers.zipIdx.partition fun (_, place) => Config.triggerBefore counter place
  (before.map (·.1), after.map (·.1))

/-- The triggers of an update and the unit's own handling of it. Where a capture completes at this update, each trigger may come
before or after it (R168), which is a free value for each (log entry 11); where none does, the order shows in nothing. -/
def State.captureStage (s : State) (triggers : List Trigger) (pos : Option Position) : State :=
  if !triggers.isEmpty && s.completesNow then
    s.captureSplit (splitTriggers s.pe.counter triggers).1 (splitTriggers s.pe.counter triggers).2 pos
  else (triggers.foldl State.captureTrigger s).captureUpdate pos

/-! ### Takings -/

/-- The configuration a Configure Capture carries; none when a field is refused (R160, R198). -/
def captureConfigOf (mask content decimation records rearm : Nat) : Option CaptureConfig :=
  match readFlag content, readFlag rearm with
  | some cmd, some re =>
    let chans := maskChannels mask
    let w := if cmd then 2 else 1
    if chans = [] ∨ decimation = 0 ∨ 16 < decimation ∨ records = 0 ∨ Config.bankWords < records * chans.length * w then none
    else some { chans := chans, withCommand := cmd, decimation := decimation, records := records, rearm := re }
  | _, _ => none

/-- Configure Capture (R160). An enumeration or flag byte without a meaning is refused before the state is looked at (R198).
That the state is judged before the ranges of R160 is read from the order of its sentences (log entry 24). -/
def takeConfigureCapture (mask content decimation records rearm : Nat) (s : State) : State × Reply :=
  if (readFlag content).isNone || (readFlag rearm).isNone then refuse s .invalidValue
  else if s.rcu.state = .filling then refuse s .wrongState
  else match captureConfigOf mask content decimation records rearm with
    | none => refuse s .invalidValue
    | some c =>
      accept (s.setRcu { s.rcu with config := some c, state := .armed }) (beBytes 4 ((records - 1) * decimation + 1))

/-- Capture Trigger (R163). -/
def takeCaptureTrigger (s : State) : State × Reply :=
  match s.rcu.state with
  | .unconfigured => refuse s .wrongState
  | .armed => accept (s.captureTrigger { kind := .request, unit := none }) (beBytes 1 0)
  | .filling => accept (s.captureTrigger { kind := .request, unit := none }) (beBytes 1 1)

/-- Abort Capture (R169). -/
def takeAbortCapture (s : State) : State × Reply :=
  match s.rcu.state, s.rcu.filling with
  | .filling, some h =>
    let s1 := s.setRcu { s.rcu with
      bank0 := s.rcu.bank0.aborted, bank1 := s.rcu.bank1.aborted, filling := none, state := .armed }
    accept (s1.raise .capture (some (.capture none))) (beBytes 4 h.taken)
  | _, _ => refuse s .wrongState

/-- The words of a capture: N × m × w (R161). -/
def headerWords (h : Header) : Nat := h.records * h.chans.length * (if h.withCommand then 2 else 1)

/-- Read Capture (R170): the words are a list behind its count (R198; log entry 9). -/
def takeReadCapture (sequence offset count : Nat) (s : State) : State × Reply :=
  if count = 0 ∨ 500 < count then refuse s .invalidValue
  else match s.rcu.committed with
    | none => refuse s .notFound
    | some h =>
      if h.sequence ≠ some sequence then refuse s .notFound
      else if headerWords h < offset + count then refuse s .invalidValue
      else
        accept s (beBytes 4 sequence ++ beBytes 2 count
          ++ ((s.rcu.committedWords.drop offset).take count).flatMap countBytes)

/-- The capture configuration in a Capture Info reply, 9 bytes (R171). -/
def captureConfigBytes (c : CaptureConfig) : List Byte :=
  beBytes 2 (channelMask c.chans) ++ flagBytes c.withCommand ++ beBytes 1 c.decimation ++ beBytes 4 c.records ++ flagBytes c.rearm

/-- The fields of a Capture Info reply, in the order of R171 (log entry 9). -/
def captureInfoBytes (s : State) : List Byte :=
  let r := s.rcu
  presenceBytes [r.config.isSome, r.filling.isSome, r.committed.isSome] ++ beBytes 1 r.state.code
    ++ optionalBytes 9 captureConfigBytes r.config ++ beBytes 4 r.sequence
    ++ optionalBytes 37 (headerBytes s.pe.counter s.unstatedPosition) r.filling
    ++ optionalBytes 37 (headerBytes s.pe.counter s.unstatedPosition) r.committed

/-- Capture Info (R171). -/
def takeCaptureInfo (s : State) : State × Reply := accept s (captureInfoBytes s)

/-- The Response Capture Unit's part of a warm reset (R172). -/
def CaptureUnit.warm (r : CaptureUnit) : CaptureUnit :=
  { r with
    bank0 := Bank.empty, bank1 := Bank.empty, filling := none, committed := none,
    state := if r.state = .unconfigured then .unconfigured else .armed }

/-! ### Commands -/

/-- CONFIGURE_CAPTURE. -/
def execConfigureCapture (tag mask content decimation records rearm : Nat) (s : State) : Answer :=
  .next (s.takeOrWait tag (.configureCapture mask content decimation records rearm)
    (takeConfigureCapture mask content decimation records rearm))

/-- CAPTURE_TRIGGER. -/
def execCaptureTrigger (tag : Nat) (s : State) : Answer := .next (s.takeOrWait tag .captureTrigger takeCaptureTrigger)

/-- ABORT_CAPTURE. -/
def execAbortCapture (tag : Nat) (s : State) : Answer := .next (s.takeOrWait tag .abortCapture takeAbortCapture)

/-- READ_CAPTURE. -/
def execReadCapture (tag sequence offset count : Nat) (s : State) : Answer :=
  .next (s.takeOrWait tag (.readCapture sequence offset count) (takeReadCapture sequence offset count))

/-- CAPTURE_INFO. -/
def execCaptureInfo (tag : Nat) (s : State) : Answer := .next (s.takeOrWait tag .captureInfo takeCaptureInfo)

/-- Whether the record that a header lacks next is the one of the present stamp: the trigger stamp and taken × D_c updates more
(R165). A header without a record yet takes its first at the first update that reaches the unit, so none is due at the present
stamp (R163). -/
def State.nextRecordDue (s : State) (h : Header) : Bool :=
  match h.stamp with
  | none => false
  | some t0 => (s.pe.counter + Config.stampWrap - t0) % Config.stampWrap == h.taken * h.decimation

/-- CAPTURE_COMPLETE: the N-th record of the filling capture, due at the present stamp and not taken yet, is taken and the
capture completes (R165, R167; log entry 1). -/
def execCaptureComplete (s : State) : Answer :=
  match s.rcu.state, s.rcu.filling with
  | .filling, some h =>
    if h.records ≤ h.taken + 1 ∧ s.nextRecordDue h then .next (s.takeRecord h s.position) else .next s
  | _, _ => .next s

end Sys2Proof.Machine
end

