-- ==== Sys2Proof/Machine/Drive.lean ====
section
/-! DEFINITION. The Drive Computation Unit: the command arithmetic of a channel, gain sets, and its three requests
(chapter 1). -/

namespace Sys2Proof.Machine

open Sys2Proof

/-! ### The six stages (R8 to R14) -/

/-- Stage 1: p_a + floor((p_b − p_a) × k / U) (R8). -/
def interpolate (pa pb : Int) (k u : Nat) : Int := pa + (pb - pa) * k / u

/-- Stage 2: floor(G × λ / 65536) (R9). -/
def effectiveGain (g lam : Nat) : Nat := g * lam / 65536

/-- Stage 3: v × q / 16384 to the nearest integer, an exact half away from zero (R10). -/
def dynamicPart (v : Int) (q : Nat) : Int :=
  let p := v * q
  if 0 ≤ p then (p + 8192) / 16384 else -((-p + 8192) / 16384)

/-- A raw command limited to the clamp range (R12). -/
def clampTo (d : DriveRecord) (raw : Int) : Int :=
  if raw < d.clampMin then d.clampMin else if d.clampMax < raw then d.clampMax else raw

/-- Whether the raw command lies outside the clamp range (R12). -/
def isClamped (d : DriveRecord) (raw : Int) : Bool := decide (raw < d.clampMin) || decide (d.clampMax < raw)

/-- Whether the step to `c` is greater than the slew limit (R14). -/
def isSlewLimited (d : DriveRecord) (c : Int) : Bool := decide (d.slew < (c - d.lastOutput).natAbs)

/-- Stage 6: the command, at most the slew limit from the last output (R14). -/
def slewTo (d : DriveRecord) (c : Int) : Int :=
  if isSlewLimited d c then (if 0 < c - d.lastOutput then d.lastOutput + d.slew else d.lastOutput - d.slew) else c

/-- What the computation of a channel hands on (R6, R19). -/
structure DriveResult where
  command : Int
  target : Int
  dynamic : Bool
  clamped : Bool
  limited : Bool
deriving DecidableEq, Repr

/-- Stages 4 to 6 on a dynamic part (R12, R14). -/
def driveResult (d : DriveRecord) (dynamic : Bool) (part : Int) : DriveResult :=
  let raw := d.offset + part
  let c := clampTo d raw
  { command := slewTo d c, target := c, dynamic := dynamic, clamped := isClamped d raw, limited := isSlewLimited d c }

/-- The two points of a channel that the context's position names (R7, R40). -/
def State.contextPoints (s : State) (p : PlayContext) (j : Nat) : Int × Int :=
  match (s.clip p.clip).load with
  | none => (0, 0)
  | some l =>
    let n := p.u / p.upsample
    ((framePoint s.cs l (p.first + n) j).toInt, (framePoint s.cs l (p.first + (n + 1) % p.count) j).toInt)

/-- Stages 1 to 3 for the channel at list position `j` of the context's clip (R5, R7 to R10, R24). -/
def State.dynamicOf (s : State) (p : PlayContext) (ch j : Nat) : Int :=
  let (pa, pb) := s.contextPoints p j
  let v := interpolate pa pb (p.u % p.upsample) p.upsample
  let g := (s.gainSet p.gainSet).active[ch]?.getD 0
  dynamicPart v (effectiveGain g s.pe.lam)

/-- The computation of a channel that is not driven, or rests (R3, R17). -/
def State.restResult (s : State) (ch : Nat) : DriveResult := driveResult (s.drive ch) false 0

/-- The computation of an ENGAGED channel at an update, by engine state (R3, R4, R17 to R19). -/
def State.computeChannel (s : State) (ch : Nat) : DriveResult :=
  if s.pe.state = .tripped then
    { command := (s.drive ch).lastOutput, target := (s.drive ch).lastOutput, dynamic := false, clamped := false,
      limited := false }
  else if s.pe.state.playing then
    match s.pe.ctx with
    | some { body := .play p, .. } =>
      match p.chans.idxOf? ch with
      | some j => driveResult (s.drive ch) true (s.dynamicOf p ch j)
      | none => s.restResult ch
    | _ => s.restResult ch
  else s.restResult ch

/-- The results of all ENGAGED channels at an update, ascending; each is computed from the state before the update
(R3). -/
def State.computeAll (s : State) : List (Nat × DriveResult) :=
  (allChannels.filter fun ch => (s.port ch).state == .engaged).map fun ch => (ch, s.computeChannel ch)

/-! ### Gain sets (R21) -/

/-- Whether a write of the set can be latched at once (R21). -/
def State.latchesAtOnce (s : State) (set : Nat) : Bool :=
  if s.pe.state.playing then
    match s.pe.ctx with
    | some { body := .play p, .. } => p.gainSet != set
    | _ => true
  else true

/-! ### Takings -/

/-- Configure Channel (R2). -/
def takeConfigureChannel (channel : Nat) (offset clampMin clampMax : Int) (slew : Nat) (s : State) : State × Reply :=
  if 15 < channel ∨ clampMax < clampMin ∨ slew = 0 then refuse s .invalidValue
  else
    accept (s.setDrive channel
      { s.drive channel with offset := offset, clampMin := clampMin, clampMax := clampMax, slew := slew }) []

/-- Sixteen gains in channel order. -/
def gainVector (gains : List Nat) : Vector Nat 16 := Vector.ofFn fun i => gains.getD i.val 0

/-- Write Gain Set (R21). -/
def takeWriteGainSet (set : Nat) (gains : List Nat) (s : State) : State × Reply :=
  if 7 < set ∨ gains.any (fun g => decide (32767 < g)) then refuse s .invalidValue
  else
    let written : GainSet := { s.gainSet set with pending := gainVector gains, flag := true }
    if s.latchesAtOnce set then accept (s.setGainSet set written.latched) (beBytes 1 0)
    else accept (s.setGainSet set written) (beBytes 1 1)

/-- Read Gain Set (R23). -/
def takeReadGainSet (set : Nat) (s : State) : State × Reply :=
  if 7 < set then refuse s .invalidValue
  else
    let g := s.gainSet set
    accept s (g.active.toList.flatMap (beBytes 2) ++ g.pending.toList.flatMap (beBytes 2) ++ flagBytes g.flag)

/-! ### Commands -/

/-- CONFIGURE_CHANNEL. -/
def execConfigureChannel (tag channel : Nat) (offset clampMin clampMax : Int) (slew : Nat) (s : State) : Answer :=
  .next (s.takeOrWait tag (.configureChannel channel offset clampMin clampMax slew)
    (takeConfigureChannel channel offset clampMin clampMax slew))

/-- WRITE_GAIN_SET. -/
def execWriteGainSet (tag set : Nat) (gains : List Nat) (s : State) : Answer :=
  .next (s.takeOrWait tag (.writeGainSet set gains) (takeWriteGainSet set gains))

/-- READ_GAIN_SET. -/
def execReadGainSet (tag set : Nat) (s : State) : Answer := .next (s.takeOrWait tag (.readGainSet set) (takeReadGainSet set))

end Sys2Proof.Machine
end

