-- ==== Sys2Proof/Machine/Limits.lean ====
section
/-! DEFINITION. The Limit Monitor: the three detectors of a channel, the command history, the statistics of feedback, and
Configure Limits (chapter 6). -/

namespace Sys2Proof.Machine

open Sys2Proof

/-! ### Detectors (R125, R129) -/

/-- How a detector with persistence P moves on an evaluation (R125). -/
def Detector.evaluate (d : Detector) (p : Nat) (exceeded : Bool) : Detector :=
  if exceeded then
    match d.state with
    | .clear => { state := if p = 1 then .triggered else .counting, count := 1 }
    | .counting => { state := if p ≤ d.count + 1 then .triggered else .counting, count := d.count + 1 }
    | .triggered => d
  else
    match d.state with
    | .clear => d
    | .counting => Detector.cleared
    | .triggered => Detector.cleared

/-- How CLAMP_RATE moves on a clamped indication (R129). -/
def Detector.countClamp (d : Detector) (kc : Nat) : Detector :=
  let n := min 65535 (d.count + 1)
  match d.state with
  | .triggered => { d with count := n }
  | .clear => { state := if kc ≤ n then .triggered else .counting, count := n }
  | .counting => { state := if kc ≤ n then .triggered else .counting, count := n }

/-- Whether a detector becomes TRIGGERED between two records of its state, which is when it fires (R131). -/
def fires (old new : Detector) : Bool := old.state != .triggered && new.state == .triggered

/-- The cause of the action a detector sends (R131). -/
def limitCause : Action → EngineCause
  | .pause => .limitPause
  | .stop => .limitStop
  | .trip => .limitTrip
  | .note => .limitPause

/-- A detector fires: LIMIT is raised with the limit record, and then the engine receives the action, unless it is NOTE
(R131). -/
def State.fireDetector (s : State) (r : LimitRecord) : State :=
  let s1 := s.raise .limit (some (.limit r))
  if r.action = .note then s1 else s1.applyAction r.action (limitCause r.action) (some r.channel)

/-! ### Evaluations -/

/-- Whether a feedback lies outside ENVELOPE's band (R126). -/
def envelopeOver (c : LimitConfig) (f : Int) : Bool := decide (f < c.fMin) || decide (c.fMax < f)

/-- The tracking error |h − f|, h standing D + 1 places older than the newest of the history (R128). -/
def trackingError (l : ChannelLimits) (f : Int) : Nat := ((l.history[l.config.delay + 1]?.getD 0) - f).natAbs

/-- ENVELOPE is evaluated on a feedback, as a whole (R124, R126). -/
def State.evalEnvelope (s : State) (ch : Nat) (f : Int) (stamp : Nat) : State :=
  let l := s.limits ch
  if l.config.env.enable then
    let new := l.env.evaluate l.config.envPersist (envelopeOver l.config f)
    let s1 := s.setLimits ch { l with env := new }
    if fires l.env new then
      s1.fireDetector { channel := ch, detector := .envelope, action := l.config.env.action, stamp := stamp, measured := f }
    else s1
  else s

/-- TRACKING is evaluated on a feedback, as a whole (R124, R128). -/
def State.evalTracking (s : State) (ch : Nat) (f : Int) (stamp : Nat) : State :=
  let l := s.limits ch
  if l.config.trk.enable then
    let err := trackingError l f
    let new := l.trk.evaluate l.config.trkPersist (decide (l.config.eMax < err))
    let s1 := s.setLimits ch { l with trk := new }
    if fires l.trk new then
      s1.fireDetector { channel := ch, detector := .tracking, action := l.config.trk.action, stamp := stamp, measured := err }
    else s1
  else s

/-- A clamped indication at a dynamic update is counted by an enabled CLAMP_RATE (R129). -/
def State.evalClamp (s : State) (ch : Nat) : State :=
  let l := s.limits ch
  if l.config.clamp.enable then
    let new := l.clamp.countClamp l.config.kc
    let s1 := s.setLimits ch { l with clamp := new }
    if fires l.clamp new then
      s1.fireDetector
        { channel := ch, detector := .clampRate, action := l.config.clamp.action, stamp := s.pe.counter, measured := new.count }
    else s1
  else s

/-! ### History and statistics -/

/-- A command enters the newest place of a history, and the oldest is lost (R127). -/
def pushHistory (h : Vector Int 16) (v : Int) : Vector Int 16 :=
  Vector.ofFn fun i => if i.val = 0 then v else h[i.val - 1]?.getD 0

/-- The feedback taken into a record's peak and valley (R136). -/
def takeSpan (span : Option (Int × Int)) (f : Int) : Option (Int × Int) :=
  match span with
  | none => some (f, f)
  | some (p, v) => some (max p f, min v f)

/-- A visit record of the context changed, for one channel. -/
def State.mapStat (s : State) (ch : Nat) (f : StatRecord → StatRecord) : State :=
  match s.pe.ctx with
  | some c =>
    match c.body with
    | .play p =>
      s.setCtx (some { c with body := .play { p with stats := p.stats.map fun r => if r.channel == ch then f r else r } })
    | .dwell _ => s
  | none => s

/-- A feedback is taken into the visit statistics of a driven channel while the engine plays (R136). -/
def State.takeFeedback (s : State) (ch : Nat) (f : Int) : State :=
  if s.pe.state.playing && s.driven ch then s.mapStat ch fun r => { r with span := takeSpan r.span f } else s

/-- The Limit Monitor takes a feedback of an ENGAGED channel: statistics, then ENVELOPE, then TRACKING (R124, R136). -/
def State.limitFeedback (s : State) (ch : Nat) (f : Int) (stamp : Nat) : State :=
  ((s.takeFeedback ch f).evalEnvelope ch f stamp).evalTracking ch f stamp

/-- The three detectors of a channel return to CLEAR with count 0. -/
def ChannelLimits.clearDetectors (l : ChannelLimits) : ChannelLimits :=
  { l with env := Detector.cleared, trk := Detector.cleared, clamp := Detector.cleared }

/-! ### Configure Limits (R134) -/

/-- The configuration a Configure Limits carries; none when an action or an enable byte has no meaning (R198). -/
def limitConfigOf (l : LimitFields) : Option LimitConfig :=
  match readAction l.envAction, readFlag l.envEnable, readAction l.trkAction, readFlag l.trkEnable, readAction l.clampAction,
    readFlag l.clampEnable with
  | some ea, some ee, some ta, some te, some ca, some ce =>
    some { fMin := l.fMin, fMax := l.fMax, eMax := l.eMax, delay := l.delay, envPersist := l.envPersist,
           trkPersist := l.trkPersist, kc := l.kc, env := { action := ea, enable := ee }, trk := { action := ta, enable := te },
           clamp := { action := ca, enable := ce } }
  | _, _, _, _, _, _ => none

/-- The ranges of R134. -/
def limitsInRange (c : LimitConfig) : Bool :=
  decide (c.fMin ≤ c.fMax) && decide (c.delay ≤ 14) && decide (1 ≤ c.envPersist) && decide (c.envPersist ≤ 255)
    && decide (1 ≤ c.trkPersist) && decide (c.trkPersist ≤ 255) && decide (1 ≤ c.kc)

/-- Configure Limits (R134). -/
def takeConfigureLimits (channel : Nat) (l : LimitFields) (s : State) : State × Reply :=
  match limitConfigOf l with
  | none => refuse s .invalidValue
  | some c =>
    if 15 < channel ∨ ¬ limitsInRange c then refuse s .invalidValue
    else accept (s.setLimits channel { (s.limits channel).clearDetectors with config := c }) []

/-! ### Commands -/

/-- CONFIGURE_LIMITS. -/
def execConfigureLimits (tag channel : Nat) (limits : LimitFields) (s : State) : Answer :=
  .next (s.takeOrWait tag (.configureLimits channel limits) (takeConfigureLimits channel limits))

/-- The stamp of the update whose record a channel's response answers (R131). -/
def State.windowStamp (s : State) (ch : Nat) : Nat := ((s.port ch).window.map (·.stamp)).getD s.pe.counter

/-- Whether a detector of a channel can be evaluated: the channel is ENGAGED, and for CLAMP_RATE its updates are dynamic, which
is while the engine plays a clip that drives the channel (R124, R129, R133). -/
def State.evaluates (s : State) (ch : Nat) (detector : DetectorKind) : Bool :=
  (s.port ch).state == .engaged
    && (match detector with
      | .envelope => true
      | .tracking => true
      | .clampRate => s.pe.state.playing && s.driven ch)

/-- DETECTOR_FIRE: the evaluation of a channel's detector, taken where it makes the detector TRIGGERED (R131, R133; log
entry 1). -/
def execDetectorFire (channel : Nat) (detector : DetectorKind) (feedback : Int) (s : State) : Answer :=
  let l := s.limits channel
  let s1 := match detector with
    | .envelope => s.evalEnvelope channel feedback (s.windowStamp channel)
    | .tracking => s.evalTracking channel feedback (s.windowStamp channel)
    | .clampRate => s.evalClamp channel
  let fired := match detector with
    | .envelope => fires l.env (s1.limits channel).env
    | .tracking => fires l.trk (s1.limits channel).trk
    | .clampRate => fires l.clamp (s1.limits channel).clamp
  if s.evaluates channel detector ∧ fired = true then .next s1 else .next s

end Sys2Proof.Machine
end

