-- ==== Sys2Proof/Machine/Ports.lean ====
section
/-! DEFINITION. The Channel Port Controller: windows and records of the servo links, faults, Rig Ready, and its nine requests
(chapter 5). -/

namespace Sys2Proof.Machine

open Sys2Proof

/-! ### Change flags and faults (R117, R118) -/

/-- A channel's change flag is set, and CHANNEL is raised once (R118). -/
def State.flagChange (s : State) (ch : Nat) : State :=
  (s.setPort ch { s.port ch with changed := true }).raise .channel none

/-- Whether a fault of the channel sends the engine a TRIP (R117, point 5). -/
def State.faultTrips (s : State) (ch : Nat) : Bool :=
  (s.pe.state.playing && s.driven ch) || (s.pe.state == .returning && (s.port ch).state == .engaged)

/-- A channel enters FAULT (R117). A window that is open stays open until the next update closes it (section 5.5). -/
def State.faultChannel (s : State) (ch : Nat) (cause : FaultCause) : State :=
  let s1 := (s.setPort ch
    { s.port ch with
      state := .fault, enable := false, faultCause := some cause, setpoint := none, linkCount := none }).flagChange ch
  if s.faultTrips ch then s1.applyAction .trip .channelFault (some ch) else s1

/-! ### Windows and records (R113 to R116) -/

/-- The window of a channel's record closes; without a response the record is missing (R115, R116). -/
def State.closeWindow (s : State) (ch : Nat) : State :=
  let p := s.port ch
  match p.window with
  | none => s
  | some w =>
    if w.answered then s.setPort ch { p with window := none }
    else match p.state with
      | .linking =>
        let n := p.linkCount.getD 0 + 1
        let s1 := s.setPort ch { p with window := none, linkCount := some n }
        if 256 ≤ n then s1.faultChannel ch .noLink else s1
      | .standby =>
        let s1 := s.setPort ch { p with window := none, missCount := p.missCount + 1 }
        if 3 ≤ p.missCount + 1 then s1.faultChannel ch .linkLost else s1
      | .engaged =>
        let s1 := s.setPort ch { p with window := none, missCount := p.missCount + 1 }
        if 3 ≤ p.missCount + 1 then s1.faultChannel ch .linkLost else s1
      | .off => s.setPort ch { p with window := none }
      | .fault => s.setPort ch { p with window := none }

/-- The windows of all channels close, ascending (R113; log entry 12). -/
def State.closeWindows (s : State) : State := allChannels.foldl State.closeWindow s

/-- Whether a channel's link carries records: LINKING, STANDBY or ENGAGED (R113). -/
def PortState.live : PortState → Bool
  | .off => false | .linking => true | .standby => true | .engaged => true | .fault => false

/-- A command record is sent on a live link, and its window opens; the command is the channel's last output, which for an
ENGAGED channel is the command of this update (R113). -/
def State.sendRecord (s : State) (ch : Nat) : State :=
  let p := s.port ch
  if p.state.live then
    s.setPort ch
      { p with
        window := some
          { stamp := s.pe.counter, exchange := s.pe.counter % 256, engaged := p.state == .engaged,
            command := (s.drive ch).lastOutput, answered := false } }
  else s

/-- Command records are sent on every live link (R113). -/
def State.sendRecords (s : State) : State := allChannels.foldl State.sendRecord s

/-- The open window of a channel, when a response with this exchange number answers it (R114). -/
def State.answerable (s : State) (ch exchange : Nat) : Option Window :=
  match (s.port ch).window with
  | some w => if (s.port ch).state.live && !w.answered && w.exchange == exchange then some w else none
  | none => none

/-- A taken response's status is acted on (R114, R116). -/
def State.actOnStatus (s : State) (ch : Nat) (feedback : Int) (status : ServoStatus) (stamp : Nat) : State :=
  match status, (s.port ch).state with
  | .overload, _ => s.faultChannel ch .overload
  | .ok, .linking => (s.setPort ch { s.port ch with state := .standby, linkCount := none }).flagChange ch
  | .ok, .engaged => s.limitFeedback ch feedback stamp
  | .ok, _ => s

/-- A response that answers the open window is taken (R114). -/
def State.takeResponse (s : State) (ch : Nat) (w : Window) (feedback setpoint : Int) (status : ServoStatus) : State :=
  (s.setPort ch
    { s.port ch with
      window := some { w with answered := true }, missCount := 0, feedback := some feedback,
      setpoint := some setpoint }).actOnStatus ch feedback status w.stamp

/-! ### Takings (R105 to R112, R119, R121) -/

/-- A reply with the channel's state. -/
def acceptPort (s : State) (ch : Nat) : State × Reply := accept s (beBytes 1 (s.port ch).state.code)

/-- Channel Power On (R105). -/
def takeChannelPowerOn (ch : Nat) (s : State) : State × Reply :=
  if 15 < ch then refuse s .invalidValue
  else match (s.port ch).state with
    | .fault => refuse s .wrongState
    | .off =>
      acceptPort (s.setPort ch
        { s.port ch with
          state := .linking, linkCount := some 0, missCount := 0, setpoint := none, feedback := none, enable := true }) ch
    | .linking => acceptPort s ch
    | .standby => acceptPort s ch
    | .engaged => acceptPort s ch

/-- The engine states in which a driven channel may not be taken away (R106, R109, R112). -/
def EngineState.holdsChannels (e : EngineState) : Bool := e.playing || e == .paused

/-- Channel Power Off (R106). A window that is open stays open until the next update closes it (section 5.5), so a channel
powered on again before that update is LINKING with it. -/
def takeChannelPowerOff (ch : Nat) (s : State) : State × Reply :=
  if 15 < ch then refuse s .invalidValue
  else if s.pe.state.holdsChannels && s.driven ch && (s.port ch).state == .engaged then refuse s .inUse
  else match (s.port ch).state with
    | .off => acceptPort s ch
    | _ =>
      acceptPort (s.setPort ch
        { s.port ch with
          state := .off, enable := false, faultCause := none, linkCount := none, setpoint := none, missCount := 0 }) ch

/-- An ENGAGED port leaves ENGAGED for STANDBY. -/
def Port.disengaged (p : Port) : Port := if p.state = .engaged then { p with state := .standby } else p

/-- The channels a Set Rig Mode REPLAY changes, and those a LOCAL changes (R107, R108). -/
def Port.changesToReplay (p : Port) : Bool := p.owner == .local
def Port.changesToLocal (p : Port) : Bool := p.owner == .replay || p.state == .engaged

/-- One channel under Set Rig Mode REPLAY (R107). -/
def State.giveReplay (s : State) (ch : Nat) : State :=
  if (s.port ch).changesToReplay then (s.setPort ch { s.port ch with owner := .replay }).flagChange ch else s

/-- One channel under Set Rig Mode LOCAL (R108). -/
def State.giveLocal (s : State) (ch : Nat) : State :=
  if (s.port ch).changesToLocal then (s.setPort ch { (s.port ch).disengaged with owner := .local }).flagChange ch else s

/-- Set Rig Mode REPLAY (R107). -/
def takeRigModeReplay (s : State) : State × Reply :=
  let s1 : State := { s with cpc := { s.cpc with rigMode := .replay } }
  accept (allChannels.foldl State.giveReplay s1) (beBytes 2 (maskOf 16 fun ch => (s.port ch).changesToReplay))

/-- Set Rig Mode LOCAL (R108). -/
def takeRigModeLocal (s : State) : State × Reply :=
  if ¬ (s.pe.state = .idle ∨ s.pe.state = .tripped) then refuse s .wrongState
  else
    let s1 : State := { s with cpc := { s.cpc with rigMode := .local } }
    accept (allChannels.foldl State.giveLocal s1) (beBytes 2 (maskOf 16 fun ch => (s.port ch).changesToLocal))

/-- Set Rig Mode by its mode byte (R107, R108, R198). -/
def takeSetRigMode (mode : Nat) (s : State) : State × Reply :=
  match readOwner mode with
  | none => refuse s .invalidValue
  | some .replay => takeRigModeReplay s
  | some .local => takeRigModeLocal s

/-- The reply of a taken Set Channel Owner: owner and state after the request (R109). -/
def acceptOwner (s : State) (ch : Nat) : State × Reply :=
  accept s (beBytes 1 (s.port ch).owner.code ++ beBytes 1 (s.port ch).state.code)

/-- Set Channel Owner (R109). -/
def takeSetChannelOwner (ch owner : Nat) (s : State) : State × Reply :=
  match readOwner owner with
  | none => refuse s .invalidValue
  | some o =>
    if 15 < ch then refuse s .invalidValue
    else match o with
      | .replay =>
        if s.cpc.rigMode = .local then refuse s .wrongState
        else acceptOwner (s.setPort ch { s.port ch with owner := .replay }) ch
      | .local =>
        if s.pe.state.holdsChannels && s.driven ch then refuse s .inUse
        else acceptOwner (s.setPort ch { (s.port ch).disengaged with owner := .local }) ch

/-- A channel is engaged from its present setpoint: last output, history, detectors, port state (R16, R111, R127, R133). A
STANDBY channel has answered, so its setpoint is present; the last output stands in for it in a state no run reaches. -/
def State.engageChannel (s : State) (ch : Nat) : State :=
  let v := (s.port ch).setpoint.getD (s.drive ch).lastOutput
  let s1 := s.setDrive ch { s.drive ch with lastOutput := v }
  let s2 := s1.setLimits ch { (s.limits ch).clearDetectors with history := Vector.replicate 16 v }
  s2.setPort ch { s.port ch with state := .engaged }

/-- Engage (R111). -/
def takeEngage (ch : Nat) (s : State) : State × Reply :=
  if 15 < ch then refuse s .invalidValue
  else if s.pe.state = .tripped then refuse s .wrongState
  else if (s.port ch).state ≠ .standby then refuse s .wrongState
  else if (s.port ch).owner ≠ .replay then refuse s .notOwner
  else if ¬ s.cpc.rigReady then refuse s .notReady
  else
    let s1 := s.engageChannel ch
    accept s1 (countBytes (s1.drive ch).lastOutput)

/-- Release (R112). That the port state is judged before the drive is read from the order of R112's sentences (log
entry 24). -/
def takeRelease (ch : Nat) (s : State) : State × Reply :=
  if 15 < ch then refuse s .invalidValue
  else if (s.port ch).state ≠ .engaged then refuse s .wrongState
  else if s.pe.state.holdsChannels && s.driven ch then refuse s .inUse
  else accept (s.setPort ch { s.port ch with state := .standby }) []

/-- The channels whose change flag is set, as a mask (R118, R177). -/
def State.changedMask (s : State) : Nat := maskOf 16 fun ch => (s.port ch).changed

/-- Acknowledge Channels (R119). -/
def takeAcknowledgeChannels (mask : Nat) (s : State) : State × Reply :=
  let s1 : State :=
    { s with cpc := { s.cpc with
        ports := s.cpc.ports.mapIdx fun ch p => if mask.testBit ch then { p with changed := false } else p } }
  accept s1 (beBytes 2 s1.changedMask)

/-- The port record of a Read Channel reply, behind its own presence byte (section 5.1, R198; log entry 9). -/
def portBytes (p : Port) : List Byte :=
  presenceBytes [p.faultCause.isSome, p.linkCount.isSome, p.setpoint.isSome, p.feedback.isSome]
    ++ beBytes 1 p.state.code ++ beBytes 1 p.owner.code ++ flagBytes p.changed
    ++ optionalBytes 1 (fun c => beBytes 1 (FaultCause.code c)) p.faultCause ++ beBytes 1 p.missCount
    ++ optionalBytes 2 (beBytes 2) p.linkCount ++ optionalBytes 2 countBytes p.setpoint ++ optionalBytes 2 countBytes p.feedback
    ++ flagBytes p.enable

/-- The drive record of a Read Channel reply (section 1.1). -/
def driveBytes (d : DriveRecord) : List Byte :=
  countBytes d.offset ++ countBytes d.clampMin ++ countBytes d.clampMax ++ beBytes 2 d.slew ++ countBytes d.lastOutput

/-- A detector's action and enable. -/
def setupBytes (d : DetectorSetup) : List Byte := beBytes 1 d.action.code ++ flagBytes d.enable

/-- The three detectors of a Read Channel reply: state, count and configuration of each (R121, section 6.1; log entry 9). -/
def limitBytes (l : ChannelLimits) : List Byte :=
  beBytes 1 l.env.state.code ++ beBytes 1 l.env.count ++ countBytes l.config.fMin ++ countBytes l.config.fMax
    ++ beBytes 1 l.config.envPersist ++ setupBytes l.config.env
    ++ beBytes 1 l.trk.state.code ++ beBytes 1 l.trk.count ++ beBytes 2 l.config.eMax ++ beBytes 1 l.config.delay
    ++ beBytes 1 l.config.trkPersist ++ setupBytes l.config.trk
    ++ beBytes 1 l.clamp.state.code ++ beBytes 2 l.clamp.count ++ beBytes 2 l.config.kc ++ setupBytes l.config.clamp

/-- A channel's record in the context's visit statistics (R121). -/
def State.visitStat (s : State) (ch : Nat) : Option StatRecord :=
  match s.pe.ctx with
  | some { body := .play p, .. } => p.stats.find? fun r => r.channel == ch
  | _ => none

/-- The fields of a Read Channel reply, in the order of R121 (log entry 9). -/
def channelBytes (s : State) (ch : Nat) : List Byte :=
  presenceBytes [(s.visitStat ch).isSome] ++ portBytes (s.port ch) ++ beBytes 1 s.cpc.rigMode.code
    ++ flagBytes s.cpc.rigReady ++ driveBytes (s.drive ch) ++ flagBytes (s.driven ch)
    ++ optionalBytes 13 statBytes (s.visitStat ch) ++ limitBytes (s.limits ch)

/-- Read Channel (R121). -/
def takeReadChannel (ch : Nat) (s : State) : State × Reply :=
  if 15 < ch then refuse s .invalidValue else accept s (channelBytes s ch)

/-- A port's part of a warm reset (R122). -/
def Port.warm (p : Port) : Port := { p.disengaged with changed := false }

/-! ### Commands -/

/-- CHANNEL_POWER_ON. -/
def execChannelPowerOn (tag channel : Nat) (s : State) : Answer :=
  .next (s.takeOrWait tag (.channelPowerOn channel) (takeChannelPowerOn channel))

/-- CHANNEL_POWER_OFF. -/
def execChannelPowerOff (tag channel : Nat) (s : State) : Answer :=
  .next (s.takeOrWait tag (.channelPowerOff channel) (takeChannelPowerOff channel))

/-- SET_RIG_MODE_REPLAY. -/
def execSetRigModeReplay (tag : Nat) (s : State) : Answer := .next (s.takeOrWait tag (.setRigMode 1) takeRigModeReplay)

/-- SET_RIG_MODE_LOCAL. -/
def execSetRigModeLocal (tag : Nat) (s : State) : Answer := .next (s.takeOrWait tag (.setRigMode 0) takeRigModeLocal)

/-- SET_CHANNEL_OWNER. -/
def execSetChannelOwner (tag channel owner : Nat) (s : State) : Answer :=
  .next (s.takeOrWait tag (.setChannelOwner channel owner) (takeSetChannelOwner channel owner))

/-- ENGAGE. -/
def execEngage (tag channel : Nat) (s : State) : Answer := .next (s.takeOrWait tag (.engage channel) (takeEngage channel))

/-- RELEASE. -/
def execRelease (tag channel : Nat) (s : State) : Answer := .next (s.takeOrWait tag (.release channel) (takeRelease channel))

/-- ACKNOWLEDGE_CHANNELS. -/
def execAcknowledgeChannels (tag mask : Nat) (s : State) : Answer :=
  .next (s.takeOrWait tag (.acknowledgeChannels mask) (takeAcknowledgeChannels mask))

/-- READ_CHANNEL. -/
def execReadChannel (tag channel : Nat) (s : State) : Answer :=
  .next (s.takeOrWait tag (.readChannel channel) (takeReadChannel channel))

/-- SERVO_RESPONSE: taken only when it is intact and answers the open window of a live channel, else discarded (R114). -/
def execServoResponse (channel : Nat) (intact : Bool) (exchange : Nat) (feedback setpoint : Int) (status : ServoStatus)
    (s : State) : Answer :=
  match s.answerable channel exchange with
  | some w => if intact && decide (channel < Config.channels) then .next (s.takeResponse channel w feedback setpoint status) else .next s
  | none => .next s

/-- Whether a channel's window stands open without a response. -/
def State.windowUnanswered (s : State) (ch : Nat) : Bool :=
  match (s.port ch).window with
  | some w => !w.answered
  | none => false

/-- LINK_LOST: the window that closes as a STANDBY or ENGAGED channel's third consecutive missing record (R115; log
entry 1). -/
def execLinkLost (channel : Nat) (s : State) : Answer :=
  if ((s.port channel).state = .standby ∨ (s.port channel).state = .engaged) ∧ 3 ≤ (s.port channel).missCount + 1
      ∧ s.windowUnanswered channel then .next (s.closeWindow channel)
  else .next s

/-- LINKING_TIMEOUT: the window that closes as the 256th of a LINKING channel (R116; log entry 1). -/
def execLinkingTimeout (channel : Nat) (s : State) : Answer :=
  if (s.port channel).state = .linking ∧ 256 ≤ (s.port channel).linkCount.getD 0 + 1 ∧ s.windowUnanswered channel then
    .next (s.closeWindow channel)
  else .next s

/-- RIG_READY_DEASSERTED: the level falls and the engine receives a TRIP action (R120). -/
def execRigReadyDeasserted (s : State) : Answer :=
  .next (State.applyAction { s with cpc := { s.cpc with rigReady := false } } .trip .rigReadyLost none)

/-- RIG_READY_REASSERTED: nothing but the level changes (R120). -/
def execRigReadyReasserted (s : State) : Answer := .next { s with cpc := { s.cpc with rigReady := true } }

end Sys2Proof.Machine
end

