-- ==== Sys2Proof/Machine/Events.lean ====
section
/-! DEFINITION. The Event Unit's two requests (sections 9.4, 9.5) and its part of a warm reset. -/

namespace Sys2Proof.Machine

open Sys2Proof

/-! ### Enable Events (R180) -/

/-- Enables replaced by a cause mask. -/
def EventUnit.enabled (e : EventUnit) (mask : Nat) : EventUnit :=
  { e with causes := e.causes.mapIdx fun i c => { c with enable := mask.testBit i } }

/-- A notice for a pending cause whose enable was clear and is now set (R178, R180). -/
def State.announce (before : State) (s : State) (c : Cause) : State :=
  if (before.cause c).enable = false ∧ (s.cause c).enable = true ∧ 0 < (s.cause c).count then
    s.placeNotice c (s.cause c).count
  else s

/-- The enables as a mask. -/
def State.enableMask (s : State) : Nat :=
  allCauses.foldl (fun acc c => if (s.cause c).enable then acc + 2 ^ c.index else acc) 0

/-- Enable Events (R180). A mask with any of bits 9 to 15 set is refused (R198). -/
def takeEnableEvents (mask : Nat) (s : State) : State × Reply :=
  if 512 ≤ mask then refuse s .invalidValue
  else
    let s1 : State := { s with eu := s.eu.enabled mask }
    let s2 := allCauses.foldl (State.announce s) s1
    accept s2 (beBytes 2 s2.enableMask ++ allCauses.flatMap fun c => beBytes 1 (s2.cause c).count)

/-! ### Take Event (R181) -/

/-- The pending cause of highest priority. -/
def State.topCause (s : State) : Option Cause := allCauses.find? fun c => decide (0 < (s.cause c).count)

/-- The detail of a Take Event reply (section 11.8); for CHANNEL the change flags as they stand (R177), for MARK the unit
set as well. -/
def State.detailBytes (s : State) (c : Cause) : List Byte :=
  if c = .channel then beBytes 2 s.changedMask
  else match (s.cause c).detail with
    | some (.trip cause ch stamp) =>
      beBytes 1 cause.code ++ beBytes 1 (match ch with | some n => 128 + n | none => 0) ++ stampBytes stamp
    | some (.limit r) =>
      beBytes 1 r.channel ++ beBytes 1 (detectorCode r.detector) ++ beBytes 1 r.action.code ++ stampBytes r.stamp
        ++ measuredBytes r.measured
    | some (.engine left entered cause) => beBytes 1 left.code ++ beBytes 1 entered.code ++ beBytes 1 (causeCode cause)
    | some (.segment seq) => beBytes 4 seq
    | some (.advance stamp) => stampBytes stamp
    | some (.mark unit stamp) => beBytes 1 s.eu.markSet.toNat ++ beBytes 1 unit ++ stampBytes stamp
    | some (.capture seq) => beBytes 1 (if seq.isSome then 0 else 1) ++ optionalBytes 4 (beBytes 4) seq
    | some (.clip id outcome) => beBytes 1 id ++ beBytes 1 outcome.code
    | none => []

/-- The served cause is cleared; for MARK the unit set is emptied (R181). -/
def State.clearCause (s : State) (c : Cause) : State :=
  let s1 := s.setCause c { s.cause c with count := 0, detail := none }
  if c = .mark then { s1 with eu := { s1.eu with markSet := 0 } } else s1

/-- Take Event (R181). -/
def takeTakeEvent (s : State) : State × Reply :=
  match s.topCause with
  | none => accept s (beBytes 1 0 ++ beBytes 1 0 ++ beBytes 2 0)
  | some c =>
    let s1 := s.clearCause c
    accept s1 (beBytes 1 c.code ++ beBytes 1 (s.cause c).count ++ beBytes 2 s1.pendingMask ++ s.detailBytes c)

/-- The Event Unit's part of a warm reset (R183). -/
def EventUnit.warm (e : EventUnit) : EventUnit :=
  { causes := e.causes.mapIdx fun _ c => { c with count := 0, detail := none }, markSet := 0 }

/-! ### Commands -/

/-- ENABLE_EVENTS. -/
def execEnableEvents (tag mask : Nat) (s : State) : Answer := .next (s.takeOrWait tag (.enableEvents mask) (takeEnableEvents mask))

/-- TAKE_EVENT. -/
def execTakeEvent (tag : Nat) (s : State) : Answer := .next (s.takeOrWait tag .takeEvent takeTakeEvent)

end Sys2Proof.Machine
end

