-- ==== Sys2Proof/Machine/Queue.lean ====
section
/-! DEFINITION. The Segment Queue's six requests (sections 3.5 to 3.9). -/

namespace Sys2Proof.Machine

open Sys2Proof

/-! ### Append Entry (R55, R56) -/

/-- The entry an Append Entry carries; none when a field lies outside its range or a flag bit is undefined, which is the
first check of R55. The window's F and W are judged only while the window-present bit is set (R200). -/
def appendEntryOf (a : AppendFields) : Option Entry :=
  match a with
  | .play tag clip flags gainSet passes first count =>
    let window : Option (Nat × Nat) := if flags.testBit 3 then some (first, count) else none
    if clip ≤ 63 ∧ flags < 16 ∧ gainSet ≤ 7 ∧ 1 ≤ passes ∧ passes ≤ 65535 ∧ (flags.testBit 3 → 1 ≤ count) then
      some { tag := tag,
             body := .play
               { clip := clip, window := window, passes := passes, gainSet := gainSet, skip := flags.testBit 0,
                 notify := flags.testBit 1, captureAtStart := flags.testBit 2 } Runtime.fresh }
    else none
  | .dwell tag flags length =>
    if flags < 4 ∧ 1 ≤ length ∧ length ≤ Config.maxDwell then
      some { tag := tag,
             body := .dwell { length := length, skip := flags.testBit 0, notify := flags.testBit 1 } Runtime.fresh }
    else none
  | .loopOpen tag count => if count ≤ 65535 then some { tag := tag, body := .loopOpen count } else none
  | .loopClose tag => some { tag := tag, body := .loopClose }
  | .unknown _ _ => none

/-- The last two checks of R55, on the clip of a PLAY. -/
def playCheck (s : State) (f : PlayFields) : Option Status :=
  match (s.clip f.clip).state, (s.clip f.clip).load with
  | .free, _ => some .clipState
  | .failed, _ => some .clipState
  | _, none => some .clipState
  | _, some l =>
    match f.window with
    | none => none
    | some (first, count) => if first + count ≤ l.length then none else some .invalidValue

/-- The checks of R55 after the first, in order. -/
def appendCheck (s : State) (e : Entry) : Option Status :=
  if Config.queueSize ≤ s.sq.entries.length then some .queueFull
  else if (findTag s.sq.entries e.tag).isSome then some .duplicateTag
  else match e.body with
    | .play f _ => playCheck s f
    | .dwell _ _ => none
    | .loopOpen _ => if Config.loopDepth ≤ s.sq.tailDepth then some .nesting else none
    | .loopClose => if s.sq.tailDepth = 0 then some .unbalanced else none

/-- The entry is placed at the tail, with its effect on the tail depth and on its clip's reference count; a cursor at the
tail stands on it without moving (R49, R56). -/
def State.placeEntry (s : State) (e : Entry) : State :=
  let depth := match e.body with
    | .loopOpen _ => s.sq.tailDepth + 1
    | .loopClose => s.sq.tailDepth - 1
    | .play _ _ => s.sq.tailDepth
    | .dwell _ _ => s.sq.tailDepth
  let s1 := s.setSq { s.sq with entries := s.sq.entries ++ [e], tailDepth := depth }
  match e.body with
  | .play f _ => s1.addRef f.clip
  | _ => s1

/-- Append Entry (R55, R56). -/
def takeAppendEntry (a : AppendFields) (s : State) : State × Reply :=
  match appendEntryOf a with
  | none => refuse s .invalidValue
  | some e =>
    match appendCheck s e with
    | some st => refuse s st
    | none => accept (s.placeEntry e) (beBytes 1 s.sq.entries.length)

/-! ### Modify Entry (R62 to R68) -/

/-- One field change of an entry; none when the kind has no such field or the value is out of range (R62, R200). -/
def changeField (b : EntryBody) (c : FieldChange) : Option EntryBody :=
  match b, c.field with
  | .play f r, 1 => if 1 ≤ c.value ∧ c.value ≤ 65535 then some (.play { f with passes := c.value } r) else none
  | .play f r, 2 => if c.value ≤ 7 then some (.play { f with gainSet := c.value } r) else none
  | .play f r, 3 => (readFlag c.value).map fun v => .play { f with skip := v } r
  | .play f r, 4 => (readFlag c.value).map fun v => .play { f with notify := v } r
  | .play f r, 5 => (readFlag c.value).map fun v => .play { f with captureAtStart := v } r
  | .dwell f r, 3 => (readFlag c.value).map fun v => .dwell { f with skip := v } r
  | .dwell f r, 4 => (readFlag c.value).map fun v => .dwell { f with notify := v } r
  | .dwell f r, 6 => if 1 ≤ c.value ∧ c.value ≤ Config.maxDwell then some (.dwell { f with length := c.value } r) else none
  | .loopOpen _, 7 => if c.value ≤ 65535 then some (.loopOpen c.value) else none
  | _, _ => none

/-- All changes of a Modify Entry together; none when one of them is refused. -/
def changeFields (b : EntryBody) : List FieldChange → Option EntryBody
  | [] => some b
  | c :: rest => (changeField b c).bind fun b' => changeFields b' rest

/-- Whether an entry's skip flag is set. -/
def bodySkip : EntryBody → Bool
  | .play f _ => f.skip
  | .dwell f _ => f.skip
  | .loopOpen _ => false
  | .loopClose => false

/-- Setting skip on an entry that holds an interrupted visit, with no context holding it, ends that visit as a cut (R67). -/
def Runtime.skipInterrupted (r : Runtime) : Runtime :=
  if r.interrupted.isSome then { r with cutSeen := true, interrupted := none } else r

/-- Whether the context holds the entry with a tag. -/
def State.holds (s : State) (tag : Nat) : Bool :=
  match s.pe.ctx with
  | some c => c.tag == tag
  | none => false

/-- The frame of a LOOP_OPEN takes its new count (R64). -/
def reframe (tag count : Nat) (stack : List LoopFrame) : List LoopFrame :=
  stack.map fun f => if f.tag == tag then { f with count := count } else f

/-- The changed entry takes its place, with the effects of R64 on the loop stack and of R67 on the context or the entry's
interrupted visit. -/
def State.replaceEntry (s : State) (pos : Nat) (old new : Entry) : State :=
  let skipSet := bodySkip new.body && !bodySkip old.body
  let held := s.holds old.tag
  let new' := if skipSet && !held then new.mapRuntime Runtime.skipInterrupted else new
  let s1 := s.mapEntry pos fun _ => new'
  let s2 := match new.body with
    | .loopOpen count => s1.setSq { s1.sq with stack := reframe new.tag count s1.sq.stack }
    | _ => s1
  if skipSet && held then s2.setCut else s2

/-- The field numbers of Modify Entry that are flags (R200). -/
def isFlagField (field : Nat) : Bool := field == 3 || field == 4 || field == 5

/-- A flag value above 1 is judged with the encoding of the fields, before the tag is looked up (R198, R200; log entry 9). -/
def flagChangesOk (changes : List FieldChange) : Bool := changes.all fun c => !isFlagField c.field || decide (c.value ≤ 1)

/-- Modify Entry (R62). That a tag no entry carries is judged before an empty change list, a repeated field and an unknown field
number is read from the order of R62's sentences (log entry 24). -/
def takeModifyEntry (entry : Nat) (changes : List FieldChange) (s : State) : State × Reply :=
  if ¬ flagChangesOk changes then refuse s .invalidValue
  else match findTag s.sq.entries entry with
  | none => refuse s .notFound
  | some pos =>
    match s.sq.entries[pos]? with
    | none => refuse s .notFound
    | some old =>
      if changes = [] ∨ ¬ (changes.map (·.field)).Nodup then refuse s .invalidValue
      else match changeFields old.body changes with
        | none => refuse s .invalidValue
        | some body => accept (s.replaceEntry pos old { old with body := body }) []

/-! ### Flush Queue, and reading (R61, R69, R70) -/

/-- Whether an entry leaves a done record. -/
def Entry.leavesRecord (e : Entry) : Bool := e.runtime.isSome

/-- Flush Queue (R69). -/
def takeFlushQueue (s : State) : State × Reply :=
  if s.pe.state ≠ .idle then refuse s .wrongState
  else
    let entries := s.sq.entries
    let s1 := s.setSq { s.sq with entries := [], cursor := 0, stack := [], tailDepth := 0 }
    accept (entries.foldl (fun t e => t.leaveEntry true e) s1) (beBytes 1 (entries.filter Entry.leavesRecord).length)

/-- The fields of a Read Queue reply, laid out as section 11.4 gives them (R70). -/
def queueBytes (q : SegmentQueue) (position : Nat) (withStats : Bool) : List Byte :=
  let shown := (q.entries.drop position).take (if withStats then 3 else 8)
  beBytes 1 q.entries.length ++ beBytes 1 q.cursor ++ beBytes 1 q.tailDepth ++ flagBytes q.watch
    ++ beBytes 1 q.stack.length ++ q.stack.reverse.flatMap (loopFrameBytes q.entries)
    ++ beBytes 1 shown.length
    ++ (shown.zipIdx position).flatMap fun (e, pos) => queueEntryBytes withStats pos e

/-- Read Queue (R70). -/
def takeReadQueue (position withStats : Nat) (s : State) : State × Reply :=
  match readFlag withStats with
  | none => refuse s .invalidValue
  | some st => if 63 < position then refuse s .invalidValue else accept s (queueBytes s.sq position st)

/-- The done records a Read Done carries: s is placed by its distance back from the next sequence number (R61). -/
def doneFrom (q : SegmentQueue) (sequence : Nat) : List DoneRecord :=
  let d := (q.nextSeq + Config.seqWrap - sequence) % Config.seqWrap
  if d = 0 ∨ 2147483648 < d then []
  else (q.doneRing.drop (q.doneRing.length - d)).take 4

/-- Read Done (R61), laid out as section 11.5 gives it. -/
def takeReadDone (sequence : Nat) (s : State) : State × Reply :=
  let oldest := s.sq.doneRing.head?.map (·.sequence)
  let shown := doneFrom s.sq sequence
  accept s (presenceBytes [oldest.isSome] ++ optionalBytes 4 (beBytes 4) oldest ++ beBytes 4 s.sq.nextSeq
    ++ beBytes 1 shown.length ++ shown.flatMap doneBytes)

/-- Advance Watch (R71): armed while the engine plays, fired at once otherwise. -/
def takeAdvanceWatch (s : State) : State × Reply :=
  if s.pe.state.playing then accept (s.setSq { s.sq with watch := true }) (beBytes 1 0)
  else
    accept ((s.setSq { s.sq with watch := false }).raise .advance (some (.advance s.pe.counter))) (beBytes 1 1)

/-! ### Commands -/

/-- APPEND_ENTRY. -/
def execAppendEntry (tag : Nat) (fields : AppendFields) (s : State) : Answer :=
  .next (s.takeOrWait tag (.appendEntry fields) (takeAppendEntry fields))

/-- MODIFY_ENTRY. -/
def execModifyEntry (tag entry : Nat) (changes : List FieldChange) (s : State) : Answer :=
  .next (s.takeOrWait tag (.modifyEntry entry changes) (takeModifyEntry entry changes))

/-- FLUSH_QUEUE. -/
def execFlushQueue (tag : Nat) (s : State) : Answer := .next (s.takeOrWait tag .flushQueue takeFlushQueue)

/-- READ_QUEUE. -/
def execReadQueue (tag position withStats : Nat) (s : State) : Answer :=
  .next (s.takeOrWait tag (.readQueue position withStats) (takeReadQueue position withStats))

/-- READ_DONE. -/
def execReadDone (tag sequence : Nat) (s : State) : Answer :=
  .next (s.takeOrWait tag (.readDone sequence) (takeReadDone sequence))

/-- ADVANCE_WATCH. -/
def execAdvanceWatch (tag : Nat) (s : State) : Answer := .next (s.takeOrWait tag .advanceWatch takeAdvanceWatch)

end Sys2Proof.Machine
end

