-- ==== Sys2Proof/Machine/Marks.lean ====
section
/-! DEFINITION. The mark units: compare, output modes, triggers, capture of input edges, and their three requests
(chapter 7). -/

namespace Sys2Proof.Machine

open Sys2Proof

/-! ### Compare (R145 to R148) -/

/-- What the engine hands the mark units at an update of a PLAY context: clip id, update-in-pass, and whether it is the
first update of a pass (R87, step 3). A DWELL context matches no unit (R146, R147), so nothing else is handed. -/
structure PlayPosition where
  clip : Nat
  u : Nat
deriving DecidableEq, Repr

/-- The position handed at this update: the PLAY context's, as it stands. -/
def State.playPosition (s : State) : Option PlayPosition :=
  match s.pe.ctx with
  | some { body := .play p, .. } => some { clip := p.clip, u := p.u }
  | _ => none

/-- Whether the clip selector admits a clip (R146). -/
def MarkUnit.selects (m : MarkUnit) (clip : Nat) : Bool :=
  match m.selector with
  | none => true
  | some id => id == clip

/-- Whether an update is a match of a COMPARE unit (R146). -/
def MarkUnit.isMatch (m : MarkUnit) (p : PlayPosition) : Bool := m.mode == .compare && m.selects p.clip && p.u == m.compareAt

/-- Whether an update is a pass start of a COMPARE unit: it plays u 0 (R87, R147). -/
def MarkUnit.isPassStart (m : MarkUnit) (p : PlayPosition) : Bool := m.mode == .compare && m.selects p.clip && p.u == 0

/-- The output level after a pass start (R147). -/
def passStartLevel (o : OutputMode) (level : Bool) : Bool :=
  match o with
  | .setClear => false
  | .clearSet => true
  | .toggleClear => false
  | .toggleSet => true
  | .level => level
  | .set => level
  | .clear => level
  | .toggle => level

/-- The output level after a match (R147). -/
def matchLevel (o : OutputMode) (level : Bool) : Bool :=
  match o with
  | .level => level
  | .set => true
  | .clear => false
  | .toggle => !level
  | .setClear => true
  | .clearSet => false
  | .toggleClear => !level
  | .toggleSet => !level

/-- The output level after an update: the pass-start action first, the match action second (R148). -/
def MarkUnit.levelAfter (m : MarkUnit) (p : PlayPosition) : Bool :=
  let l1 := if m.isPassStart p then passStartLevel m.outputMode m.output else m.output
  if m.isMatch p then matchLevel m.outputMode l1 else l1

/-- A unit handles a position: its output moves, and a match raises MARK and sends a cut as its triggers say (R147 to R149,
R151). -/
def State.markCompare (p : PlayPosition) (s : State) (m : Nat) : State :=
  let u := s.mark m
  let s1 := s.setMark m { u with output := u.levelAfter p }
  if u.isMatch p then
    let s2 := if u.trigNotify then s1.raiseMark m s.pe.counter else s1
    if u.trigCut then s2.markCut else s2
  else s1

/-- The units 0 to 5. -/
def allMarks : List Nat := List.range Config.markUnits

/-- The capture triggers the matches of an update fire, by ascending unit (R150). -/
def State.markTriggers (s : State) (p : PlayPosition) : List Trigger :=
  (allMarks.filter fun m => (s.mark m).isMatch p && (s.mark m).trigCapture).map fun m => { kind := .mark, unit := some m }

/-- The mark units handle the position of an update the engine plays (R145), by ascending unit: the highest unit that raises
MARK at an update is MARK's latest (R149, R175; log entry 11). -/
def State.markStage (s : State) : State :=
  match s.playPosition with
  | none => s
  | some p => allMarks.foldl (State.markCompare p) s

/-! ### Capture (R153 to R156) -/

/-- Whether an edge qualifies under the unit's edge setting (R153). -/
def MarkUnit.qualifies (m : MarkUnit) (rising : Bool) : Bool :=
  m.mode == .capture && (match m.edge with | .rising => rising | .falling => !rising | .both => true)

/-- A capture writes the unit's record, sets unread, and sets overflow when the old record was unread (R155, R156). -/
def State.markCapture (s : State) (m : Nat) (u : MarkUnit) : State :=
  let u' : MarkUnit :=
    { u with
      counter := 0, record := some { stamp := s.pe.counter, level := u.input, position := s.position },
      overflow := u.overflow || u.unread, unread := true }
  let s1 := s.setMark m u'
  if u.captureNotify then s1.raiseMark m s.pe.counter else s1

/-- An edge event at a mark input (R153, R154). -/
def State.markEdge (s : State) (m : Nat) (rising : Bool) : State :=
  let u : MarkUnit := { s.mark m with input := rising }
  if u.qualifies rising then
    if u.prescale ≤ u.counter + 1 then s.markCapture m u else s.setMark m { u with counter := u.counter + 1 }
  else s.setMark m u

/-! ### Takings -/

/-- The unit a Configure Mark leaves: the fields of the carried mode are replaced, the others kept, the prescale counter
cleared (R143); none when a field is refused. -/
def configuredMark (u : MarkUnit) : MarkFields → Option MarkUnit
  | .off _ => some { u with mode := .off, counter := 0 }
  | .compare _ selector value output triggers =>
    match readSelector selector, readOutputMode output with
    | some sel, some out =>
      if value ≤ Config.maxCompare ∧ triggers < 8 then
        some { u with
          mode := .compare, selector := sel, compareAt := value, outputMode := out, trigNotify := triggers.testBit 0,
          trigCapture := triggers.testBit 1, trigCut := triggers.testBit 2, counter := 0 }
      else none
    | _, _ => none
  | .capture _ edge prescale notify =>
    match readEdge edge, readFlag notify with
    | some e, some n =>
      if prescale = 1 ∨ prescale = 4 ∨ prescale = 16 then
        some { u with mode := .capture, edge := e, prescale := prescale, captureNotify := n, counter := 0 }
      else none
    | _, _ => none
  | .unknown _ _ _ => none

/-- The unit a Configure Mark names. -/
def markUnitOf : MarkFields → Nat
  | .off m => m
  | .compare m _ _ _ _ => m
  | .capture m _ _ _ => m
  | .unknown m _ _ => m

/-- Configure Mark (R143). -/
def takeConfigureMark (fields : MarkFields) (s : State) : State × Reply :=
  let m := markUnitOf fields
  if 5 < m then refuse s .invalidValue
  else match configuredMark (s.mark m) fields with
    | none => refuse s .invalidValue
    | some u => accept (s.setMark m u) []

/-- Set Mark Output (R144). -/
def takeSetMarkOutput (m level : Nat) (s : State) : State × Reply :=
  match readFlag level with
  | none => refuse s .invalidValue
  | some l => if 5 < m then refuse s .invalidValue else accept (s.setMark m { s.mark m with output := l }) []

/-- A mark unit in a Read Mark reply (R157). -/
def markBytes (u : MarkUnit) : List Byte :=
  presenceBytes [u.record.isSome] ++ beBytes 1 u.mode.code
    ++ (match u.selector with | some id => beBytes 1 id | none => [0xFF]) ++ beBytes 4 u.compareAt
    ++ beBytes 1 u.outputMode.code ++ beBytes 1 (presenceValue [u.trigNotify, u.trigCapture, u.trigCut])
    ++ beBytes 1 u.edge.code ++ beBytes 1 u.prescale ++ flagBytes u.captureNotify
    ++ flagBytes u.output ++ flagBytes u.input ++ beBytes 1 u.counter ++ optionalBytes 19 markRecordBytes u.record
    ++ flagBytes u.unread ++ flagBytes u.overflow

/-- Read Mark (R157): the reply's contents are taken, then unread is cleared, and overflow when asked. -/
def takeReadMark (m clearOverflow : Nat) (s : State) : State × Reply :=
  match readFlag clearOverflow with
  | none => refuse s .invalidValue
  | some clear =>
    if 5 < m then refuse s .invalidValue
    else
      let u := s.mark m
      accept (s.setMark m { u with unread := false, overflow := u.overflow && !clear }) (markBytes u)

/-- A mark unit's part of a warm reset (R142). -/
def MarkUnit.warm (u : MarkUnit) : MarkUnit :=
  { u with output := false, counter := 0, record := none, unread := false, overflow := false }

/-! ### Commands -/

/-- CONFIGURE_MARK. -/
def execConfigureMark (tag : Nat) (fields : MarkFields) (s : State) : Answer :=
  .next (s.takeOrWait tag (.configureMark fields) (takeConfigureMark fields))

/-- SET_MARK_OUTPUT. -/
def execSetMarkOutput (tag unit level : Nat) (s : State) : Answer :=
  .next (s.takeOrWait tag (.setMarkOutput unit level) (takeSetMarkOutput unit level))

/-- READ_MARK. -/
def execReadMark (tag unit clearOverflow : Nat) (s : State) : Answer :=
  .next (s.takeOrWait tag (.readMark unit clearOverflow) (takeReadMark unit clearOverflow))

/-- MARK_INPUT_EDGE. The command is the edge event; an edge at a unit number above 5 is no event of the part. -/
def execMarkInputEdge (unit : Nat) (rising : Bool) (s : State) : Answer :=
  if unit < Config.markUnits then .next (s.markEdge unit rising) else .next s

end Sys2Proof.Machine
end

