-- ==== Sys2Proof/Machine/Transport.lean ====
section
/-! DEFINITION. The requests that move the engine or set it up, and Read Engine (sections 4.2, 4.4, 4.7 to 4.9). -/

namespace Sys2Proof.Machine

open Sys2Proof

/-- Start (R81). -/
def takeStart (s : State) : State × Reply :=
  if s.pe.state ≠ .idle then refuse s .wrongState
  else if ¬ s.cpc.rigReady then refuse s .notReady
  else match s.lookahead s.sq.cursor with
    | none => refuse s .queueEmpty
    | some e =>
      match s.startCheck e with
      | some st => refuse s st
      | none =>
        let s1 := (s.realRun s.sq.cursor).beginVisit
        let s2 := s1.setPe { s1.pe with lam := 0, stopCause := none, tripCause := none, tripChannel := none }
        let s3 := s2.enterState .rampIn none
        accept s3 (beBytes 2 e.tag ++ beBytes 4 ((s1.pe.ctx.map passNumber).getD 1))

/-- The reply of a taken Pause or Stop: the engine state after it (R82, R84). -/
def acceptState (s : State) : State × Reply := accept s (beBytes 1 s.pe.state.code)

/-- Pause (R82). -/
def takePause (s : State) : State × Reply :=
  match s.pe.state with
  | .rampIn => acceptState (s.enterRampOut .paused .hostPause)
  | .running => acceptState (s.enterRampOut .paused .hostPause)
  | .rampOut => acceptState s
  | .paused => acceptState s
  | .idle => refuse s .wrongState
  | .tripped => refuse s .wrongState
  | .returning => refuse s .wrongState

/-- Whether every channel of the context's channel list is ENGAGED (R83). -/
def State.contextEngaged (s : State) : Bool := s.drivenChannels.all fun ch => (s.port ch).state == .engaged

/-- Resume (R83). -/
def takeResume (s : State) : State × Reply :=
  match s.pe.state, s.pe.target with
  | .paused, _ =>
    if s.contextEngaged then
      accept ((s.setPe { s.pe with lam := 0, stopCause := none }).enterState .rampIn none) []
    else refuse s .channelNotEngaged
  | .rampOut, some .paused => accept ((s.setPe { s.pe with target := none, stopCause := none }).enterState .rampIn none) []
  | _, _ => refuse s .wrongState

/-- Stop (R84). -/
def takeStop (s : State) : State × Reply :=
  match s.pe.state with
  | .rampIn => acceptState (s.enterRampOut .idle .hostStop)
  | .running => acceptState (s.enterRampOut .idle .hostStop)
  | .rampOut =>
    if s.pe.target = some .paused then
      acceptState (s.setPe { s.pe with target := some .idle, stopCause := some .hostStop })
    else acceptState s
  | .paused =>
    acceptState (((s.setPe { s.pe with stopCause := some .hostStop }).enterStopped .idle (some .hostStop)).releaseContext)
  | .idle => acceptState s
  | .tripped => refuse s .wrongState
  | .returning => refuse s .wrongState

/-- Clear Trip (R96). That the engine state is judged before Rig Ready is read from the order of R96's sentence (log
entry 24). -/
def takeClearTrip (s : State) : State × Reply :=
  if s.pe.state ≠ .tripped then refuse s .wrongState
  else if ¬ s.cpc.rigReady then refuse s .notReady
  else accept (s.releaseContext.enterState .returning none) []

/-- Set Ramp (R76). -/
def takeSetRamp (ri ro : Nat) (s : State) : State × Reply :=
  if ri = 0 ∨ ro = 0 then refuse s .invalidValue else accept (s.setPe { s.pe with ri := ri, ro := ro }) []

/-- Set Timebase (R99): the sync-loss watch starts from the moment of taking. That the rate and the source are judged before the
port states is read from the order of R99's sentences (log entry 24). -/
def takeSetTimebase (rate source : Nat) (s : State) : State × Reply :=
  match readSource source with
  | none => refuse s .invalidValue
  | some src =>
    if ¬ (rate = 512 ∨ rate = 1024 ∨ rate = 2048 ∨ rate = 4096) then refuse s .invalidValue
    else if allChannels.any fun ch => (s.port ch).state == .engaged then refuse s .wrongState
    else accept (s.setPe { s.pe with rate := rate, source := src, syncWatchFrom := s.clock }) []

/-- The fields of a Read Engine reply, in the order of R102 (log entry 9). -/
def engineBytes (s : State) : List Byte :=
  let e := s.pe
  presenceBytes [e.target.isSome, e.stopCause.isSome, e.tripCause.isSome, e.tripChannel.isSome, e.lastAction.isSome,
      s.cursorTag.isSome, e.ctx.isSome]
    ++ beBytes 1 e.state.code ++ beBytes 4 e.lam ++ optionalBytes 1 (fun t => beBytes 1 (Target.code t)) e.target
    ++ beBytes 1 (causeCode e.stopCause) ++ beBytes 1 (causeCode e.tripCause) ++ optionalBytes 1 (beBytes 1) e.tripChannel
    ++ optionalBytes 11 lastActionBytes e.lastAction ++ optionalBytes 2 (beBytes 2) s.cursorTag
    ++ beBytes 2 e.ri ++ beBytes 2 e.ro ++ beBytes 2 e.rate ++ beBytes 1 e.source.code ++ stampBytes e.counter
    ++ optionalBytes contextWidth (contextBytes s.sq.cursor) e.ctx

/-- Read Engine (R102). -/
def takeReadEngine (s : State) : State × Reply := accept s (engineBytes s)

/-! ### Commands -/

/-- START. -/
def execStart (tag : Nat) (s : State) : Answer := .next (s.takeOrWait tag .start takeStart)

/-- PAUSE. -/
def execPause (tag : Nat) (s : State) : Answer := .next (s.takeOrWait tag .pause takePause)

/-- RESUME. -/
def execResume (tag : Nat) (s : State) : Answer := .next (s.takeOrWait tag .resume takeResume)

/-- STOP. -/
def execStop (tag : Nat) (s : State) : Answer := .next (s.takeOrWait tag .stop takeStop)

/-- CLEAR_TRIP. -/
def execClearTrip (tag : Nat) (s : State) : Answer := .next (s.takeOrWait tag .clearTrip takeClearTrip)

/-- SET_RAMP. -/
def execSetRamp (tag ri ro : Nat) (s : State) : Answer := .next (s.takeOrWait tag (.setRamp ri ro) (takeSetRamp ri ro))

/-- SET_TIMEBASE. -/
def execSetTimebase (tag rate source : Nat) (s : State) : Answer :=
  .next (s.takeOrWait tag (.setTimebase rate source) (takeSetTimebase rate source))

/-- READ_ENGINE. -/
def execReadEngine (tag : Nat) (s : State) : Answer := .next (s.takeOrWait tag .readEngine takeReadEngine)

/-- RAMP_IN_COMPLETE: the ramp step that brings λ to 65536 in RAMP_IN, and the entry into RUNNING (R75; log entry 1). -/
def execRampInComplete (s : State) : Answer :=
  if s.pe.state = .rampIn ∧ rampUp s.pe.lam s.pe.ri = Config.fullRamp then .next s.rampStep else .next s

/-- RAMP_OUT_COMPLETE: the ramp step that brings λ to 0 in RAMP_OUT, and the entry into the target (R75, R89; log
entry 1). -/
def execRampOutComplete (s : State) : Answer :=
  if s.pe.state = .rampOut ∧ rampDown s.pe.lam s.pe.ro = 0 then .next s.rampStep.endRampOut else .next s

/-- Whether the context stands on the last update of its pass. -/
def State.atPassEnd (s : State) : Bool :=
  match s.pe.ctx with
  | some c => s.advanceEndsPass c
  | none => false

/-- PASS_END: the pass end of R88, taken where the next advance ends the pass in RAMP_IN or RUNNING (log entry 1). -/
def execPassEnd (s : State) : Answer :=
  if (s.pe.state = .rampIn ∨ s.pe.state = .running) ∧ s.atPassEnd then .next s.passEndPlaying else .next s

/-- PASS_END_IN_RAMP_OUT: the pass end of R89, taken where the next advance ends the pass in RAMP_OUT (log entry 1). -/
def execPassEndInRampOut (s : State) : Answer :=
  if s.pe.state = .rampOut ∧ s.atPassEnd then .next s.passEndRampOut else .next s

end Sys2Proof.Machine
end

