-- ==== Sys2Proof/Machine/Update.lean ====
section
/-! DEFINITION. The update: what reaches every block when the timebase raises one, and the timebase's own events (R87, R98,
R100, R101). The order of the blocks within an update is log entry 12. -/

namespace Sys2Proof.Machine

open Sys2Proof

/-! ### The stages of an update -/

/-- The update counter advances, and the moment of the update is kept for the sync input's watch (R98, R100, R101). -/
def State.countUpdate (s : State) : State :=
  s.setPe { s.pe with
    counter := (s.pe.counter + 1) % Config.stampWrap, lastUpdateAt := some s.clock, syncWatchFrom := s.clock }

/-- Whether the engine plays a context at this update (R87). -/
def State.plays (s : State) : Bool := s.pe.state.playing && s.pe.ctx.isSome

/-- The visit's first update: its stamp goes to the context and, when absent, to the entry's first-update stamp (R78). -/
def State.stampFirst (s : State) : State :=
  match s.pe.ctx with
  | some c =>
    if c.firstUpdate.isSome then s
    else
      (s.mapHeld fun r => { r with firstStamp := if r.firstStamp.isSome then r.firstStamp else some s.pe.counter }).setCtx
        (some { c with firstUpdate := some s.pe.counter })
  | none => s

/-- The engine's trigger of the Response Capture Unit at a visit's first update (R78). -/
def State.segmentTriggers (s : State) : List Trigger :=
  match s.pe.ctx with
  | some c => if c.captureDue then [{ kind := .segmentStart, unit := none }] else []
  | none => []

/-- The trigger of a visit is made once. -/
def State.dropCaptureDue (s : State) : State := s.setCtx (s.pe.ctx.map fun c => { c with captureDue := false })

/-- The stamp of the update becomes the context's last update played (R87, step 4). -/
def State.stampLast (s : State) : State := s.setCtx (s.pe.ctx.map fun c => { c with lastUpdate := some s.pe.counter })

/-- The indications of a dynamic update are counted in the visit statistics (R13, R15). -/
def countIndications (r : DriveResult) (st : StatRecord) : StatRecord :=
  { st with
    clamped := if r.clamped then sat32 st.clamped else st.clamped,
    limited := if r.limited then sat32 st.limited else st.limited }

/-- A channel's result is handed on: last output, and at a dynamic update the two counts and CLAMP_RATE (R6, R13, R15,
R129). -/
def State.handOn (s : State) (cr : Nat × DriveResult) : State :=
  let (ch, r) := cr
  let s1 := s.setDrive ch { s.drive ch with lastOutput := r.command }
  let s2 := if r.dynamic then s1.mapStat ch (countIndications r) else s1
  if r.dynamic && r.clamped then s2.evalClamp ch else s2

/-- Whether every computed channel is at its clamped offset (R19). -/
def allAtTarget (results : List (Nat × DriveResult)) : Bool := results.all fun cr => cr.2.command == cr.2.target

/-- Steps 1 to 4 of a played update before the position advances: ramp, first stamps, commands, mark units, last stamp
(R87). -/
def State.playStage (s : State) (results : List (Nat × DriveResult)) : State :=
  ((results.foldl State.handOn s).markStage).stampLast

/-- The capture triggers of an update, in the order in which they reach the Response Capture Unit (R162; log entry 11). -/
def orderTriggers (counter : Nat) (segment marks : List Trigger) : List Trigger :=
  if !segment.isEmpty && !marks.isEmpty && Config.segmentStartFirst counter then segment ++ marks else marks ++ segment

/-- Steps 5 and 6: the position advances, and a pass that it completes ends (R87). -/
def State.advanceStage (s : State) : State :=
  match s.pe.ctx with
  | none => s
  | some c =>
    if s.pe.state.playing then
      if s.advanceEndsPass c then
        (if s.pe.state = .rampOut then s.passEndRampOut else s.passEndPlaying)
      else s.setCtx (some c.advanced)
    else s

/-- The capture triggers of this update: at an update the engine plays, the segment start's and the mark units', in the
order of `orderTriggers` (R78, R150, R162). -/
def State.updateTriggers (s : State) : List Trigger :=
  if s.plays then
    orderTriggers s.pe.counter s.segmentTriggers
      (match s.playPosition with
        | some p => s.markTriggers p
        | none => [])
  else []

/-- The engine's and the Drive Computation Unit's handling of an update that plays the context, with the mark units' before
the position advances; λ that reached 0 then ends the ramp-out (R87). -/
def State.playedUpdate (s : State) : State :=
  let s1 := (s.rampStep).stampFirst
  let rampDone := s1.pe.state = .rampOut ∧ s1.pe.lam = 0
  let s2 := ((s1.dropCaptureDue).playStage s1.computeAll).advanceStage
  if rampDone ∧ s2.pe.state = .rampOut then s2.endRampOut else s2

/-- An update in a state that plays nothing: commands at rest or held, and the end of RETURN (R17 to R19, R97). -/
def State.restUpdate (s : State) : State :=
  let results := s.computeAll
  let s1 := results.foldl State.handOn s
  if s.pe.state = .returning ∧ allAtTarget results then s1.enterStopped .idle none else s1

/-- The update reaches the engine, playing or not, and the blocks that the engine's handling reaches. -/
def State.engineUpdate (s : State) : State := if s.plays then s.playedUpdate else s.restUpdate

/-- The command handed on for a channel at this update enters its command history, while the channel is ENGAGED (R127). -/
def State.recordCommand (s : State) (ch : Nat) : State :=
  if (s.port ch).state = .engaged then
    s.setLimits ch { s.limits ch with history := pushHistory (s.limits ch).history (s.drive ch).lastOutput }
  else s

/-- Every channel's command enters its history, after the windows of the previous update have closed (R127). -/
def State.recordHistory (s : State) : State := allChannels.foldl State.recordCommand s

/-- The update reaches the Channel Port Controller and the Response Capture Unit with its commands: windows close, the unit
handles the triggers and takes its record, the commands enter the histories, then records are sent (R113, R127, R161). -/
def State.portUpdate (s : State) (triggers : List Trigger) (pos : Option Position) : State :=
  (((s.closeWindows).captureStage triggers pos).recordHistory).sendRecords

/-- The timebase raises an update, which reaches every block (R98). A channel that faults as its window closes keeps the command
computed at this update as its last output, although no record carries it (R1, R14, R113; log entry 8). The capture's triggers
and the position are those of the update as the engine plays it (R162, R164). -/
def State.raiseUpdate (s : State) : State :=
  let s1 := s.countUpdate
  (s1.engineUpdate).portUpdate s1.updateTriggers s1.position

/-! ### Timing (R98, R100) -/

/-- Whether an edge comes half a nominal period or more after the previous update (R98). -/
def State.edgeQualifies (s : State) : Bool :=
  match s.pe.lastUpdateAt with
  | none => true
  | some t => decide (Config.second ≤ (s.clock - t) * 2 * s.pe.rate)

/-- Whether two nominal periods have passed without an update (R100). -/
def State.syncLost (s : State) : Bool := decide (2 * Config.second ≤ (s.clock - s.pe.syncWatchFrom) * s.pe.rate)

/-- At a sync loss the source becomes INTERNAL, the engine receives the TRIP, and the timebase raises an update, whose
commands TRIPPED holds (R100; log entry 13). -/
def State.loseSync (s : State) : State :=
  ((s.setPe { s.pe with source := .internal }).applyAction .trip .timebaseLost none).raiseUpdate

/-! ### Commands -/

/-- UPDATE: the timebase's own clock raises an update under INTERNAL; under EXTERNAL_SYNC only an edge does (R98; log
entry 20). -/
def execUpdate (at' : Nat) (s : State) : Answer :=
  let s1 := s.tick at'
  if s1.pe.source = .internal then .next s1.raiseUpdate else .next s1

/-- SYNC_EDGE: an update under EXTERNAL_SYNC, unless the edge comes too soon (R98). An edge two nominal periods after the
previous update or later finds the loss come: the loss is taken, and the edge itself raises nothing (R100; log entry 2). -/
def execSyncEdge (at' : Nat) (s : State) : Answer :=
  let s1 := s.tick at'
  if s1.pe.source = .externalSync then
    if s1.syncLost then .next s1.loseSync
    else if s1.edgeQualifies then .next s1.raiseUpdate
    else .next s1
  else .next s1

/-- SYNC_LOSS: under EXTERNAL_SYNC, once two nominal periods have passed without an update (R100). -/
def execSyncLoss (at' : Nat) (s : State) : Answer :=
  let s1 := s.tick at'
  if s1.pe.source = .externalSync ∧ s1.syncLost then .next s1.loseSync else .next s1

end Sys2Proof.Machine
end

