-- ==== Sys2Proof/Machine/Link.lean ====
section
/-! DEFINITION. The Supervisory Link Interface: the receiver, arrivals, the taking of buffered requests, sending, supervision,
identity and status, and the two resets (chapters 10 and 11). -/

namespace Sys2Proof.Machine

open Sys2Proof

/-! ### Supervision (R192, R193) -/

/-- Set Supervision (R192). -/
def takeSetSupervision (interval : Nat) (s : State) : State × Reply :=
  if interval = 0 then accept (s.setSli { s.sli with interval := 0, timerSince := none }) (beBytes 2 0)
  else if 10 ≤ interval ∧ interval ≤ 60000 ∧ interval % 10 = 0 then
    accept (s.setSli { s.sli with interval := interval, timerSince := some s.clock }) (beBytes 2 interval)
  else refuse s .invalidValue

/-- The supervision timer restarts with the full interval, while the interval is non-zero (R193). -/
def State.restartTimer (s : State) : State :=
  if s.sli.interval = 0 then s else s.setSli { s.sli with timerSince := some s.clock }

/-- Whether the full interval has passed since the timer was last started (R193). -/
def State.timerExpired (s : State) : Bool :=
  match s.sli.timerSince with
  | none => false
  | some t => decide (s.sli.interval ≠ 0) && decide (t + s.sli.interval * Config.millisecond ≤ s.clock)

/-! ### Identity and status (R194, R195) -/

/-- Family, member and revision (R194, section 11.8). -/
def identityHead : List Byte := [0x45, 0x54, 0x41, 0x4C, 0x49, 0x58, 0x52, 0x44, 0x31, 0x36, 1]

/-- The fields of a Query Identity reply, in the order of R194 (R198; log entry 9). -/
def identityBytes : List Byte :=
  identityHead ++ beBytes 1 Config.channels ++ [512, 1024, 2048, 4096].flatMap (beBytes 2)
    ++ beBytes 2 Config.pages ++ beBytes 2 Config.pageSize ++ beBytes 1 Config.clips ++ [1, 2, 4, 8].flatMap (beBytes 1)
    ++ beBytes 1 Config.queueSize ++ beBytes 1 Config.loopDepth ++ beBytes 1 Config.doneRing ++ beBytes 1 Config.gainSets
    ++ beBytes 1 Config.markUnits ++ beBytes 4 Config.bankWords ++ beBytes 1 Config.causes ++ beBytes 1 Config.requestBuffer
    ++ beBytes 2 Config.maxPayload

/-- Query Identity (R194). -/
def takeQueryIdentity (s : State) : State × Reply := accept s identityBytes

/-- The five link error counters, in the order of R187. -/
def counterBytes (c : LinkCounters) : List Byte :=
  beBytes 2 c.lengthErrors ++ beBytes 2 c.overlong ++ beBytes 2 c.crcErrors ++ beBytes 2 c.kindErrors ++ beBytes 2 c.busyAnswers

/-- The fields of a Query Status reply, in the order of R195 (R198; log entry 9). -/
def statusBytes (s : State) : List Byte :=
  presenceBytes [s.cursorTag.isSome] ++ beBytes 1 s.pe.state.code ++ optionalBytes 2 (beBytes 2) s.cursorTag
    ++ beBytes 1 s.sq.entries.length ++ beBytes 2 s.cs.freePages.length ++ beBytes 1 s.cpc.rigMode.code
    ++ flagBytes s.cpc.rigReady ++ allChannels.flatMap (fun ch => beBytes 1 (s.port ch).state.code)
    ++ beBytes 2 s.pendingMask ++ counterBytes s.sli.counters ++ beBytes 2 s.sli.interval ++ stampBytes s.pe.counter

/-- Query Status (R195): the reply's contents are taken, then the counters are cleared when asked. -/
def takeQueryStatus (clear : Nat) (s : State) : State × Reply :=
  match readFlag clear with
  | none => refuse s .invalidValue
  | some false => accept s (statusBytes s)
  | some true => accept (s.setSli { s.sli with counters := LinkCounters.reset }) (statusBytes s)

/-! ### Resets (R196, R197) -/

/-- The engine's part of a warm reset (R73). -/
def Engine.warm (e : Engine) : Engine :=
  { e with
    state := .idle, target := none, stopCause := none, lam := 0, tripCause := none, tripChannel := none, lastAction := none,
    ctx := none }

/-- The Limit Monitor's part of a warm reset (R123). -/
def ChannelLimits.warm (l : ChannelLimits) : ChannelLimits := l.clearDetectors

/-- The warm reset of every block; the SLI keeps all it holds (R43, R44, R73, R122, R123, R142, R172, R183, R196). The Drive
Computation Unit keeps its records and gain sets (R1, R20). -/
def State.warmReset (s : State) : State :=
  { s.warmResetClips with
    sq := SegmentQueue.reset, pe := s.pe.warm, cpc := { s.cpc with ports := s.cpc.ports.mapIdx fun _ p => p.warm },
    lm := s.lm.mapIdx fun _ l => l.warm, mu := s.mu.mapIdx fun _ u => u.warm, rcu := s.rcu.warm, eu := s.eu.warm }

/-- Whether a Reset Part is taken in the present engine state (R196). -/
def State.resettable (s : State) : Bool := s.pe.state == .idle || s.pe.state == .tripped

/-- Reset Part as its reply reports it, before the reset is made (R196). -/
def takeResetPart (s : State) : State × Reply := if s.resettable then accept s [] else refuse s .wrongState

/-- A Reset Part is taken: its reply is placed first, and then the warm reset is made (R196). -/
def State.performReset (s : State) (tag : Nat) : State :=
  let s1 := s.perform (requestCode .resetPart) tag takeResetPart
  if s.resettable then s1.warmReset else s1

/-- What a full reset makes of the part (R1, R20, R26, R27, R44, R73, R104, R123, R141, R159, R173, R197). The points, the
levels of the inputs, the elapsed time and the commands that wait are not the reset's (log entry 17). -/
def State.makeFullReset (s : State) (source : ResetSource) : State :=
  { State.reset with
    cs := { ClipStore.reset with points := s.cs.points, verifierSince := s.clock },
    pe := { Engine.reset with syncWatchFrom := s.clock },
    cpc := { PortUnit.reset with rigReady := s.cpc.rigReady },
    mu := s.mu.mapIdx fun _ u => { MarkUnit.reset with input := u.input },
    sli := LinkUnit.reset source, clock := s.clock, pending := s.pending }

/-! ### Taking requests from the buffer (R189) -/

/-- What the block that owns a request does with it (R189). -/
def takingOf : Request → Taking
  | .openClip id mask upsample length checksum => takeOpenClip id mask upsample length checksum
  | .clipData id offset points => takeClipData id offset points
  | .closeClip id => takeCloseClip id
  | .freeClip id => takeFreeClip id
  | .clipInfo id position => takeClipInfo id position
  | .storeInfo => takeStoreInfo
  | .appendEntry fields => takeAppendEntry fields
  | .modifyEntry entry changes => takeModifyEntry entry changes
  | .flushQueue => takeFlushQueue
  | .readQueue position withStats => takeReadQueue position withStats
  | .readDone sequence => takeReadDone sequence
  | .advanceWatch => takeAdvanceWatch
  | .start => takeStart
  | .pause => takePause
  | .resume => takeResume
  | .stop => takeStop
  | .clearTrip => takeClearTrip
  | .setRamp ri ro => takeSetRamp ri ro
  | .setTimebase rate source => takeSetTimebase rate source
  | .readEngine => takeReadEngine
  | .configureChannel channel offset clampMin clampMax slew => takeConfigureChannel channel offset clampMin clampMax slew
  | .writeGainSet set gains => takeWriteGainSet set gains
  | .readGainSet set => takeReadGainSet set
  | .channelPowerOn channel => takeChannelPowerOn channel
  | .channelPowerOff channel => takeChannelPowerOff channel
  | .setRigMode mode => takeSetRigMode mode
  | .setChannelOwner channel owner => takeSetChannelOwner channel owner
  | .engage channel => takeEngage channel
  | .release channel => takeRelease channel
  | .acknowledgeChannels mask => takeAcknowledgeChannels mask
  | .readChannel channel => takeReadChannel channel
  | .configureLimits channel limits => takeConfigureLimits channel limits
  | .configureMark fields => takeConfigureMark fields
  | .setMarkOutput unit level => takeSetMarkOutput unit level
  | .readMark unit clearOverflow => takeReadMark unit clearOverflow
  | .configureCapture mask content decimation records rearm => takeConfigureCapture mask content decimation records rearm
  | .captureTrigger => takeCaptureTrigger
  | .abortCapture => takeAbortCapture
  | .readCapture sequence offset count => takeReadCapture sequence offset count
  | .captureInfo => takeCaptureInfo
  | .enableEvents mask => takeEnableEvents mask
  | .takeEvent => takeTakeEvent
  | .setSupervision interval => takeSetSupervision interval
  | .queryIdentity => takeQueryIdentity
  | .queryStatus clear => takeQueryStatus clear
  | .resetPart => takeResetPart

/-- A request the part knows is taken by the block that owns it; a Reset Part makes its reset after its reply (R189,
R196). -/
def State.takeRequest (s : State) (tag : Nat) (r : Request) : State :=
  match r with
  | .resetPart => s.performReset tag
  | _ => s.perform (requestCode r) tag (takingOf r)

/-- A buffered request is taken: its code is judged, then its payload length, then its block acts (R189). -/
def State.takeFrame (s : State) (f : RequestFrame) : State :=
  match parseRequest f.code f.payload with
  | .unknownCode => s.perform f.code f.tag fun t => refuse t .unknownRequest
  | .badLength => s.perform f.code f.tag fun t => refuse t .badLength
  | .request r => s.takeRequest f.tag r

/-- Requests are taken from the front of the buffer while a reply place is free (R189, R190). The fuel bounds the takings. -/
def State.drain : Nat → State → State
  | 0, s => s
  | n + 1, s =>
    match s.sli.buffer with
    | [] => s
    | f :: rest =>
      if s.repliesHeld < Config.replyPlaces then
        State.drain n ((s.setSli { s.sli with buffer := rest }).takeFrame f)
      else s

/-- All takings that are possible now. -/
def State.takeBuffered (s : State) : State := State.drain s.sli.buffer.length s

/-! ### Arrivals (R186 to R188) -/

/-- A link error counter increased by 1, held at 65535 (R187). -/
def sat16 (n : Nat) : Nat := min 65535 (n + 1)

/-- The receiver in another state (R185). -/
def State.setReceiver (s : State) (r : Receiver) : State := s.setSli { s.sli with receiver := r }

/-- The counters changed (R187). -/
def State.mapCounters (s : State) (f : LinkCounters → LinkCounters) : State :=
  s.setSli { s.sli with counters := f s.sli.counters }

/-- A valid request arrives: the timer restarts, the request meets the buffer, and what can be taken is taken (R188, R189,
R193). -/
def State.validArrival (s : State) (f : RequestFrame) : State := (s.restartTimer.bufferRequest f).takeBuffered

/-- A complete frame is judged: length, CRC, kind; one that passes is a valid request (R186, R188, R199). -/
def State.judgeFrame (s : State) (kind code tag : Nat) (payload : List Byte) (crc : Nat) : State :=
  if Config.maxPayload < payload.length then s.mapCounters fun c => { c with lengthErrors := sat16 c.lengthErrors }
  else if crc ≠ crc16 (coveredBytes kind code tag payload) then s.mapCounters fun c => { c with crcErrors := sat16 c.crcErrors }
  else if kind ≠ 1 then s.mapCounters fun c => { c with kindErrors := sat16 c.kindErrors }
  else s.validArrival { code := code, tag := tag, payload := payload }

/-- When the first sync byte of the frame in progress arrived (R185). -/
def Receiver.frameStart : Receiver → Option Nat
  | .hunt => none
  | .sync _ => none
  | .header start _ => some start
  | .payload start _ _ _ => some start
  | .check start _ _ _ => some start

/-- Whether the frame in progress is overlong: 20 milliseconds have passed since its start time (R186). -/
def State.frameOverlong (s : State) : Bool :=
  match s.sli.receiver.frameStart with
  | none => false
  | some t => decide (t + Config.overlongTime ≤ s.clock)

/-- The frame in progress is discarded as overlong, and the receiver returns to HUNT (R186). -/
def State.discardOverlong (s : State) : State :=
  (s.mapCounters fun c => { c with overlong := sat16 c.overlong }).setReceiver .hunt

/-- The frame the receiver has taken whole is judged, and the receiver returns to HUNT (R185, R186). -/
def State.judgeReceived (s : State) (header payload check : List Byte) : State :=
  (s.setReceiver .hunt).judgeFrame (field header 0 1) (field header 1 1) (field header 2 2) payload (beValue check)

/-- The six header bytes have been taken: the length field is judged (R185, R186). -/
def State.headerTaken (s : State) (start : Nat) (header : List Byte) : State :=
  let length := field header 4 2
  if Config.maxPayload < length then
    (s.mapCounters fun c => { c with lengthErrors := sat16 c.lengthErrors }).setReceiver .hunt
  else if length = 0 then s.setReceiver (.check start header [] [])
  else s.setReceiver (.payload start header length [])

/-- A byte is taken in the receiver's present state (R185). -/
def State.takeByte (s : State) (b : Byte) : State :=
  match s.sli.receiver with
  | .hunt => if b = 0x5A#8 then s.setReceiver (.sync s.clock) else s
  | .sync start =>
    if b = 0xC3#8 then s.setReceiver (.header start [])
    else if b = 0x5A#8 then s.setReceiver (.sync s.clock)
    else s.setReceiver .hunt
  | .header start bytes =>
    let bytes' := bytes ++ [b]
    if bytes'.length < 6 then s.setReceiver (.header start bytes') else s.headerTaken start bytes'
  | .payload start header length bytes =>
    let bytes' := bytes ++ [b]
    if bytes'.length < length then s.setReceiver (.payload start header length bytes')
    else s.setReceiver (.check start header bytes' [])
  | .check start header payload bytes =>
    let bytes' := bytes ++ [b]
    if bytes'.length < 2 then s.setReceiver (.check start header payload bytes')
    else s.judgeReceived header payload bytes'

/-- A frame that has become overlong by now is discarded before the byte is taken (R186; log entry 2). -/
def State.dropOverlong (s : State) : State := if s.frameOverlong then s.discardOverlong else s

/-- The last byte of the leaving frame has been sent: the next frame begins to leave, and a reply's place comes free
(R190). -/
def State.nextFrame (s : State) : State :=
  match s.sli.waiting with
  | [] => s.setSli { s.sli with leaving := none }
  | f :: rest => s.setSli { s.sli with leaving := some f, waiting := rest }

/-! ### Commands -/

/-- SET_SUPERVISION. -/
def execSetSupervision (tag interval : Nat) (s : State) : Answer :=
  .next (s.takeOrWait tag (.setSupervision interval) (takeSetSupervision interval))

/-- QUERY_IDENTITY. -/
def execQueryIdentity (tag : Nat) (s : State) : Answer := .next (s.takeOrWait tag .queryIdentity takeQueryIdentity)

/-- QUERY_STATUS. -/
def execQueryStatus (tag clear : Nat) (s : State) : Answer :=
  .next (s.takeOrWait tag (.queryStatus clear) (takeQueryStatus clear))

/-- RESET_PART. -/
def execResetPart (tag : Nat) (s : State) : Answer :=
  if s.repliesHeld < Config.replyPlaces then .next (s.performReset tag)
  else .next (s.bufferRequest { code := requestCode .resetPart, tag := tag, payload := [] })

/-- UNKNOWN_REQUEST: a request of this code with no payload is taken, or waits for a reply place like any other (R189,
R199; log entry 7). -/
def execUnknownRequest (code tag : Nat) (s : State) : Answer :=
  let f : RequestFrame := { code := code, tag := tag, payload := [] }
  if s.repliesHeld < Config.replyPlaces then .next (s.takeFrame f) else .next (s.bufferRequest f)

/-- REQUEST_ARRIVAL: the last byte of a frame arrives, and the frame is judged (R186, R188). A frame in progress that has become
overlong by now is counted first (R186; log entry 2). -/
def execRequestArrival (kind code tag : Nat) (payload : List Byte) (crc at' : Nat) (s : State) : Answer :=
  .next (((s.tick at').dropOverlong.setReceiver .hunt).judgeFrame kind code tag payload crc)

/-- OVERLONG_FRAME: 20 milliseconds have passed since the start of a frame that is not complete (R186). -/
def execOverlongFrame (at' : Nat) (s : State) : Answer := .next (s.tick at').dropOverlong

/-- FRAME_SENT: the last byte of the leaving frame has been sent, and a freed reply place lets the next request be taken
(R189, R190). -/
def execFrameSent (s : State) : Answer :=
  if s.sli.leaving.isSome then .next s.nextFrame.takeBuffered else .next s

/-- SUPERVISION_EXPIRY: the full interval has passed without a restart; the engine receives a STOP, and the timer restarts
(R193). -/
def execSupervisionExpiry (at' : Nat) (s : State) : Answer :=
  let s1 := s.tick at'
  if s1.timerExpired then .next (s1.applyAction .stop .supervision none).restartTimer else .next s1

/-- FULL_RESET (R197). -/
def execFullReset (source : ResetSource) (s : State) : Answer := .next (s.makeFullReset source)

/-- Whether this byte is the sixth header byte of a frame, gives a length above 1024, and arrives no later than the moment at
which the frame becomes overlong: the length is judged first (R186). -/
def State.lengthJudgedFirst (s : State) (b : Byte) : Bool :=
  match s.sli.receiver with
  | .header start bytes =>
    bytes.length == 5 && decide (Config.maxPayload < field (bytes ++ [b]) 4 2) && decide (s.clock ≤ start + Config.overlongTime)
  | _ => false

/-- RECEIVED_BYTE: the byte is taken, after a frame that has become overlong by now is discarded (R185, R186; log entry 2). -/
def execReceivedByte (byte : Byte) (at' : Nat) (s : State) : Answer :=
  let s1 := s.tick at'
  if s1.lengthJudgedFirst byte then .next (s1.takeByte byte) else .next (s1.dropOverlong.takeByte byte)

end Sys2Proof.Machine
end

