-- ==== Sys2Proof/Machine/Dispatch.lean ====
section
/-! DEFINITION. The meaning of every command of the RD16: one arm per row of spec/opcode_table.json. -/

namespace Sys2Proof.Machine

open Sys2Proof

def exec (i : Instr) (s : State) : Host.Outcome State Fault Refusal :=
  match i with
  | .openClip tag id mask upsample length checksum => Sys2Proof.Machine.execOpenClip tag id mask upsample length checksum s
  | .clipData tag id offset points => Sys2Proof.Machine.execClipData tag id offset points s
  | .closeClip tag id => Sys2Proof.Machine.execCloseClip tag id s
  | .freeClip tag id => Sys2Proof.Machine.execFreeClip tag id s
  | .clipInfo tag id position => Sys2Proof.Machine.execClipInfo tag id position s
  | .storeInfo tag => Sys2Proof.Machine.execStoreInfo tag s
  | .appendEntry tag fields => Sys2Proof.Machine.execAppendEntry tag fields s
  | .modifyEntry tag entry changes => Sys2Proof.Machine.execModifyEntry tag entry changes s
  | .flushQueue tag => Sys2Proof.Machine.execFlushQueue tag s
  | .readQueue tag position withStats => Sys2Proof.Machine.execReadQueue tag position withStats s
  | .readDone tag sequence => Sys2Proof.Machine.execReadDone tag sequence s
  | .advanceWatch tag => Sys2Proof.Machine.execAdvanceWatch tag s
  | .start tag => Sys2Proof.Machine.execStart tag s
  | .pause tag => Sys2Proof.Machine.execPause tag s
  | .resume tag => Sys2Proof.Machine.execResume tag s
  | .stop tag => Sys2Proof.Machine.execStop tag s
  | .clearTrip tag => Sys2Proof.Machine.execClearTrip tag s
  | .setRamp tag ri ro => Sys2Proof.Machine.execSetRamp tag ri ro s
  | .setTimebase tag rate source => Sys2Proof.Machine.execSetTimebase tag rate source s
  | .readEngine tag => Sys2Proof.Machine.execReadEngine tag s
  | .configureChannel tag channel offset clampMin clampMax slew => Sys2Proof.Machine.execConfigureChannel tag channel offset clampMin clampMax slew s
  | .writeGainSet tag set gains => Sys2Proof.Machine.execWriteGainSet tag set gains s
  | .readGainSet tag set => Sys2Proof.Machine.execReadGainSet tag set s
  | .channelPowerOn tag channel => Sys2Proof.Machine.execChannelPowerOn tag channel s
  | .channelPowerOff tag channel => Sys2Proof.Machine.execChannelPowerOff tag channel s
  | .setRigModeReplay tag => Sys2Proof.Machine.execSetRigModeReplay tag s
  | .setRigModeLocal tag => Sys2Proof.Machine.execSetRigModeLocal tag s
  | .setChannelOwner tag channel owner => Sys2Proof.Machine.execSetChannelOwner tag channel owner s
  | .engage tag channel => Sys2Proof.Machine.execEngage tag channel s
  | .release tag channel => Sys2Proof.Machine.execRelease tag channel s
  | .acknowledgeChannels tag mask => Sys2Proof.Machine.execAcknowledgeChannels tag mask s
  | .readChannel tag channel => Sys2Proof.Machine.execReadChannel tag channel s
  | .configureLimits tag channel limits => Sys2Proof.Machine.execConfigureLimits tag channel limits s
  | .configureMark tag fields => Sys2Proof.Machine.execConfigureMark tag fields s
  | .setMarkOutput tag unit level => Sys2Proof.Machine.execSetMarkOutput tag unit level s
  | .readMark tag unit clearOverflow => Sys2Proof.Machine.execReadMark tag unit clearOverflow s
  | .configureCapture tag mask content decimation records rearm => Sys2Proof.Machine.execConfigureCapture tag mask content decimation records rearm s
  | .captureTrigger tag => Sys2Proof.Machine.execCaptureTrigger tag s
  | .abortCapture tag => Sys2Proof.Machine.execAbortCapture tag s
  | .readCapture tag sequence offset count => Sys2Proof.Machine.execReadCapture tag sequence offset count s
  | .captureInfo tag => Sys2Proof.Machine.execCaptureInfo tag s
  | .enableEvents tag mask => Sys2Proof.Machine.execEnableEvents tag mask s
  | .takeEvent tag => Sys2Proof.Machine.execTakeEvent tag s
  | .setSupervision tag interval => Sys2Proof.Machine.execSetSupervision tag interval s
  | .queryIdentity tag => Sys2Proof.Machine.execQueryIdentity tag s
  | .queryStatus tag clear => Sys2Proof.Machine.execQueryStatus tag clear s
  | .resetPart tag => Sys2Proof.Machine.execResetPart tag s
  | .unknownRequest code tag => Sys2Proof.Machine.execUnknownRequest code tag s
  | .requestArrival kind code tag payload crc at' => Sys2Proof.Machine.execRequestArrival kind code tag payload crc at' s
  | .overlongFrame at' => Sys2Proof.Machine.execOverlongFrame at' s
  | .frameSent => Sys2Proof.Machine.execFrameSent s
  | .supervisionExpiry at' => Sys2Proof.Machine.execSupervisionExpiry at' s
  | .fullReset source => Sys2Proof.Machine.execFullReset source s
  | .update at' => Sys2Proof.Machine.execUpdate at' s
  | .syncEdge at' => Sys2Proof.Machine.execSyncEdge at' s
  | .syncLoss at' => Sys2Proof.Machine.execSyncLoss at' s
  | .captureComplete => Sys2Proof.Machine.execCaptureComplete s
  | .rampInComplete => Sys2Proof.Machine.execRampInComplete s
  | .rampOutComplete => Sys2Proof.Machine.execRampOutComplete s
  | .passEnd => Sys2Proof.Machine.execPassEnd s
  | .passEndInRampOut => Sys2Proof.Machine.execPassEndInRampOut s
  | .servoResponse channel intact exchange feedback setpoint status => Sys2Proof.Machine.execServoResponse channel intact exchange feedback setpoint status s
  | .detectorFire channel detector feedback => Sys2Proof.Machine.execDetectorFire channel detector feedback s
  | .linkLost channel => Sys2Proof.Machine.execLinkLost channel s
  | .linkingTimeout channel => Sys2Proof.Machine.execLinkingTimeout channel s
  | .rigReadyDeasserted => Sys2Proof.Machine.execRigReadyDeasserted s
  | .rigReadyReasserted => Sys2Proof.Machine.execRigReadyReasserted s
  | .markInputEdge unit rising => Sys2Proof.Machine.execMarkInputEdge unit rising s
  | .verificationComplete at' => Sys2Proof.Machine.execVerificationComplete at' s
  | .receivedByte byte at' => Sys2Proof.Machine.execReceivedByte byte at' s

end Sys2Proof.Machine
end

