-- ==== Sys2Proof/WellFormed.lean ====
section
/-! DEFINITION. Which commands the line and the inputs can bring: every field fits the bytes that carry it (R198, R200), and an
event names a channel, a mark unit or a value that exists. The part itself judges everything else, so a well-formed request may
still be refused. -/

namespace Sys2Proof

open Sys2Proof.Machine

/-- A number of one byte. -/
def byteWf (n : Nat) : Bool := decide (n < 256)

/-- A number of two bytes. -/
def halfWf (n : Nat) : Bool := decide (n < 65536)

/-- A number of four bytes. -/
def wordWf (n : Nat) : Bool := decide (n < 4294967296)

/-- A count: two bytes, two's complement. -/
def countWf (v : Int) : Bool := decide (-32768 ≤ v) && decide (v ≤ 32767)

/-- A drive channel. -/
def channelWf (n : Nat) : Bool := decide (n < Config.channels)

/-- A field change of a Modify Entry. -/
def FieldChange.wf (c : FieldChange) : Bool := byteWf c.field && wordWf c.value

/-- The payload of an Append Entry; an unknown kind's fields are 2 to 15 bytes, which makes 3 to 16 with the kind (R200). -/
def AppendFields.wf : AppendFields → Bool
  | .play tag clip flags gainSet passes first count =>
    halfWf tag && byteWf clip && byteWf flags && byteWf gainSet && halfWf passes && wordWf first && wordWf count
  | .dwell tag flags length => halfWf tag && byteWf flags && wordWf length
  | .loopOpen tag count => halfWf tag && halfWf count
  | .loopClose tag => halfWf tag
  | .unknown kind body => decide (4 ≤ kind) && byteWf kind && decide (2 ≤ body.length) && decide (body.length ≤ 15)

/-- The payload of a Configure Mark; an unknown mode's fields are at most 7 bytes, which makes 2 to 9 (R200). -/
def MarkFields.wf : MarkFields → Bool
  | .off unit => byteWf unit
  | .compare unit selector value output triggers =>
    byteWf unit && byteWf selector && wordWf value && byteWf output && byteWf triggers
  | .capture unit edge prescale notify => byteWf unit && byteWf edge && byteWf prescale && byteWf notify
  | .unknown unit mode body => byteWf unit && decide (3 ≤ mode) && byteWf mode && decide (body.length ≤ 7)

/-- The payload of a Configure Limits after its channel (R134). -/
def LimitFields.wf (l : LimitFields) : Bool :=
  countWf l.fMin && countWf l.fMax && halfWf l.eMax && byteWf l.delay && byteWf l.envPersist && byteWf l.trkPersist && halfWf l.kc
    && byteWf l.envAction && byteWf l.envEnable && byteWf l.trkAction && byteWf l.trkEnable && byteWf l.clampAction
    && byteWf l.clampEnable

/-- Every field of a request fits its width, and its payload fits the frame (R198, R200). -/
def Request.wf : Request → Bool
  | .openClip id mask upsample length checksum => byteWf id && halfWf mask && byteWf upsample && wordWf length && wordWf checksum
  | .clipData id offset points => byteWf id && wordWf offset && decide (points.length ≤ 508)
  | .closeClip id => byteWf id
  | .freeClip id => byteWf id
  | .clipInfo id position => byteWf id && halfWf position
  | .storeInfo => true
  | .appendEntry fields => fields.wf
  | .modifyEntry entry changes => halfWf entry && decide (changes.length ≤ 204) && changes.all FieldChange.wf
  | .flushQueue => true
  | .readQueue position withStats => byteWf position && byteWf withStats
  | .readDone sequence => wordWf sequence
  | .advanceWatch => true
  | .start => true
  | .pause => true
  | .resume => true
  | .stop => true
  | .clearTrip => true
  | .setRamp ri ro => halfWf ri && halfWf ro
  | .setTimebase rate source => halfWf rate && byteWf source
  | .readEngine => true
  | .configureChannel channel offset clampMin clampMax slew =>
    byteWf channel && countWf offset && countWf clampMin && countWf clampMax && halfWf slew
  | .writeGainSet set gains => byteWf set && decide (gains.length = 16) && gains.all halfWf
  | .readGainSet set => byteWf set
  | .channelPowerOn channel => byteWf channel
  | .channelPowerOff channel => byteWf channel
  | .setRigMode mode => byteWf mode
  | .setChannelOwner channel owner => byteWf channel && byteWf owner
  | .engage channel => byteWf channel
  | .release channel => byteWf channel
  | .acknowledgeChannels mask => halfWf mask
  | .readChannel channel => byteWf channel
  | .configureLimits channel limits => byteWf channel && limits.wf
  | .configureMark fields => fields.wf
  | .setMarkOutput unit level => byteWf unit && byteWf level
  | .readMark unit clearOverflow => byteWf unit && byteWf clearOverflow
  | .configureCapture mask content decimation records rearm =>
    halfWf mask && byteWf content && byteWf decimation && wordWf records && byteWf rearm
  | .captureTrigger => true
  | .abortCapture => true
  | .readCapture sequence offset count => wordWf sequence && wordWf offset && halfWf count
  | .captureInfo => true
  | .enableEvents mask => halfWf mask
  | .takeEvent => true
  | .setSupervision interval => halfWf interval
  | .queryIdentity => true
  | .queryStatus clear => byteWf clear
  | .resetPart => true

/-- The tag and the request of a request's row; none for the other rows. -/
def Instr.asRequest : Instr → Option (Nat × Request)
  | .openClip tag id mask upsample length checksum => some (tag, .openClip id mask upsample length checksum)
  | .clipData tag id offset points => some (tag, .clipData id offset points)
  | .closeClip tag id => some (tag, .closeClip id)
  | .freeClip tag id => some (tag, .freeClip id)
  | .clipInfo tag id position => some (tag, .clipInfo id position)
  | .storeInfo tag => some (tag, .storeInfo)
  | .appendEntry tag fields => some (tag, .appendEntry fields)
  | .modifyEntry tag entry changes => some (tag, .modifyEntry entry changes)
  | .flushQueue tag => some (tag, .flushQueue)
  | .readQueue tag position withStats => some (tag, .readQueue position withStats)
  | .readDone tag sequence => some (tag, .readDone sequence)
  | .advanceWatch tag => some (tag, .advanceWatch)
  | .start tag => some (tag, .start)
  | .pause tag => some (tag, .pause)
  | .resume tag => some (tag, .resume)
  | .stop tag => some (tag, .stop)
  | .clearTrip tag => some (tag, .clearTrip)
  | .setRamp tag ri ro => some (tag, .setRamp ri ro)
  | .setTimebase tag rate source => some (tag, .setTimebase rate source)
  | .readEngine tag => some (tag, .readEngine)
  | .configureChannel tag channel offset clampMin clampMax slew =>
    some (tag, .configureChannel channel offset clampMin clampMax slew)
  | .writeGainSet tag set gains => some (tag, .writeGainSet set gains)
  | .readGainSet tag set => some (tag, .readGainSet set)
  | .channelPowerOn tag channel => some (tag, .channelPowerOn channel)
  | .channelPowerOff tag channel => some (tag, .channelPowerOff channel)
  | .setRigModeReplay tag => some (tag, .setRigMode 1)
  | .setRigModeLocal tag => some (tag, .setRigMode 0)
  | .setChannelOwner tag channel owner => some (tag, .setChannelOwner channel owner)
  | .engage tag channel => some (tag, .engage channel)
  | .release tag channel => some (tag, .release channel)
  | .acknowledgeChannels tag mask => some (tag, .acknowledgeChannels mask)
  | .readChannel tag channel => some (tag, .readChannel channel)
  | .configureLimits tag channel limits => some (tag, .configureLimits channel limits)
  | .configureMark tag fields => some (tag, .configureMark fields)
  | .setMarkOutput tag unit level => some (tag, .setMarkOutput unit level)
  | .readMark tag unit clearOverflow => some (tag, .readMark unit clearOverflow)
  | .configureCapture tag mask content decimation records rearm =>
    some (tag, .configureCapture mask content decimation records rearm)
  | .captureTrigger tag => some (tag, .captureTrigger)
  | .abortCapture tag => some (tag, .abortCapture)
  | .readCapture tag sequence offset count => some (tag, .readCapture sequence offset count)
  | .captureInfo tag => some (tag, .captureInfo)
  | .enableEvents tag mask => some (tag, .enableEvents mask)
  | .takeEvent tag => some (tag, .takeEvent)
  | .setSupervision tag interval => some (tag, .setSupervision interval)
  | .queryIdentity tag => some (tag, .queryIdentity)
  | .queryStatus tag clear => some (tag, .queryStatus clear)
  | .resetPart tag => some (tag, .resetPart)
  | .unknownRequest _ _ => none
  | .requestArrival _ _ _ _ _ _ => none
  | .overlongFrame _ => none
  | .frameSent => none
  | .supervisionExpiry _ => none
  | .fullReset _ => none
  | .update _ => none
  | .syncEdge _ => none
  | .syncLoss _ => none
  | .captureComplete => none
  | .rampInComplete => none
  | .rampOutComplete => none
  | .passEnd => none
  | .passEndInRampOut => none
  | .servoResponse _ _ _ _ _ _ => none
  | .detectorFire _ _ _ => none
  | .linkLost _ => none
  | .linkingTimeout _ => none
  | .rigReadyDeasserted => none
  | .rigReadyReasserted => none
  | .markInputEdge _ _ => none
  | .verificationComplete _ => none
  | .receivedByte _ _ => none

/-- The checks on the rows that are not a known request. -/
def Instr.eventWf : Instr → Bool
  | .unknownRequest code tag => byteWf code && halfWf tag && !knownCodes.contains code
  | .requestArrival kind code tag payload crc _ =>
    byteWf kind && byteWf code && halfWf tag && decide (payload.length ≤ 65535) && halfWf crc
  | .servoResponse channel _ exchange feedback setpoint _ =>
    channelWf channel && byteWf exchange && countWf feedback && countWf setpoint
  | .detectorFire channel _ feedback => channelWf channel && countWf feedback
  | .linkLost channel => channelWf channel
  | .linkingTimeout channel => channelWf channel
  | .markInputEdge unit _ => decide (unit < Config.markUnits)
  | _ => true

/-- A well-formed command. -/
def Instr.wf (i : Instr) : Bool :=
  match i.asRequest with
  | some (tag, r) => halfWf tag && r.wf
  | none => i.eventWf

end Sys2Proof
end

