-- ==== Sys2Proof/Safety.lean ====
section
/-! DEFINITION. What a lawful state of the RD16 is: the laws the manual states over the whole part, each as a property of
`State`; and the two shorthands in which statements speak of replies and of bytes on the receive line. -/

namespace Sys2Proof.Machine

open Sys2Proof

/-! ### Shorthands of the statements -/

/-- `s` with a reply placed at the back of its transmit queue: a status byte, then the reply's fields (R190, R191). -/
def State.answered (s : State) (code tag : Nat) (status : Status) (fields : List Byte) : State :=
  s.placeFrame { cls := .reply, code := code, tag := tag, payload := beBytes 1 (statusCode status) ++ fields }

/-- `s` after a list of bytes has arrived, all at the same moment. -/
def State.received (s : State) (bytes : List Byte) (at' : Nat) : Answer :=
  bytes.foldl (fun (a : Answer) b => match a with
    | .next t => exec (.receivedByte b at') t
    | .fault f => .fault f
    | .refused r => .refused r) (.next s)

/-- The bytes of a request frame on the line (section 11.2). -/
def requestBytes (code tag : Nat) (payload : List Byte) : List Byte :=
  [0x5A, 0xC3] ++ coveredBytes 1 code tag payload ++ beBytes 2 (crc16 (coveredBytes 1 code tag payload))

/-- The commands that raise an update, with the conditions of R98 and R100: UPDATE under INTERNAL, and under EXTERNAL_SYNC an
edge that is neither too soon after the previous update nor so late that the loss has come. -/
def raisesUpdate (i : Instr) (s : State) (at' : Nat) : Prop :=
  (i = .update at' ∧ s.pe.source = .internal)
    ∨ (i = .syncEdge at' ∧ s.pe.source = .externalSync
      ∧ (max s.clock at' - s.pe.syncWatchFrom) * s.pe.rate < 2 * 3276800000
      ∧ ∀ last, s.pe.lastUpdateAt = some last → 3276800000 ≤ (max s.clock at' - last) * 2 * s.pe.rate)

/-! ### Laws of the Clip Store -/

/-- Point memory has its canonical form (log entry 4). -/
def State.PointsCanonical (s : State) : Prop := ramWf s.cs.points = true

/-- The pages a clip holds. -/
def State.clipPages (s : State) (id : Nat) : List Nat := ((s.clip id).load.map (·.pages)).getD []

/-- The pages all clips hold. -/
def State.heldPages (s : State) : List Nat := (List.range Config.clips).flatMap s.clipPages

/-- Every page is held by exactly one clip or is free; the free page list and every page list are ascending; a FREE clip
holds none (R25 to R27). -/
structure State.PagesPartitioned (s : State) : Prop where
  free_ascending : s.cs.freePages.Pairwise (· < ·)
  clip_ascending : ∀ id, id < 64 → (s.clipPages id).Pairwise (· < ·)
  partition : (s.cs.freePages ++ s.heldPages).Perm (List.range 2048)
  free_holds_none : ∀ id, id < 64 → (s.clip id).state = .free → (s.clip id).load = none

/-- Whether an entry is a PLAY of a clip. -/
def Entry.plays (id : Nat) (e : Entry) : Bool :=
  match e.body with
  | .play f _ => f.clip == id
  | .dwell _ _ => false
  | .loopOpen _ => false
  | .loopClose => false

/-- Whether the context holds a clip. -/
def State.contextHolds (s : State) (id : Nat) : Bool :=
  match s.pe.ctx with
  | some { body := .play p, .. } => p.clip == id
  | _ => false

/-- A clip's reference count is the number of PLAY entries that name it, plus one if the context holds it (R36); and no
context exists in IDLE and RETURN (R90, R96). -/
structure State.RefsLawful (s : State) : Prop where
  counted : ∀ id, id < 64 →
    (s.clip id).refs = s.sq.entries.countP (Entry.plays id) + (if s.contextHolds id then 1 else 0)
  no_context : s.pe.state = .idle ∨ s.pe.state = .returning → s.pe.ctx = none

/-! ### What leaving the queue, a visit and a reload point do -/

/-- The notify flag of a PLAY or DWELL entry. -/
def Entry.notify (e : Entry) : Bool :=
  match e.body with
  | .play f _ => f.notify
  | .dwell f _ => f.notify
  | .loopOpen _ => false
  | .loopClose => false

/-- The entries of a list that leave a done record, each with the record's sequence number (R58, R60). -/
def leavers (sequence : Nat) (es : List Entry) : List (Entry × Nat) :=
  (es.filter fun e => e.runtime.isSome).zipIdx.map fun (e, i) => (e, (sequence + i) % 4294967296)

/-- The done record of a PLAY or DWELL entry (R58, R59). -/
def Entry.doneRecord (flushed : Bool) (e : Entry) (sequence : Nat) : Option DoneRecord :=
  e.runtime.map fun r =>
    { sequence := sequence, tag := e.tag,
      kind := match e.body with
        | .play _ _ => .play
        | _ => .dwell
      status := if flushed then .flushed else if r.visits = 0 then .skipped else if r.cutSeen then .cut else .complete,
      visits := r.visits, passes := r.passes, firstStamp := r.firstStamp, lastStamp := r.lastStamp, stats := r.stats }

/-- The done records of the entries of a list, in queue order. -/
def doneRecords (flushed : Bool) (sequence : Nat) (es : List Entry) : List DoneRecord :=
  (leavers sequence es).filterMap fun (e, i) => e.doneRecord flushed i

/-- The sequence numbers that the entries of a list raise SEGMENT with, in queue order (R58, R69). -/
def segmentRaisings (sequence : Nat) (es : List Entry) : List Nat :=
  ((leavers sequence es).filter fun (e, _) => e.notify).map (·.2)

/-- What the leaving of `es` from the queue makes of `s` beside the queue's entries, cursor and stack: done records in the ring,
which keeps the newest 32, clip references dropped, SEGMENT raised by the entries with notify (R36, R57 to R60, R69). -/
structure State.Leaves (s : State) (flushed : Bool) (es : List Entry) (t : State) : Prop where
  ring : t.sq.doneRing = (s.sq.doneRing ++ doneRecords flushed s.sq.nextSeq es).drop
    ((s.sq.doneRing ++ doneRecords flushed s.sq.nextSeq es).length - 32)
  next : t.sq.nextSeq = (s.sq.nextSeq + (es.filter fun e => e.runtime.isSome).length) % 4294967296
  refs : ∀ id, t.clip id = { s.clip id with refs := (s.clip id).refs - es.countP (Entry.plays id) }
  segment : t.cause .segment
    = match (segmentRaisings s.sq.nextSeq es).getLast? with
      | none => s.cause .segment
      | some last => { s.cause .segment with
          count := min 255 ((s.cause .segment).count + (segmentRaisings s.sq.nextSeq es).length), detail := some (.segment last) }
  causes : ∀ c, c ≠ .segment → t.cause c = s.cause c
  line : t.sli = if segmentRaisings s.sq.nextSeq es ≠ [] ∧ (s.cause .segment).count = 0 ∧ (s.cause .segment).enable = true
    then (s.placeNotice .segment 1).sli else s.sli
  store : t.cs.points = s.cs.points ∧ t.cs.freePages = s.cs.freePages ∧ t.cs.order = s.cs.order
    ∧ t.cs.verifierSince = s.cs.verifierSince
  others : t.pe = s.pe ∧ t.dcu = s.dcu ∧ t.cpc = s.cpc ∧ t.lm = s.lm ∧ t.mu = s.mu ∧ t.rcu = s.rcu
    ∧ t.eu.markSet = s.eu.markSet ∧ t.clock = s.clock ∧ t.pending = s.pending

/-- A statistics list with a visit's figures added, channel by channel (R48, R138). -/
def statsWith (entry : Option (List StatRecord)) (visit : List StatRecord) : Option (List StatRecord) :=
  match entry with
  | none => some visit
  | some es => some (List.zipWith (fun e v =>
      { channel := e.channel,
        span := match v.span with
          | none => e.span
          | some (peak, valley) => match e.span with
            | none => some (peak, valley)
            | some (peak', valley') => some (max peak' peak, min valley' valley)
        clamped := min 4294967295 (e.clamped + v.clamped), limited := min 4294967295 (e.limited + v.limited) }) es visit)

/-- An entry's runtime part with the figures of the context's visit added: statistics and last-update stamp (R47, R48, R91). -/
def Context.addedTo (c : Context) (r : Runtime) : Runtime :=
  { r with
    lastStamp := if c.lastUpdate.isSome then c.lastUpdate else r.lastStamp,
    stats := match c.body with
      | .play p => statsWith r.stats p.stats
      | .dwell _ => r.stats }

/-- The queue after the context's visit is interrupted at its release (R90). -/
def State.queueInterrupted (s : State) (c : Context) : SegmentQueue :=
  { s.sq with entries := s.sq.entries.modify s.sq.cursor fun e =>
      e.mapRuntime fun r => { c.addedTo r with interrupted := some c.counted } }

/-- The queue after the context's visit of an entry with `passes` passes has ended, before the advance routine runs (R91). -/
def State.queueEnded (s : State) (c : Context) (passes : Nat) : SegmentQueue :=
  { s.sq with entries := s.sq.entries.modify s.sq.cursor fun e =>
      e.mapRuntime fun r => { c.addedTo r with cutSeen := r.cutSeen || (c.cut && decide (c.counted < passes)) } }

/-- The queue after the context's visit of `e` is released in a part whose queue is that of `s`: interrupted while the visit is
unfinished; ended, and the advance routine run from the entry played, when it is finished (R90, R91). -/
def State.queueReleased (s : State) (c : Context) (e : Entry) : SegmentQueue :=
  if c.cut = true ∨ e.passes ≤ c.counted then
    (State.realRun { s with sq := s.queueEnded c e.passes } (s.sq.cursor + 1)).sq
  else s.queueInterrupted c

/-- A clip's record after a release from `s` that leaves the queue `q`: the context's reference is dropped, and those of the
entries that retired (R36, R90). -/
def State.clipReleased (s : State) (q : SegmentQueue) (id : Nat) : Clip :=
  { s.clip id with refs := (s.clip id).refs - (if s.contextHolds id then 1 else 0)
      - (s.sq.entries.take (s.sq.entries.length - q.entries.length)).countP (Entry.plays id) }

/-- The context of a visit of `e` that begins, from the entry and its clip (R78, R135). -/
def State.contextOf (s : State) (e : Entry) : Option Context :=
  match e.body with
  | .play f r => (s.clip f.clip).load.map fun l =>
      { tag := e.tag,
        body := .play
          { clip := f.clip, chans := l.chans, upsample := l.upsample, first := (f.window.getD (0, l.length)).1,
            count := (f.window.getD (0, l.length)).2, gainSet := f.gainSet, u := 0,
            stats := l.chans.map fun ch => { channel := ch, span := none, clamped := 0, limited := 0 } },
        counted := r.interrupted.getD 0, overrun := false, cut := false, firstUpdate := none, lastUpdate := none,
        captureDue := f.captureAtStart }
  | .dwell _ r => some
      { tag := e.tag, body := .dwell 0, counted := r.interrupted.getD 0, overrun := false, cut := false, firstUpdate := none,
        lastUpdate := none, captureDue := false }
  | .loopOpen _ => none
  | .loopClose => none

/-- An entry's runtime part as a visit of it begins: counted among the visits, or the interrupted visit reinstated (R78). -/
def Runtime.visited (r : Runtime) : Runtime :=
  if r.interrupted.isSome then { r with interrupted := none } else { r with visits := min 4294967295 (r.visits + 1) }

/-- The gain set of a PLAY entry. -/
def Entry.gainSet (e : Entry) : Option Nat :=
  match e.body with
  | .play f _ => some f.gainSet
  | .dwell _ _ => none
  | .loopOpen _ => none
  | .loopClose => none

/-- What a reload point of a context with gain set `g` makes of `s`, at a pass start: the set's pending write is latched, an
armed advance watch fires, and every CLAMP_RATE returns to CLEAR (R22, R72, R79, R130). -/
structure State.Reloads (s : State) (g : Option Nat) (t : State) : Prop where
  gains : ∀ i, i < 8 → t.gainSet i
    = if g = some i ∧ (s.gainSet i).flag = true
      then { active := (s.gainSet i).pending, pending := (s.gainSet i).pending, flag := false } else s.gainSet i
  watch : t.sq.watch = false
  advance : t.cause .advance
    = if s.sq.watch then
        { s.cause .advance with count := min 255 ((s.cause .advance).count + 1), detail := some (.advance s.pe.counter) }
      else s.cause .advance
  clamps : ∀ ch, ch < 16 → t.limits ch = { s.limits ch with clamp := { state := .clear, count := 0 } }

/-! ### What a trip, an update's records and its mark units leave -/

/-- What an applied TRIP makes of the engine, the watch and the causes TRIP, ENGINE and ADVANCE (R72, R85, R95, R103); the
channel stands in the trip cause for CHANNEL_FAULT only. -/
structure State.Trips (s : State) (cause : EngineCause) (channel : Option Nat) (t : State) : Prop where
  engine : t.pe = { s.pe with
    state := .tripped, lam := 0, target := none, tripCause := some cause,
    tripChannel := if cause = .channelFault then channel else none,
    stopCause := if s.pe.state = .rampOut then none else s.pe.stopCause,
    lastAction := some { action := .trip, cause := cause, channel := channel, stamp := s.pe.counter, applied := true } }
  queue : t.sq = { s.sq with watch := false }
  trip : t.cause .trip = { s.cause .trip with
    count := min 255 ((s.cause .trip).count + 1),
    detail := some (.trip cause (if cause = .channelFault then channel else none) s.pe.counter) }
  left : t.cause .engine = { s.cause .engine with
    count := min 255 ((s.cause .engine).count + 1), detail := some (.engine s.pe.state .tripped (some cause)) }
  advance : t.cause .advance
    = if s.sq.watch then
        { s.cause .advance with count := min 255 ((s.cause .advance).count + 1), detail := some (.advance s.pe.counter) }
      else s.cause .advance
  causes : ∀ c, c ≠ .trip → c ≠ .engine → c ≠ .advance → t.cause c = s.cause c
  others : t.cs = s.cs ∧ t.dcu = s.dcu ∧ t.lm = s.lm ∧ t.mu = s.mu ∧ t.rcu = s.rcu ∧ t.cpc = s.cpc
    ∧ t.eu.markSet = s.eu.markSet ∧ t.clock = s.clock ∧ t.pending = s.pending

/-- A port in FAULT for a cause, its change flag set (R117, R118). -/
def Port.faulted (p : Port) (cause : FaultCause) : Port :=
  { p with state := .fault, enable := false, faultCause := some cause, setpoint := none, linkCount := none, changed := true }

/-- A port once the record of the update with this stamp has been sent to it, which opens its window; no record goes to a
channel in OFF or FAULT (R113). -/
def Port.recordSent (p : Port) (stamp : Nat) (command : Int) : Port :=
  { p with window :=
      if p.state = .linking ∨ p.state = .standby ∨ p.state = .engaged then
        some { stamp := stamp, exchange := stamp % 256, engaged := decide (p.state = .engaged), command := command,
               answered := false }
      else none }

/-- The mark units, ascending, that compare value `v` of the update in pass matches, for the clip that plays (R145, R146). -/
def State.marksAt (s : State) (v : MarkUnit → Nat) : List Nat :=
  match s.pe.ctx with
  | some { body := .play p, .. } =>
    if s.pe.state = .rampIn ∨ s.pe.state = .running ∨ s.pe.state = .rampOut then
      (List.range 6).filter fun m =>
        decide ((s.mark m).mode = .compare ∧ (s.mark m).selector.getD p.clip = p.clip ∧ p.u = v (s.mark m))
    else []
  | _ => []

/-- The units of which the next update is a match, and those of which it is a pass start (R146, R147). -/
def State.marksHit (s : State) : List Nat := s.marksAt (·.compareAt)
def State.marksStarted (s : State) : List Nat := s.marksAt fun _ => 0

/-- The tables of R147 and R148: the level a unit's output takes at an update that is a pass start, a match, or both. -/
def levelTable (o : OutputMode) (start hit level : Bool) : Bool :=
  match o, start, hit with
  | .set, _, true => true
  | .clear, _, true => false
  | .toggle, _, true => !level
  | .setClear, _, true => true
  | .setClear, true, false => false
  | .clearSet, _, true => false
  | .clearSet, true, false => true
  | .toggleClear, true, true => true
  | .toggleClear, true, false => false
  | .toggleClear, false, true => !level
  | .toggleSet, true, true => false
  | .toggleSet, true, false => true
  | .toggleSet, false, true => !level
  | _, _, _ => level

/-- The number of capture triggers the next update makes: one for a visit whose capture at start is due, one for each match whose
unit has CAPTURE among its triggers (R78, R150). -/
def State.captureTriggers (s : State) : Nat :=
  (if (s.pe.state = .rampIn ∨ s.pe.state = .running ∨ s.pe.state = .rampOut) ∧ (s.pe.ctx.any (·.captureDue)) = true then 1 else 0)
    + (s.marksHit.filter fun m => (s.mark m).trigCapture).length

/-- A header with one more record, of the update stamped `stamp` at the position `pos`, the channels' last feedbacks as they
stand (R164, R165, R166). -/
def Header.recorded (h : Header) (s : State) (stamp : Nat) (pos : Option Position) : Header :=
  { h with
    stamp := some (h.stamp.getD stamp), position := if h.stamp.isSome then h.position else pos, taken := h.taken + 1,
    figures := List.zipWith (fun f ch => match (s.port ch).feedback with
      | none => { f with absentCount := f.absentCount + 1 }
      | some v => { f with span := match f.span with
          | none => some (v, v)
          | some (lo, hi) => some (min lo v, max hi v) }) h.figures h.chans }

/-- The words of one record of the channels of a header (R161). -/
def State.wordsOf (s : State) (h : Header) : List Int :=
  h.chans.flatMap fun ch => (s.port ch).feedback.getD 0 :: (if h.withCommand then [(s.drive ch).lastOutput] else [])

/-- The bank with words joined to it, if it is the filling one (R161, R165). -/
def Bank.joined (b : Bank) (words : List Int) : Bank := if b.role = .filling then { b with words := b.words ++ words } else b

/-! ### Laws of the Segment Queue -/

/-- At most 64 entries with distinct tags, at most 32 done records, and the records' sequences run on by one up to the next
sequence number (R45, R60). -/
structure State.QueueLawful (s : State) : Prop where
  entries_bound : s.sq.entries.length ≤ 64
  tags_distinct : (s.sq.entries.map (·.tag)).Nodup
  ring_bound : s.sq.doneRing.length ≤ 32
  next_bound : s.sq.nextSeq < 4294967296
  ring_sequences : ∀ i r, s.sq.doneRing[i]? = some r →
    r.sequence < 4294967296 ∧ (r.sequence + (s.sq.doneRing.length - i)) % 4294967296 = s.sq.nextSeq

/-- The cursor lies in the queue or at its tail; tags are distinct; every frame of the loop stack names an entry before the
cursor, an inner one after an outer one; a context plays the entry at the cursor, and none exists in IDLE and RETURN (R45, R46,
R50, R77). -/
structure State.ScheduleLawful (s : State) : Prop where
  cursor_bound : s.sq.cursor ≤ s.sq.entries.length
  tags_distinct : (s.sq.entries.map (·.tag)).Nodup
  frames_behind : ∀ fr ∈ s.sq.stack, ∃ p, findTag s.sq.entries fr.tag = some p ∧ p < s.sq.cursor
  frames_nested : s.sq.stack.Pairwise fun inner outer =>
    ∀ p q, findTag s.sq.entries inner.tag = some p → findTag s.sq.entries outer.tag = some q → q < p
  held : ∀ c, s.pe.ctx = some c → ∃ e, s.cursorEntry = some e ∧ e.tag = c.tag
  no_context : s.pe.state = .idle ∨ s.pe.state = .returning → s.pe.ctx = none

/-! ### Laws of the Playback Engine -/

/-- λ lies in 0 to 65536; it is 65536 in RUNNING and 0 in IDLE, PAUSED, TRIPPED and RETURN (R74). -/
structure State.RampLawful (s : State) : Prop where
  bound : s.pe.lam ≤ 65536
  full : s.pe.state = .running → s.pe.lam = 65536
  zero : s.pe.state = .idle ∨ s.pe.state = .paused ∨ s.pe.state = .tripped ∨ s.pe.state = .returning → s.pe.lam = 0

/-! ### Laws of the Channel Port Controller -/

/-- A channel whose owner is LOCAL is never ENGAGED (R110). -/
def State.LocalNotEngaged (s : State) : Prop := ∀ ch, ch < 16 → (s.port ch).owner = .local → (s.port ch).state ≠ .engaged

/-! ### Laws of the Response Capture Unit -/

/-- What a configuration or a header may ask for: at least one record, and no more words than a bank has (R160). -/
def fitsBank (chans : List Nat) (withCommand : Bool) (records : Nat) : Prop :=
  1 ≤ records ∧ records * chans.length * (if withCommand then 2 else 1) ≤ 262144

/-- In FILLING one bank is filling and holds the words of the records taken, in any other state none is; the committed bank goes
with the committed header and holds its words; outside UNCONFIGURED there is a configuration; everything fits a bank (R159,
R160, R162, R165, R167, R169). -/
structure State.CaptureLawful (s : State) : Prop where
  filling_header : s.rcu.state = .filling ↔ s.rcu.filling.isSome
  configured : s.rcu.state ≠ .unconfigured → s.rcu.config.isSome
  one_filling : [s.rcu.bank0, s.rcu.bank1].countP (fun b => b.role == .filling) = if s.rcu.filling.isSome then 1 else 0
  one_committed : [s.rcu.bank0, s.rcu.bank1].countP (fun b => b.role == .committed) = if s.rcu.committed.isSome then 1 else 0
  config_fits : ∀ c, s.rcu.config = some c → fitsBank c.chans c.withCommand c.records
  filling_fits : ∀ h, s.rcu.filling = some h → h.taken < h.records ∧ fitsBank h.chans h.withCommand h.records
    ∧ ∀ b ∈ [s.rcu.bank0, s.rcu.bank1], b.role = .filling →
        b.words.length = h.taken * h.chans.length * (if h.withCommand then 2 else 1)
  committed_fits : ∀ h, s.rcu.committed = some h → fitsBank h.chans h.withCommand h.records
    ∧ ∀ b ∈ [s.rcu.bank0, s.rcu.bank1], b.role = .committed →
        b.words.length = h.records * h.chans.length * (if h.withCommand then 2 else 1)

/-! ### Laws of the Event Unit -/

/-- Every occurrence count lies in 0 to 255 (R174). -/
def State.CountsBounded (s : State) : Prop := ∀ c : Cause, (s.cause c).count ≤ 255

/-! ### Laws of the Supervisory Link Interface -/

/-- The notices of a cause that wait unsent. -/
def State.noticesWaiting (s : State) (c : Cause) : Nat := (s.sli.waiting.filter fun f => f.cls == .notice c).length

/-- The buffer, the reply places and the transmit queue keep their bounds, and no request waits while a reply place is free
(R187 to R190). -/
structure State.LinkLawful (s : State) : Prop where
  buffer_bound : s.sli.buffer.length ≤ 8
  places_bound : s.repliesHeld ≤ 2
  no_idle_place : s.sli.buffer = [] ∨ s.repliesHeld = 2
  busy_bound : s.busyWaiting ≤ 8
  one_notice : ∀ c : Cause, s.noticesWaiting c ≤ 1
  sends_first : s.sli.leaving = none → s.sli.waiting = []
  counters_bound : s.sli.counters.lengthErrors ≤ 65535 ∧ s.sli.counters.overlong ≤ 65535 ∧ s.sli.counters.crcErrors ≤ 65535
    ∧ s.sli.counters.kindErrors ≤ 65535 ∧ s.sli.counters.busyAnswers ≤ 65535

/-- The interval is 0 or one that R192 admits, and the timer runs exactly while it is not 0 (R192, R193). -/
structure State.SupervisionLawful (s : State) : Prop where
  interval_admitted : s.sli.interval = 0 ∨ (10 ≤ s.sli.interval ∧ s.sli.interval ≤ 60000 ∧ s.sli.interval % 10 = 0)
  timer_runs : s.sli.interval = 0 ↔ s.sli.timerSince = none

end Sys2Proof.Machine
end

