-- ==== Sys2Proof/Certificates/Slice0/Obligations.lean ====
section
/-! DEFINITION. What is to be proved of the model, each statement named after what it says. `State.answered` is a state with a
reply placed at the back of its transmit queue; a next state written as a record update of `s` leaves every field it does not
name as it was, so such an equation is the command's frame as well. -/

open Sys2Proof Sys2Proof.Machine

/-! ### The step -/

/-- A step carries out the command at the front of the queue on the state with the queue's rest; with no command waiting it
changes nothing, which is the model's choice (log entry 15). -/
def Obligations.StepRunsFrontCommand : Prop :=
  (∀ (c : Instr) (rest : List Instr) (s : State), step { s with pending := c :: rest } = exec c { s with pending := rest })
    ∧ ∀ s : State, s.pending = [] → step s = .next s

/-- Every command, with any operands, in any state, answers a next state. -/
def Obligations.EveryCommandAnswersNextState : Prop := ∀ (i : Instr) (s : State), ∃ t, exec i s = .next t

/-- A row that is a request is that request's taking while a reply place is free, and joins the request buffer's path
otherwise. That a row waits when no place is free is the model's choice: log entry 7. -/
def Obligations.RequestRowsTakeOrWait : Prop :=
  ∀ (i : Instr) (tag : Nat) (r : Request) (s : State), i.asRequest = some (tag, r) →
    exec i s = .next (if s.repliesHeld < 2 then s.takeRequest tag r
      else s.bufferRequest { code := requestCode r, tag := tag, payload := requestPayload r })

/-- A request whose reply is not OK changes nothing but the transmit queue, which its reply joins. -/
def Obligations.RefusedRequestsChangeNothing : Prop :=
  ∀ (r : Request) (s : State), (takingOf r s).2.status ≠ .ok → (takingOf r s).1 = s

/-! ### Resets -/

/-- What a full reset leaves in every block, from any state; the points, the input levels, the elapsed time and the waiting
commands stay (log entry 17), and an open response window is dropped (log entry 25). -/
def Obligations.FullResetResult : Prop :=
  ∀ (source : ResetSource) (s : State), ∃ t, exec (.fullReset source) s = .next t
    ∧ t.cs.freePages = List.range 2048 ∧ t.cs.order = []
    ∧ (∀ id, id < 64 → t.clip id = { state := .free, load := none, computed := none, failReason := none, refs := 0 })
    ∧ t.sq = { entries := [], cursor := 0, stack := [], tailDepth := 0, doneRing := [], nextSeq := 0, watch := false }
    ∧ t.pe.state = .idle ∧ t.pe.lam = 0 ∧ t.pe.target = none ∧ t.pe.stopCause = none ∧ t.pe.tripCause = none
    ∧ t.pe.tripChannel = none ∧ t.pe.lastAction = none ∧ t.pe.ctx = none ∧ t.pe.rate = 1024 ∧ t.pe.source = .internal
    ∧ t.pe.ri = 2048 ∧ t.pe.ro = 2048 ∧ t.pe.counter = 0
    ∧ (∀ ch, ch < 16 → t.drive ch = { offset := 0, clampMin := -32768, clampMax := 32767, slew := 65535, lastOutput := 0 })
    ∧ (∀ g, g < 8 → t.gainSet g
        = { active := Vector.replicate 16 0, pending := Vector.replicate 16 0, flag := false })
    ∧ (∀ ch, ch < 16 → t.port ch
        = { state := .off, owner := .local, changed := false, faultCause := none, missCount := 0, linkCount := none,
            setpoint := none, feedback := none, enable := false, window := none })
    ∧ t.cpc.rigMode = .local
    ∧ (∀ ch, ch < 16 → t.limits ch
        = { config := { fMin := -32768, fMax := 32767, eMax := 65535, delay := 0, envPersist := 1, trkPersist := 1, kc := 65535,
                        env := { action := .note, enable := false }, trk := { action := .note, enable := false },
                        clamp := { action := .note, enable := false } },
            env := { state := .clear, count := 0 }, trk := { state := .clear, count := 0 },
            clamp := { state := .clear, count := 0 }, history := Vector.replicate 16 0 })
    ∧ (∀ m, m < 6 → (t.mark m).mode = .off ∧ (t.mark m).selector = none ∧ (t.mark m).compareAt = 0
        ∧ (t.mark m).outputMode = .level ∧ (t.mark m).trigNotify = false ∧ (t.mark m).trigCapture = false
        ∧ (t.mark m).trigCut = false ∧ (t.mark m).edge = .rising ∧ (t.mark m).prescale = 1
        ∧ (t.mark m).captureNotify = false ∧ (t.mark m).output = false ∧ (t.mark m).counter = 0
        ∧ (t.mark m).record = none ∧ (t.mark m).unread = false ∧ (t.mark m).overflow = false)
    ∧ t.rcu = { state := .unconfigured, config := none, bank0 := { role := .free, words := [] },
                bank1 := { role := .free, words := [] }, filling := none, committed := none, sequence := 0 }
    ∧ (∀ c, t.cause c = { count := 0, enable := false, detail := none }) ∧ t.eu.markSet = 0
    ∧ t.sli = { receiver := .hunt, buffer := [], leaving := some (Frame.startNotice source), waiting := [],
                counters := { lengthErrors := 0, overlong := 0, crcErrors := 0, kindErrors := 0, busyAnswers := 0 },
                interval := 0, timerSince := none }
    ∧ t.cs.points = s.cs.points ∧ t.cpc.rigReady = s.cpc.rigReady ∧ (∀ m, (t.mark m).input = (s.mark m).input)
    ∧ t.clock = s.clock ∧ t.pending = s.pending

/-- A Reset Part taken in IDLE or TRIPPED places its reply first and then makes the warm reset of every block; the pages of
clips LOADING and VERIFYING return to the free page list, which stays ascending. In any other engine state it is refused. -/
def Obligations.ResetPartResult : Prop :=
  ∀ (tag : Nat) (s : State), s.repliesHeld < 2 →
    (s.pe.state = .idle ∨ s.pe.state = .tripped →
      ∃ t, exec (.resetPart tag) s = .next t
        ∧ t.sli = (s.answered 0xA3 tag .ok []).sli
        ∧ t.sq = { entries := [], cursor := 0, stack := [], tailDepth := 0, doneRing := [], nextSeq := 0, watch := false }
        ∧ t.pe = { s.pe with state := .idle, target := none, stopCause := none, lam := 0, tripCause := none,
                             tripChannel := none, lastAction := none, ctx := none }
        ∧ t.dcu = s.dcu ∧ t.cs.points = s.cs.points ∧ t.cs.order = []
        ∧ (∀ id, id < 64 → (s.clip id).state ≠ .loading → (s.clip id).state ≠ .verifying →
            t.clip id = { s.clip id with refs := 0 })
        ∧ (∀ id, id < 64 → (s.clip id).state = .loading ∨ (s.clip id).state = .verifying →
            t.clip id = { state := .free, load := none, computed := none, failReason := none, refs := 0 })
        ∧ (s.PagesPartitioned → t.cs.freePages.Pairwise (· < ·)
            ∧ ∀ p, p ∈ t.cs.freePages ↔ p ∈ s.cs.freePages
                ∨ ∃ id, id < 64 ∧ ((s.clip id).state = .loading ∨ (s.clip id).state = .verifying) ∧ p ∈ s.clipPages id)
        ∧ t.cpc.rigMode = s.cpc.rigMode ∧ t.cpc.rigReady = s.cpc.rigReady
        ∧ (∀ ch, ch < 16 → t.port ch
            = { s.port ch with changed := false,
                               state := if (s.port ch).state = .engaged then .standby else (s.port ch).state })
        ∧ (∀ ch, ch < 16 → t.limits ch
            = { s.limits ch with env := { state := .clear, count := 0 }, trk := { state := .clear, count := 0 },
                                 clamp := { state := .clear, count := 0 } })
        ∧ (∀ m, m < 6 → t.mark m
            = { s.mark m with output := false, counter := 0, record := none, unread := false, overflow := false })
        ∧ t.rcu.config = s.rcu.config ∧ t.rcu.sequence = s.rcu.sequence ∧ t.rcu.filling = none ∧ t.rcu.committed = none
        ∧ t.rcu.bank0 = { role := .free, words := [] } ∧ t.rcu.bank1 = { role := .free, words := [] }
        ∧ t.rcu.state = (if s.rcu.state = .unconfigured then .unconfigured else .armed)
        ∧ (∀ c, t.cause c = { count := 0, enable := (s.cause c).enable, detail := none }) ∧ t.eu.markSet = 0
        ∧ t.clock = s.clock ∧ t.pending = s.pending)
    ∧ (s.pe.state ≠ .idle → s.pe.state ≠ .tripped →
      exec (.resetPart tag) s = .next (s.answered 0xA3 tag .wrongState []))

/-! ### Clip Store -/

/-- An Open Clip that passes the checks of R29 takes the pages and makes the clip LOADING. -/
def Obligations.OpenClipResult : Prop :=
  ∀ (tag id mask upsample length checksum need : Nat) (chans : List Nat) (s : State), s.repliesHeld < 2 → id < 64 →
    (s.clip id).state = .free → chans = maskChannels mask → chans ≠ [] →
    (upsample = 1 ∨ upsample = 2 ∨ upsample = 4 ∨ upsample = 8) → 1 ≤ length → length * chans.length ≤ 8388608 →
    need = (length * chans.length + 4095) / 4096 → need ≤ s.cs.freePages.length →
    exec (.openClip tag id mask upsample length checksum) s
      = .next (State.answered
          { s with cs := { s.cs with
              freePages := s.cs.freePages.drop need,
              clips := s.cs.clips.setIfInBounds id
                { state := .loading,
                  load := some { chans := chans, upsample := upsample, length := length,
                                 pages := s.cs.freePages.take need, expected := checksum, received := 0 },
                  computed := none, failReason := none, refs := (s.clip id).refs } } }
          0x10 tag .ok (beBytes 2 need))

/-- A Clip Data that passes its checks stores its points at their storage indices, leaves every other word of point memory as
it was, and raises points received; the page list names distinct pages and is long enough, which `PagesPartitioned` and Open
Clip give every loading clip. -/
def Obligations.ClipDataResult : Prop :=
  ∀ (tag id : Nat) (points : List Point) (l : ClipLoad) (s : State), s.repliesHeld < 2 → s.PointsCanonical → id < 64 →
    1 ≤ points.length → points.length ≤ 500 → (s.clip id).state = .loading → (s.clip id).load = some l →
    l.received + points.length ≤ l.length * l.chans.length → l.pages.Nodup →
    l.length * l.chans.length ≤ l.pages.length * 4096 →
    ∃ t, exec (.clipData tag id l.received points) s = .next t
      ∧ t.clip id = { s.clip id with load := some { l with received := l.received + points.length } }
      ∧ (∀ j, j ≠ id → t.clip j = s.clip j)
      ∧ (∀ k p, points[k]? = some p → clipPoint t.cs l (l.received + k) = p)
      ∧ (∀ a, (∀ k, k < points.length → a ≠ pointAddress l (l.received + k)) → ramRead t.cs.points a = ramRead s.cs.points a)
      ∧ t.cs.freePages = s.cs.freePages ∧ t.cs.order = s.cs.order ∧ t.cs.verifierSince = s.cs.verifierSince
      ∧ t.sli = (s.answered 0x11 tag .ok (beBytes 4 (l.received + points.length))).sli
      ∧ t.sq = s.sq ∧ t.pe = s.pe ∧ t.dcu = s.dcu ∧ t.cpc = s.cpc ∧ t.lm = s.lm ∧ t.mu = s.mu ∧ t.rcu = s.rcu ∧ t.eu = s.eu
      ∧ t.clock = s.clock ∧ t.pending = s.pending

/-- A Close Clip of a LOADING clip makes it FAILED INCOMPLETE and raises CLIP, or makes it VERIFYING at the back of the
verification order. -/
def Obligations.CloseClipResult : Prop :=
  ∀ (tag id : Nat) (l : ClipLoad) (s : State), s.repliesHeld < 2 → id < 64 → (s.clip id).state = .loading →
    (s.clip id).load = some l →
    (l.received < l.length * l.chans.length →
      exec (.closeClip tag id) s
        = .next (State.answered
            (State.raise
              { s with cs := { s.cs with
                  clips := s.cs.clips.setIfInBounds id { s.clip id with state := .failed, failReason := some .incomplete } } }
              .clip (some (.clip id .incomplete)))
            0x12 tag .ok [4]))
    ∧ (l.length * l.chans.length ≤ l.received →
      exec (.closeClip tag id) s
        = .next (State.answered
            { s with cs := { s.cs with
                clips := s.cs.clips.setIfInBounds id { s.clip id with state := .verifying },
                order := s.cs.order ++ [id],
                verifierSince := if s.cs.order = [] then s.clock else s.cs.verifierSince } }
            0x12 tag .ok [2]))

/-- A Free Clip of an unreferenced clip: nothing for a FREE clip; for any other the pages return and the clip is FREE; a
VERIFYING clip leaves the verification order as well. A referenced clip is refused. -/
def Obligations.FreeClipResult : Prop :=
  ∀ (tag id : Nat) (s : State), s.repliesHeld < 2 → id < 64 →
    (0 < (s.clip id).refs → exec (.freeClip tag id) s = .next (s.answered 0x13 tag .inUse []))
    ∧ ((s.clip id).refs = 0 → (s.clip id).state = .free →
      exec (.freeClip tag id) s = .next (s.answered 0x13 tag .ok (beBytes 2 s.cs.freePages.length)))
    ∧ (∀ free, (s.clip id).refs = 0 → (s.clip id).state ≠ .free → free = mergePages (s.clipPages id) s.cs.freePages →
      exec (.freeClip tag id) s
        = .next (State.answered
            { s with cs := { s.cs with
                freePages := free,
                clips := s.cs.clips.setIfInBounds id
                  { state := .free, load := none, computed := none, failReason := none, refs := 0 },
                order := if (s.clip id).state = .verifying then s.cs.order.filter (· != id) else s.cs.order,
                verifierSince := if (s.clip id).state = .verifying ∧ s.cs.order.head? = some id then s.clock
                  else s.cs.verifierSince } }
            0x13 tag .ok (beBytes 2 free.length)))

/-- Once the front clip's points have taken 1/1,048,576 second each, its verification completes. That an earlier event has no
effect but the elapsed time, and that the elapsed time never goes back, is the model's choice: log entry 2. -/
def Obligations.VerificationCompleteResult : Prop :=
  ∀ (at' id : Nat) (rest : List Nat) (l : ClipLoad) (s : State), s.cs.order = id :: rest → (s.clip id).load = some l →
    (s.cs.verifierSince + l.length * l.chans.length * 3125 ≤ max s.clock at' →
      ∀ sum, sum = checksumOf ((List.range (l.length * l.chans.length)).map (clipPoint s.cs l)) →
      exec (.verificationComplete at') s
        = .next (State.raise
            { s with
              clock := max s.clock at',
              cs := { s.cs with
                clips := s.cs.clips.setIfInBounds id
                  { s.clip id with
                    state := if sum = l.expected then .ready else .failed, computed := some sum,
                    failReason := if sum = l.expected then none else some .checksum },
                order := rest.filter (· != id), verifierSince := max s.clock at' } }
            .clip (some (.clip id (if sum = l.expected then .ready else .checksum)))))
    ∧ (max s.clock at' < s.cs.verifierSince + l.length * l.chans.length * 3125 →
      exec (.verificationComplete at') s = .next { s with clock := max s.clock at' })

/-- The checksum in closed form: A is the sum of the points modulo 65536, and in B every point enters once for each point
from itself to the end of the clip. -/
def Obligations.ChecksumClosedForm : Prop :=
  ∀ points : List Point,
    checksumOf points
      = ((points.zipIdx.map fun (p, i) => (points.length - i) * p.toNat).sum % 65536) * 65536
        + (points.map BitVec.toNat).sum % 65536

/-! ### Segment Queue -/

/-- An Append Entry that passes the checks of R55 places its entry at the tail, one clause per kind. -/
def Obligations.AppendEntryResult : Prop :=
  ∀ (tag etag : Nat) (s : State), s.repliesHeld < 2 → s.sq.entries.length < 64 → (∀ e ∈ s.sq.entries, e.tag ≠ etag) →
    (∀ (clip flags gains passes first count : Nat) (l : ClipLoad), clip < 64 → flags < 16 → gains < 8 → 1 ≤ passes →
      passes ≤ 65535 → (s.clip clip).load = some l → (s.clip clip).state ≠ .free → (s.clip clip).state ≠ .failed →
      (flags.testBit 3 = true → 1 ≤ count ∧ first + count ≤ l.length) →
      exec (.appendEntry tag (.play etag clip flags gains passes first count)) s
        = .next (State.answered
            { s with
              sq := { s.sq with entries := s.sq.entries ++
                [{ tag := etag,
                   body := .play
                     { clip := clip, window := if flags.testBit 3 then some (first, count) else none, passes := passes,
                       gainSet := gains, skip := flags.testBit 0, notify := flags.testBit 1,
                       captureAtStart := flags.testBit 2 } Runtime.fresh }] },
              cs := { s.cs with
                clips := s.cs.clips.setIfInBounds clip { s.clip clip with refs := (s.clip clip).refs + 1 } } }
            0x20 tag .ok (beBytes 1 s.sq.entries.length)))
    ∧ (∀ flags length : Nat, flags < 4 → 1 ≤ length → length ≤ 16777215 →
      exec (.appendEntry tag (.dwell etag flags length)) s
        = .next (State.answered
            { s with sq := { s.sq with entries := s.sq.entries ++
                [{ tag := etag,
                   body := .dwell { length := length, skip := flags.testBit 0, notify := flags.testBit 1 }
                     Runtime.fresh }] } }
            0x20 tag .ok (beBytes 1 s.sq.entries.length)))
    ∧ (∀ count : Nat, count ≤ 65535 →
      exec (.appendEntry tag (.loopOpen etag count)) s
        = .next (if s.sq.tailDepth < 6 then
            State.answered
              { s with sq := { s.sq with
                  entries := s.sq.entries ++ [{ tag := etag, body := .loopOpen count }], tailDepth := s.sq.tailDepth + 1 } }
              0x20 tag .ok (beBytes 1 s.sq.entries.length)
          else s.answered 0x20 tag .nesting []))
    ∧ exec (.appendEntry tag (.loopClose etag)) s
        = .next (if s.sq.tailDepth = 0 then s.answered 0x20 tag .unbalanced []
          else State.answered
            { s with sq := { s.sq with
                entries := s.sq.entries ++ [{ tag := etag, body := .loopClose }], tailDepth := s.sq.tailDepth - 1 } }
            0x20 tag .ok (beBytes 1 s.sq.entries.length))

/-- Modify Entry, one field at a time: each field of each kind; two fields together; skip, which sets cut pending on the entry
the context holds, ends the interrupted visit of any other entry as a cut, and changes nothing where it is set already; a new
count of a LOOP_OPEN, which its frame on the loop stack takes too; and the refusals. That an unknown tag is judged before an
empty change list, a repeated field and an unknown field is log entry 24, and that a flag's value above 1 is judged before the
tag is log entry 9. -/
def Obligations.ModifyEntryResult : Prop :=
  ∀ (tag etag : Nat) (s : State), s.repliesHeld < 2 →
    (∀ (pos : Nat) (e : Entry) (set : EntryBody → State), findTag s.sq.entries etag = some pos →
      s.sq.entries[pos]? = some e →
      (∀ b, set b = { s with sq := { s.sq with entries := s.sq.entries.modify pos fun _ => { tag := etag, body := b } } }) →
      (∀ (f : PlayFields) (r : Runtime), e = { tag := etag, body := .play f r } →
        (∀ n, 1 ≤ n → n ≤ 65535 →
          exec (.modifyEntry tag etag [{ field := 1, value := n }]) s
            = .next ((set (.play { f with passes := n } r)).answered 0x21 tag .ok []))
        ∧ (∀ g, g < 8 →
          exec (.modifyEntry tag etag [{ field := 2, value := g }]) s
            = .next ((set (.play { f with gainSet := g } r)).answered 0x21 tag .ok []))
        ∧ (∀ n g, 1 ≤ n → n ≤ 65535 → g < 8 →
          exec (.modifyEntry tag etag [{ field := 2, value := g }, { field := 1, value := n }]) s
            = .next ((set (.play { f with passes := n, gainSet := g } r)).answered 0x21 tag .ok []))
        ∧ (∀ v : Bool,
          exec (.modifyEntry tag etag [{ field := 4, value := v.toNat }]) s
            = .next ((set (.play { f with notify := v } r)).answered 0x21 tag .ok [])
          ∧ exec (.modifyEntry tag etag [{ field := 5, value := v.toNat }]) s
            = .next ((set (.play { f with captureAtStart := v } r)).answered 0x21 tag .ok []))
        ∧ exec (.modifyEntry tag etag [{ field := 3, value := 0 }]) s
            = .next ((set (.play { f with skip := false } r)).answered 0x21 tag .ok [])
        ∧ (f.skip = true →
          exec (.modifyEntry tag etag [{ field := 3, value := 1 }]) s = .next (s.answered 0x21 tag .ok []))
        ∧ (∀ c, f.skip = false → s.pe.ctx = some c → c.tag = etag →
          exec (.modifyEntry tag etag [{ field := 3, value := 1 }]) s
            = .next (State.answered
                { set (.play { f with skip := true } r) with pe := { s.pe with ctx := some { c with cut := true } } }
                0x21 tag .ok []))
        ∧ (f.skip = false → (∀ c, s.pe.ctx = some c → c.tag ≠ etag) →
          exec (.modifyEntry tag etag [{ field := 3, value := 1 }]) s
            = .next (State.answered
                (set (.play { f with skip := true }
                  { r with cutSeen := r.cutSeen || r.interrupted.isSome, interrupted := none }))
                0x21 tag .ok []))
        ∧ (∀ c : FieldChange, c.field ∉ [1, 2, 3, 4, 5] ∨ c.field = 1 ∧ (c.value = 0 ∨ 65535 < c.value)
            ∨ c.field = 2 ∧ 7 < c.value →
          exec (.modifyEntry tag etag [c]) s = .next (s.answered 0x21 tag .invalidValue [])))
      ∧ (∀ (f : DwellFields) (r : Runtime), e = { tag := etag, body := .dwell f r } →
        (∀ n, 1 ≤ n → n ≤ 16777215 →
          exec (.modifyEntry tag etag [{ field := 6, value := n }]) s
            = .next ((set (.dwell { f with length := n } r)).answered 0x21 tag .ok []))
        ∧ (∀ v : Bool,
          exec (.modifyEntry tag etag [{ field := 4, value := v.toNat }]) s
            = .next ((set (.dwell { f with notify := v } r)).answered 0x21 tag .ok []))
        ∧ exec (.modifyEntry tag etag [{ field := 3, value := 0 }]) s
            = .next ((set (.dwell { f with skip := false } r)).answered 0x21 tag .ok [])
        ∧ (f.skip = true →
          exec (.modifyEntry tag etag [{ field := 3, value := 1 }]) s = .next (s.answered 0x21 tag .ok []))
        ∧ (∀ c, f.skip = false → s.pe.ctx = some c → c.tag = etag →
          exec (.modifyEntry tag etag [{ field := 3, value := 1 }]) s
            = .next (State.answered
                { set (.dwell { f with skip := true } r) with pe := { s.pe with ctx := some { c with cut := true } } }
                0x21 tag .ok []))
        ∧ (f.skip = false → (∀ c, s.pe.ctx = some c → c.tag ≠ etag) →
          exec (.modifyEntry tag etag [{ field := 3, value := 1 }]) s
            = .next (State.answered
                (set (.dwell { f with skip := true }
                  { r with cutSeen := r.cutSeen || r.interrupted.isSome, interrupted := none }))
                0x21 tag .ok []))
        ∧ (∀ c : FieldChange, c.field ∉ [3, 4, 6] ∨ c.field = 6 ∧ (c.value = 0 ∨ 16777215 < c.value) →
          exec (.modifyEntry tag etag [c]) s = .next (s.answered 0x21 tag .invalidValue [])))
      ∧ (∀ count : Nat, e = { tag := etag, body := .loopOpen count } →
        (∀ count', count' ≤ 65535 →
          exec (.modifyEntry tag etag [{ field := 7, value := count' }]) s
            = .next (State.answered
                { s with sq := { s.sq with
                    entries := s.sq.entries.modify pos fun _ => { tag := etag, body := .loopOpen count' },
                    stack := s.sq.stack.map fun fr => if fr.tag = etag then { fr with count := count' } else fr } }
                0x21 tag .ok []))
        ∧ (∀ c : FieldChange, c.field ≠ 7 ∨ 65535 < c.value →
          exec (.modifyEntry tag etag [c]) s = .next (s.answered 0x21 tag .invalidValue [])))
      ∧ (∀ changes : List FieldChange,
        changes = [] ∨ ¬ (changes.map (·.field)).Nodup ∨ changes ≠ [] ∧ e = { tag := etag, body := .loopClose } →
        exec (.modifyEntry tag etag changes) s = .next (s.answered 0x21 tag .invalidValue [])))
    ∧ (∀ changes : List FieldChange, (∃ c ∈ changes, (c.field = 3 ∨ c.field = 4 ∨ c.field = 5) ∧ 1 < c.value) →
      exec (.modifyEntry tag etag changes) s = .next (s.answered 0x21 tag .invalidValue []))
    ∧ (findTag s.sq.entries etag = none →
      ∀ changes : List FieldChange, (∀ c ∈ changes, c.field = 3 ∨ c.field = 4 ∨ c.field = 5 → c.value ≤ 1) →
      exec (.modifyEntry tag etag changes) s = .next (s.answered 0x21 tag .notFound []))

/-- A Flush Queue in IDLE empties the queue: each PLAY and DWELL entry leaves a done record FLUSHED in queue order, the ring
keeping the newest 32, and raises SEGMENT where notify is set; each PLAY drops its clip reference; the reply counts the records.
In any other state it is refused. An Advance Watch is armed while the engine plays, else ADVANCE is raised at once with the
current stamp and the flag is clear. -/
def Obligations.FlushAndWatchResult : Prop :=
  ∀ (tag : Nat) (s : State), s.repliesHeld < 2 →
    (s.pe.state = .idle → s.sq.nextSeq < 4294967296 → s.sq.doneRing.length ≤ 32 →
      ∃ u : State, exec (.flushQueue tag) s
          = .next (u.answered 0x22 tag .ok (beBytes 1 (s.sq.entries.filter fun e => e.runtime.isSome).length))
        ∧ s.Leaves true s.sq.entries u
        ∧ u.sq.entries = [] ∧ u.sq.cursor = 0 ∧ u.sq.stack = [] ∧ u.sq.tailDepth = 0 ∧ u.sq.watch = s.sq.watch)
    ∧ (s.pe.state ≠ .idle → exec (.flushQueue tag) s = .next (s.answered 0x22 tag .wrongState []))
    ∧ (s.pe.state = .rampIn ∨ s.pe.state = .running ∨ s.pe.state = .rampOut →
      exec (.advanceWatch tag) s
        = .next (State.answered { s with sq := { s.sq with watch := true } } 0x25 tag .ok [0]))
    ∧ (s.pe.state = .idle ∨ s.pe.state = .paused ∨ s.pe.state = .tripped ∨ s.pe.state = .returning →
      exec (.advanceWatch tag) s
        = .next (State.answered
            (State.raise { s with sq := { s.sq with watch := false } } .advance (some (.advance s.pe.counter)))
            0x25 tag .ok [1]))

/-- The reading requests change nothing but the transmit queue, which their reply joins; each reply's fields are named. Their
layouts are those of the manual's chapters 10 and 11 as the model reads them: log entry 9; what a Capture Info shows before the
first record is log entry 10. -/
def Obligations.ReadRequestsChangeNothing : Prop :=
  ∀ (tag : Nat) (s : State), s.repliesHeld < 2 →
    (∀ id position, id < 64 → position < 2048 →
      exec (.clipInfo tag id position) s = .next (s.answered 0x14 tag .ok (clipInfoBytes s id position)))
    ∧ exec (.storeInfo tag) s
        = .next (s.answered 0x15 tag .ok
            (presenceBytes [s.cs.freePages.head?.isSome] ++ beBytes 2 s.cs.freePages.length
              ++ beBytes 2 (s.cs.freePages.head?.getD 0) ++ (List.range 64).flatMap (fun id => beBytes 1 (s.clip id).state.code)
              ++ beBytes 1 s.cs.order.length ++ s.cs.order.flatMap (beBytes 1)))
    ∧ (∀ position withStats, position < 64 → withStats < 2 →
      exec (.readQueue tag position withStats) s
          = .next (s.answered 0x23 tag .ok (queueBytes s.sq position (withStats == 1)))
        ∧ (queueBytes s.sq position (withStats == 1)).take 4 = beBytes 1 s.sq.entries.length ++ beBytes 1 s.sq.cursor ++ beBytes 1 s.sq.tailDepth
            ++ beBytes 1 (if s.sq.watch then 1 else 0))
    ∧ (∀ sequence, exec (.readDone tag sequence) s
        = .next (s.answered 0x24 tag .ok
            (presenceBytes [s.sq.doneRing.head?.isSome] ++ beBytes 4 ((s.sq.doneRing.head?.map (·.sequence)).getD 0)
              ++ beBytes 4 s.sq.nextSeq ++ beBytes 1 (doneFrom s.sq sequence).length
              ++ (doneFrom s.sq sequence).flatMap doneBytes)))
    ∧ exec (.readEngine tag) s = .next (s.answered 0x37 tag .ok (engineBytes s))
    ∧ (∀ set, set < 8 → exec (.readGainSet tag set) s
        = .next (s.answered 0x42 tag .ok
            ((s.gainSet set).active.toList.flatMap (beBytes 2) ++ (s.gainSet set).pending.toList.flatMap (beBytes 2)
              ++ beBytes 1 (if (s.gainSet set).flag then 1 else 0))))
    ∧ (∀ ch, ch < 16 → exec (.readChannel tag ch) s = .next (s.answered 0x57 tag .ok (channelBytes s ch)))
    ∧ (∀ sequence offset count h, 1 ≤ count → count ≤ 500 → s.rcu.committed = some h → h.sequence = some sequence →
        offset + count ≤ h.records * h.chans.length * (if h.withCommand then 2 else 1) →
        exec (.readCapture tag sequence offset count) s
          = .next (s.answered 0x83 tag .ok
              (beBytes 4 sequence ++ beBytes 2 count
                ++ ((s.rcu.committedWords.drop offset).take count).flatMap countBytes)))
    ∧ exec (.captureInfo tag) s = .next (s.answered 0x84 tag .ok (captureInfoBytes s))
    ∧ exec (.queryIdentity tag) s
        = .next (s.answered 0xA1 tag .ok
            [0x45, 0x54, 0x41, 0x4C, 0x49, 0x58, 0x52, 0x44, 0x31, 0x36, 1, 16, 2, 0, 4, 0, 8, 0, 16, 0, 8, 0, 16, 0, 64,
             1, 2, 4, 8, 64, 6, 32, 8, 6, 0, 4, 0, 0, 9, 8, 4, 0])
    ∧ exec (.queryStatus tag 0) s = .next (s.answered 0xA2 tag .ok (statusBytes s))

/-- The check order of Start, and what a Start that passes it leaves: the entry's visit begins in the queue that a real run of the
advance routine leaves, at a reload point. Of any real run: the entries that retire leave done records, oldest first, and drop
their clip references; the cursor moves back with them. -/
def Obligations.StartResult : Prop :=
  ∀ (tag : Nat) (s : State), s.repliesHeld < 2 →
    (s.pe.state ≠ .idle → exec (.start tag) s = .next (s.answered 0x30 tag .wrongState []))
    ∧ (s.pe.state = .idle → s.cpc.rigReady = false → exec (.start tag) s = .next (s.answered 0x30 tag .notReady []))
    ∧ (s.pe.state = .idle → s.cpc.rigReady = true → s.lookahead s.sq.cursor = none →
      exec (.start tag) s = .next (s.answered 0x30 tag .queueEmpty []))
    ∧ (∀ e st, s.pe.state = .idle → s.cpc.rigReady = true → s.lookahead s.sq.cursor = some e → s.startCheck e = some st →
      exec (.start tag) s = .next (s.answered 0x30 tag st []))
    ∧ (∀ e, s.pe.state = .idle → s.cpc.rigReady = true → s.lookahead s.sq.cursor = some e → s.startCheck e = none →
      ∃ t, exec (.start tag) s = .next t
        ∧ t.pe.state = .rampIn ∧ t.pe.lam = 0 ∧ t.pe.stopCause = none ∧ t.pe.tripCause = none ∧ t.pe.tripChannel = none
        ∧ t.pe.target = s.pe.target ∧ t.pe.lastAction = s.pe.lastAction ∧ t.pe.rate = s.pe.rate ∧ t.pe.source = s.pe.source
        ∧ t.pe.ri = s.pe.ri ∧ t.pe.ro = s.pe.ro ∧ t.pe.counter = s.pe.counter
        ∧ t.dcu.drives = s.dcu.drives ∧ t.cpc = s.cpc ∧ t.mu = s.mu ∧ t.rcu = s.rcu ∧ t.cs.points = s.cs.points
        ∧ t.cs.freePages = s.cs.freePages ∧ t.clock = s.clock ∧ t.pending = s.pending
        ∧ (s.ScheduleLawful → ∀ (c : Context) (q : SegmentQueue), s.contextOf e = some c → q = (s.realRun s.sq.cursor).sq →
          t.pe.ctx = some c ∧ q.entries[q.cursor]? = some e
          ∧ t.sq = { q with entries := q.entries.modify q.cursor fun e => e.mapRuntime Runtime.visited, watch := false }
          ∧ s.Reloads e.gainSet t ∧ (t.cause .engine).detail = some (.engine .idle .rampIn none)
          ∧ (∀ id, id < 64 → t.clip id = { s.clip id with refs := (s.clip id).refs
              - (s.sq.entries.take (s.sq.entries.length - q.entries.length)).countP (Entry.plays id)
              + (if e.plays id then 1 else 0) })
          ∧ ∃ u : State, t = u.answered 0x30 tag .ok (beBytes 2 e.tag ++ beBytes 4 (c.counted + 1))))
    ∧ (∀ start n, start ≤ s.sq.entries.length → s.sq.nextSeq < 4294967296 → s.sq.doneRing.length ≤ 32 →
      n = (match (s.advanceFrom start).2.getLast? with
        | none => (s.advanceFrom start).1
        | some outermost => (findTag s.sq.entries outermost.tag).getD 0) →
      s.Leaves false (s.sq.entries.take n) (s.realRun start)
      ∧ (s.realRun start).sq.entries = s.sq.entries.drop n ∧ (s.realRun start).sq.cursor = (s.advanceFrom start).1 - n
      ∧ (s.realRun start).sq.stack = (s.advanceFrom start).2 ∧ (s.realRun start).sq.tailDepth = s.sq.tailDepth
      ∧ (s.realRun start).sq.watch = s.sq.watch)

/-- A Start on a DWELL entry at the front of a queue without loops: the whole next state. -/
def Obligations.StartDwellResult : Prop :=
  ∀ (tag etag : Nat) (f : DwellFields) (r : Runtime) (rest : List Entry) (s : State), s.repliesHeld < 2 →
    s.pe.state = .idle → s.cpc.rigReady = true → s.sq.entries = { tag := etag, body := .dwell f r } :: rest →
    s.sq.cursor = 0 → s.sq.stack = [] → s.sq.watch = false → f.skip = false → r.interrupted = none →
    exec (.start tag) s
      = .next (State.answered
          (State.raise
            { s with
              sq := { s.sq with entries :=
                { tag := etag, body := .dwell f { r with visits := min 4294967295 (r.visits + 1) } } :: rest },
              lm := s.lm.mapIdx fun _ l => { l with clamp := { state := .clear, count := 0 } },
              pe := { s.pe with
                state := .rampIn, lam := 0, stopCause := none, tripCause := none, tripChannel := none,
                ctx := some { tag := etag, body := .dwell 0, counted := 0, overrun := false, cut := false,
                              firstUpdate := none, lastUpdate := none, captureDue := false } } }
            .engine (some (.engine .idle .rampIn none)))
          0x30 tag .ok (beBytes 2 etag ++ beBytes 4 1))

/-- Pause, Stop and Resume by engine state; a Stop in PAUSED is stated apart. -/
def Obligations.PauseStopResumeResult : Prop :=
  ∀ (tag : Nat) (s : State), s.repliesHeld < 2 →
    (s.pe.state = .rampIn ∨ s.pe.state = .running →
      exec (.pause tag) s
        = .next (State.answered
            (State.raise { s with pe := { s.pe with state := .rampOut, target := some .paused, stopCause := some .hostPause } }
              .engine (some (.engine s.pe.state .rampOut (some .hostPause)))) 0x31 tag .ok [3])
      ∧ exec (.stop tag) s
        = .next (State.answered
            (State.raise { s with pe := { s.pe with state := .rampOut, target := some .idle, stopCause := some .hostStop } }
              .engine (some (.engine s.pe.state .rampOut (some .hostStop)))) 0x33 tag .ok [3])
      ∧ exec (.resume tag) s = .next (s.answered 0x32 tag .wrongState []))
    ∧ (s.pe.state = .rampOut →
      exec (.pause tag) s = .next (s.answered 0x31 tag .ok [3])
      ∧ exec (.stop tag) s
        = .next (if s.pe.target = some .paused then
            State.answered { s with pe := { s.pe with target := some .idle, stopCause := some .hostStop } } 0x33 tag .ok [3]
          else s.answered 0x33 tag .ok [3])
      ∧ exec (.resume tag) s
        = .next (if s.pe.target = some .paused then
            State.answered
              (State.raise { s with pe := { s.pe with state := .rampIn, target := none, stopCause := none } }
                .engine (some (.engine .rampOut .rampIn none))) 0x32 tag .ok []
          else s.answered 0x32 tag .wrongState []))
    ∧ (s.pe.state = .paused →
      exec (.pause tag) s = .next (s.answered 0x31 tag .ok [4])
      ∧ ((∀ ch ∈ s.drivenChannels, (s.port ch).state = .engaged) →
        exec (.resume tag) s
          = .next (State.answered
              (State.raise { s with pe := { s.pe with state := .rampIn, lam := 0, stopCause := none } }
                .engine (some (.engine .paused .rampIn none))) 0x32 tag .ok []))
      ∧ ((∃ ch ∈ s.drivenChannels, (s.port ch).state ≠ .engaged) →
        exec (.resume tag) s = .next (s.answered 0x32 tag .channelNotEngaged [])))
    ∧ (s.pe.state = .idle → exec (.stop tag) s = .next (s.answered 0x33 tag .ok [0])
      ∧ exec (.pause tag) s = .next (s.answered 0x31 tag .wrongState [])
      ∧ exec (.resume tag) s = .next (s.answered 0x32 tag .wrongState []))
    ∧ (s.pe.state = .tripped ∨ s.pe.state = .returning → exec (.stop tag) s = .next (s.answered 0x33 tag .wrongState [])
      ∧ exec (.pause tag) s = .next (s.answered 0x31 tag .wrongState [])
      ∧ exec (.resume tag) s = .next (s.answered 0x32 tag .wrongState []))

/-- A Stop in PAUSED and a Clear Trip release the context, keep λ, and move the engine to IDLE and to RETURN: an unfinished visit
is interrupted, a finished one ends and the advance routine runs, and the context's clip reference is dropped. That a Clear Trip
outside TRIPPED is WRONG_STATE with Rig Ready deasserted too is log entry 24. -/
def Obligations.ReleasingRequestsResult : Prop :=
  ∀ (tag : Nat) (s : State), s.repliesHeld < 2 →
    (s.pe.state = .paused →
      ∃ t, exec (.stop tag) s = .next t
        ∧ t.pe = { s.pe with state := .idle, stopCause := some .hostStop, ctx := none }
        ∧ (∀ c e, s.pe.ctx = some c → s.cursorEntry = some e →
          t.sq = { s.queueReleased c e with watch := false } ∧ ∀ id, id < 64 → t.clip id = s.clipReleased t.sq id)
        ∧ (t.cause .engine).detail = some (.engine .paused .idle (some .hostStop))
        ∧ t.dcu = s.dcu ∧ t.cpc = s.cpc ∧ t.lm = s.lm ∧ t.mu = s.mu ∧ t.rcu = s.rcu ∧ t.cs.points = s.cs.points
        ∧ t.cs.freePages = s.cs.freePages ∧ t.clock = s.clock ∧ t.pending = s.pending)
    ∧ (s.pe.state = .tripped → s.cpc.rigReady = true →
      ∃ t, exec (.clearTrip tag) s = .next t
        ∧ t.pe = { s.pe with state := .returning, ctx := none }
        ∧ (∀ c e, s.pe.ctx = some c → s.cursorEntry = some e →
          t.sq = s.queueReleased c e ∧ ∀ id, id < 64 → t.clip id = s.clipReleased t.sq id)
        ∧ (s.pe.ctx = none → t.sq = s.sq ∧ t.cs = s.cs) ∧ (t.cause .engine).detail = some (.engine .tripped .returning none)
        ∧ t.dcu = s.dcu ∧ t.cpc = s.cpc ∧ t.lm = s.lm ∧ t.mu = s.mu ∧ t.rcu = s.rcu ∧ t.cs.points = s.cs.points
        ∧ t.cs.freePages = s.cs.freePages ∧ t.clock = s.clock ∧ t.pending = s.pending)
    ∧ (s.pe.state = .tripped → s.cpc.rigReady = false →
      exec (.clearTrip tag) s = .next (s.answered 0x34 tag .notReady []))
    ∧ (s.pe.state ≠ .tripped → exec (.clearTrip tag) s = .next (s.answered 0x34 tag .wrongState []))

/-- Set Ramp and Set Timebase. That a rate or a source of no meaning is judged before the port states is log entry 24. -/
def Obligations.EngineSettingsResult : Prop :=
  ∀ (tag : Nat) (s : State), s.repliesHeld < 2 →
    (∀ ri ro, 1 ≤ ri → 1 ≤ ro →
      exec (.setRamp tag ri ro) s = .next (State.answered { s with pe := { s.pe with ri := ri, ro := ro } } 0x35 tag .ok []))
    ∧ (∀ ri ro, ri = 0 ∨ ro = 0 → exec (.setRamp tag ri ro) s = .next (s.answered 0x35 tag .invalidValue []))
    ∧ (∀ rate, rate = 512 ∨ rate = 1024 ∨ rate = 2048 ∨ rate = 4096 →
      (∀ ch, ch < 16 → (s.port ch).state ≠ .engaged) →
      exec (.setTimebase tag rate 0) s
        = .next (State.answered { s with pe := { s.pe with rate := rate, source := .internal, syncWatchFrom := s.clock } }
            0x36 tag .ok [])
      ∧ exec (.setTimebase tag rate 1) s
        = .next (State.answered { s with pe := { s.pe with rate := rate, source := .externalSync, syncWatchFrom := s.clock } }
            0x36 tag .ok []))
    ∧ (∀ rate source, ¬ (rate = 512 ∨ rate = 1024 ∨ rate = 2048 ∨ rate = 4096) ∨ 1 < source →
      exec (.setTimebase tag rate source) s = .next (s.answered 0x36 tag .invalidValue []))
    ∧ (∀ rate source ch, rate = 512 ∨ rate = 1024 ∨ rate = 2048 ∨ rate = 4096 → source < 2 → ch < 16 →
      (s.port ch).state = .engaged →
      exec (.setTimebase tag rate source) s = .next (s.answered 0x36 tag .wrongState []))

/-- λ reaching 65536 in RAMP_IN; λ reaching 0 in RAMP_OUT toward PAUSED, and toward IDLE, where the context is released, each with
the advance watch clear and armed; and a pass end taken in RAMP_OUT by a PLAY and by a DWELL, which counts nothing. That each is
taken alone is log entry 1, and that ENGINE is raised before ADVANCE is log entry 19. -/
def Obligations.RampEventsResult : Prop :=
  ∀ s : State,
    (s.pe.state = .rampIn → 65536 ≤ s.pe.lam + (65536 + (s.pe.ri - 1)) / s.pe.ri →
      exec .rampInComplete s
        = .next (State.raise { s with pe := { s.pe with state := .running, lam := 65536 } }
            .engine (some (.engine .rampIn .running none))))
    ∧ (s.pe.state = .rampOut → s.pe.lam ≤ (65536 + (s.pe.ro - 1)) / s.pe.ro → s.sq.watch = false →
      s.pe.target = some .paused →
      exec .rampOutComplete s
        = .next (State.raise { s with pe := { s.pe with state := .paused, target := none, lam := 0 } }
            .engine (some (.engine .rampOut .paused s.pe.stopCause))))
    ∧ (∀ u, s.pe.state = .rampOut → s.pe.lam ≤ (65536 + (s.pe.ro - 1)) / s.pe.ro → s.sq.watch = true →
      s.pe.target = some .paused →
      u = State.raise { s with pe := { s.pe with state := .paused, target := none, lam := 0 } }
        .engine (some (.engine .rampOut .paused s.pe.stopCause)) →
      exec .rampOutComplete s
        = .next (State.raise { u with sq := { s.sq with watch := false } } .advance (some (.advance s.pe.counter))))
    ∧ (s.pe.state = .rampOut → s.pe.lam ≤ (65536 + (s.pe.ro - 1)) / s.pe.ro → s.sq.watch = false →
      s.pe.target = some .idle → s.pe.ctx = none →
      exec .rampOutComplete s
        = .next (State.raise { s with pe := { s.pe with state := .idle, target := none, lam := 0 } }
            .engine (some (.engine .rampOut .idle s.pe.stopCause))))
    ∧ (∀ u, s.pe.state = .rampOut → s.pe.lam ≤ (65536 + (s.pe.ro - 1)) / s.pe.ro → s.sq.watch = true →
      s.pe.target = some .idle → s.pe.ctx = none →
      u = State.raise { s with pe := { s.pe with state := .idle, target := none, lam := 0 } }
        .engine (some (.engine .rampOut .idle s.pe.stopCause)) →
      exec .rampOutComplete s
        = .next (State.raise { u with sq := { s.sq with watch := false } } .advance (some (.advance s.pe.counter))))
    ∧ (∀ c e, s.pe.state = .rampOut → s.pe.lam ≤ (65536 + (s.pe.ro - 1)) / s.pe.ro → s.pe.target = some .idle →
      s.pe.ctx = some c → s.cursorEntry = some e →
      ∃ t, exec .rampOutComplete s = .next t
        ∧ t.pe = { s.pe with state := .idle, target := none, lam := 0, ctx := none }
        ∧ t.sq = { s.queueReleased c e with watch := false } ∧ (∀ id, id < 64 → t.clip id = s.clipReleased t.sq id)
        ∧ (t.cause .engine).detail = some (.engine .rampOut .idle s.pe.stopCause)
        ∧ t.cause .advance = (if s.sq.watch then
            { s.cause .advance with
              count := min 255 ((s.cause .advance).count + 1), detail := some (.advance s.pe.counter) }
          else s.cause .advance)
        ∧ t.dcu = s.dcu ∧ t.cpc = s.cpc ∧ t.lm = s.lm ∧ t.mu = s.mu ∧ t.rcu = s.rcu ∧ t.cs.points = s.cs.points
        ∧ t.cs.freePages = s.cs.freePages ∧ t.clock = s.clock ∧ t.pending = s.pending)
    ∧ (∀ (c : Context) (p : PlayContext), s.pe.state = .rampOut → s.pe.ctx = some c → c.body = .play p →
      p.count * p.upsample ≤ p.u + 1 →
      exec .passEndInRampOut s
        = .next { s with
            lm := s.lm.mapIdx fun _ l => { l with clamp := { state := .clear, count := 0 } },
            pe := { s.pe with ctx := some { c with
              overrun := c.cut || decide (s.heldPasses ≤ c.counted), body := .play { p with u := 0 } } } })
    ∧ (∀ (c : Context) (elapsed : Nat) (f : DwellFields) (r : Runtime), s.pe.state = .rampOut → s.pe.ctx = some c →
      c.body = .dwell elapsed → s.cursorEntry = some { tag := c.tag, body := .dwell f r } → f.length ≤ elapsed + 1 →
      exec .passEndInRampOut s
        = .next { s with
            lm := s.lm.mapIdx fun _ l => { l with clamp := { state := .clear, count := 0 } },
            pe := { s.pe with ctx := some { c with overrun := c.cut || decide (1 ≤ c.counted), body := .dwell 0 } } })

/-- A pass end of a PLAY visit in RAMP_IN or RUNNING. A pass that is no overrun pass is counted. An unfinished visit begins its
next pass at a reload point. A finished visit whose lookahead finds the tail, or an entry that fails the segment start check,
stays in the context while an overrun pass of a ramp-out toward IDLE begins with the cause that says why; else it ends, the
advance routine runs, and the visit of the entry it stands on begins. -/
def Obligations.PassEndResult : Prop :=
  ∀ (c : Context) (p : PlayContext) (f : PlayFields) (r : Runtime) (s : State) (n : Nat) (counted : SegmentQueue),
    s.pe.state = .rampIn ∨ s.pe.state = .running → s.pe.ctx = some c → c.body = .play p →
    p.count * p.upsample ≤ p.u + 1 → s.cursorEntry = some { tag := c.tag, body := .play f r } →
    n = (if c.overrun then c.counted else c.counted + 1) →
    counted = { s.sq with entries := s.sq.entries.modify s.sq.cursor fun _ =>
      { tag := c.tag, body := .play f (if c.overrun then r else { r with passes := min 4294967295 (r.passes + 1) }) } } →
    (c.cut = false → n < f.passes → (s.gainSet f.gainSet).flag = false → s.sq.watch = false →
      exec .passEnd s
        = .next { s with
            sq := counted,
            lm := s.lm.mapIdx fun _ l => { l with clamp := { state := .clear, count := 0 } },
            pe := { s.pe with ctx := some { c with
              counted := n, overrun := false, body := .play { p with u := 0, gainSet := f.gainSet } } } })
    ∧ (c.cut = false → n < f.passes →
      ∃ t, exec .passEnd s = .next t
        ∧ t.sq = { counted with watch := false } ∧ s.Reloads (some f.gainSet) t
        ∧ t.pe = { s.pe with ctx := some { c with
            counted := n, overrun := false, body := .play { p with u := 0, gainSet := f.gainSet } } }
        ∧ t.dcu.drives = s.dcu.drives ∧ t.cs = s.cs ∧ t.cpc = s.cpc ∧ t.mu = s.mu ∧ t.rcu = s.rcu ∧ t.clock = s.clock
        ∧ t.pending = s.pending)
    ∧ (∀ cause : EngineCause, f.passes ≤ n ∨ c.cut = true →
      (s.lookahead (s.sq.cursor + 1) = none ∧ cause = .queueEmpty
        ∨ ∃ e, s.lookahead (s.sq.cursor + 1) = some e
          ∧ (s.startCheck e = some .clipNotReady ∧ cause = .clipNotReady
            ∨ s.startCheck e = some .channelNotEngaged ∧ cause = .channelNotEngaged)) →
      exec .passEnd s
        = .next
          (let t := State.raise
              { s with
                sq := counted,
                pe := { s.pe with state := .rampOut, target := some .idle, stopCause := some cause } }
              .engine (some (.engine s.pe.state .rampOut (some cause)))
           { t with
             lm := s.lm.mapIdx fun _ l => { l with clamp := { state := .clear, count := 0 } },
             pe := { t.pe with ctx := some { c with counted := n, overrun := true, body := .play { p with u := 0 } } } }))
    ∧ (∀ (e : Entry) (c' : Context) (q : SegmentQueue), f.passes ≤ n ∨ c.cut = true → s.ScheduleLawful →
      q = (State.realRun
        { s with sq := State.queueEnded { s with sq := counted } { c with counted := n } f.passes } (s.sq.cursor + 1)).sq →
      q.entries[q.cursor]? = some e → s.startCheck e = none → s.contextOf e = some c' →
      ∃ t, exec .passEnd s = .next t
        ∧ t.pe = { s.pe with ctx := some c' }
        ∧ t.sq = { q with entries := q.entries.modify q.cursor fun e => e.mapRuntime Runtime.visited, watch := false }
        ∧ s.Reloads e.gainSet t
        ∧ (∀ id, id < 64 → t.clip id = { s.clipReleased q id with
            refs := (s.clipReleased q id).refs + (if e.plays id then 1 else 0) })
        ∧ t.dcu.drives = s.dcu.drives ∧ t.cpc = s.cpc ∧ t.mu = s.mu ∧ t.rcu = s.rcu ∧ t.cs.points = s.cs.points
        ∧ t.cs.freePages = s.cs.freePages ∧ t.clock = s.clock ∧ t.pending = s.pending)

/-! ### Drive Computation Unit -/

/-- Interpolation: the quotient is rounded toward negative infinity, the value lies between the two points, and the three
cases of R8 hold. -/
def Obligations.InterpolationLaw : Prop :=
  ∀ (pa pb : Int) (k u : Nat), -32768 ≤ pa → pa ≤ 32767 → -32768 ≤ pb → pb ≤ 32767 →
    (u = 1 ∨ u = 2 ∨ u = 4 ∨ u = 8) → k < u →
    (interpolate pa pb k u - pa) * u ≤ (pb - pa) * k ∧ (pb - pa) * k < (interpolate pa pb k u - pa + 1) * u
    ∧ -65535 ≤ pb - pa ∧ pb - pa ≤ 65535 ∧ -458745 ≤ (pb - pa) * k ∧ (pb - pa) * k ≤ 458745
    ∧ min pa pb ≤ interpolate pa pb k u ∧ interpolate pa pb k u ≤ max pa pb
    ∧ (u = 1 → interpolate pa pb k u = pa) ∧ (pb = pa → interpolate pa pb k u = pa)

/-- The dynamic part: the product over 16384 to the nearest integer, an exact half away from zero, within R10's range. -/
def Obligations.DynamicPartLaw : Prop :=
  ∀ (v : Int) (q : Nat), -32768 ≤ v → v ≤ 32767 → q ≤ 32767 →
    -1073709056 ≤ v * q ∧ v * q ≤ 1073676289
    ∧ |16384 * dynamicPart v q - v * q| ≤ 8192
    ∧ (|16384 * dynamicPart v q - v * q| = 8192 → |v * q| < |16384 * dynamicPart v q|)
    ∧ -65534 ≤ dynamicPart v q ∧ dynamicPart v q ≤ 65532

/-- The command of a computed channel: it lies between the last output and the clamped raw command, differs from the last
output by at most the slew limit, and equals the clamped raw command when that is within reach; the indications say when it was
clamped and limited. -/
def Obligations.CommandLaw : Prop :=
  ∀ (d : DriveRecord) (dyn : Bool) (part c : Int), d.clampMin ≤ d.clampMax → c = max d.clampMin (min d.clampMax (d.offset + part)) →
    (driveResult d dyn part).target = c
    ∧ ((c - d.lastOutput).natAbs ≤ d.slew → (driveResult d dyn part).command = c)
    ∧ (d.slew < (c - d.lastOutput).natAbs →
        ((driveResult d dyn part).command - d.lastOutput).natAbs = d.slew)
    ∧ min d.lastOutput c ≤ (driveResult d dyn part).command ∧ (driveResult d dyn part).command ≤ max d.lastOutput c
    ∧ ((driveResult d dyn part).clamped = true ↔ d.offset + part < d.clampMin ∨ d.clampMax < d.offset + part)
    ∧ ((driveResult d dyn part).limited = true ↔ d.slew < (c - d.lastOutput).natAbs)

/-- Configure Channel, and Write Gain Set latched at once or left pending. -/
def Obligations.DriveRequestsResult : Prop :=
  ∀ (tag : Nat) (s : State), s.repliesHeld < 2 →
    (∀ (ch slew : Nat) (offset cmin cmax : Int), ch < 16 → cmin ≤ cmax → 1 ≤ slew →
      exec (.configureChannel tag ch offset cmin cmax slew) s
        = .next (State.answered
            (s.setDrive ch
                { offset := offset, clampMin := cmin, clampMax := cmax, slew := slew,
                  lastOutput := (s.drive ch).lastOutput })
            0x40 tag .ok []))
    ∧ (∀ (ch slew : Nat) (offset cmin cmax : Int), 15 < ch ∨ cmax < cmin ∨ slew = 0 →
      exec (.configureChannel tag ch offset cmin cmax slew) s = .next (s.answered 0x40 tag .invalidValue []))
    ∧ (∀ (set : Nat) (gains : List Nat) (w : Vector Nat 16), set < 8 → gains = w.toList → (∀ g ∈ gains, g ≤ 32767) →
      s.pe.state = .idle ∨ s.pe.state = .paused ∨ s.pe.state = .tripped ∨ s.pe.state = .returning →
      exec (.writeGainSet tag set gains) s
        = .next (State.answered
            (s.setGainSet set
                { active := w, pending := w, flag := false })
            0x41 tag .ok [0]))
    ∧ (∀ (set : Nat) (gains : List Nat) (w : Vector Nat 16) (c : Context) (p : PlayContext), set < 8 → gains = w.toList →
      (∀ g ∈ gains, g ≤ 32767) → s.pe.state = .rampIn ∨ s.pe.state = .running ∨ s.pe.state = .rampOut →
      s.pe.ctx = some c → c.body = .play p → p.gainSet = set →
      exec (.writeGainSet tag set gains) s
        = .next (State.answered
            (s.setGainSet set
                { active := (s.gainSet set).active, pending := w, flag := true })
            0x41 tag .ok [1]))

/-! ### Channel Port Controller -/

/-- Channel Power On and Channel Power Off; an open window is left to the next update. -/
def Obligations.PowerResult : Prop :=
  ∀ (tag ch : Nat) (s : State), s.repliesHeld < 2 → ch < 16 →
    ((s.port ch).state = .off →
      exec (.channelPowerOn tag ch) s
        = .next (State.answered
            (s.setPort ch
                { s.port ch with state := .linking, linkCount := some 0, missCount := 0, setpoint := none, feedback := none,
                                 enable := true })
            0x50 tag .ok [1]))
    ∧ ((s.port ch).state = .fault → exec (.channelPowerOn tag ch) s = .next (s.answered 0x50 tag .wrongState []))
    ∧ ((s.port ch).state ≠ .off → (s.port ch).state ≠ .fault →
      exec (.channelPowerOn tag ch) s = .next (s.answered 0x50 tag .ok (beBytes 1 (s.port ch).state.code)))
    ∧ ((s.port ch).state = .off → exec (.channelPowerOff tag ch) s = .next (s.answered 0x51 tag .ok [0]))
    ∧ ((s.port ch).state ≠ .off → (s.port ch).state ≠ .engaged ∨ ch ∉ s.drivenChannels →
      exec (.channelPowerOff tag ch) s
        = .next (State.answered
            (s.setPort ch
                { s.port ch with state := .off, enable := false, faultCause := none, linkCount := none, setpoint := none,
                                 missCount := 0 })
            0x51 tag .ok [0]))
    ∧ ((s.port ch).state = .engaged → ch ∈ s.drivenChannels →
      s.pe.state = .rampIn ∨ s.pe.state = .running ∨ s.pe.state = .rampOut ∨ s.pe.state = .paused →
      exec (.channelPowerOff tag ch) s = .next (s.answered 0x51 tag .inUse []))

/-- Set Rig Mode REPLAY and LOCAL: the rig mode, and every channel's owner, state and change flag after it. -/
def Obligations.RigModeResult : Prop :=
  ∀ (tag : Nat) (s : State), s.repliesHeld < 2 →
    (∃ t, exec (.setRigModeReplay tag) s = .next t ∧ t.cpc.rigMode = .replay ∧ t.cpc.rigReady = s.cpc.rigReady
      ∧ (∀ ch, ch < 16 → t.port ch
          = { s.port ch with owner := .replay, changed := (s.port ch).changed || (s.port ch).owner == .local })
      ∧ t.cs = s.cs ∧ t.sq = s.sq ∧ t.pe = s.pe ∧ t.dcu = s.dcu ∧ t.lm = s.lm ∧ t.mu = s.mu ∧ t.rcu = s.rcu
      ∧ t.clock = s.clock ∧ t.pending = s.pending)
    ∧ (s.pe.state = .idle ∨ s.pe.state = .tripped →
      ∃ t, exec (.setRigModeLocal tag) s = .next t ∧ t.cpc.rigMode = .local ∧ t.cpc.rigReady = s.cpc.rigReady
        ∧ (∀ ch, ch < 16 → t.port ch
            = { s.port ch with
                owner := .local, state := if (s.port ch).state = .engaged then .standby else (s.port ch).state,
                changed := (s.port ch).changed || (s.port ch).owner == .replay || (s.port ch).state == .engaged })
        ∧ t.cs = s.cs ∧ t.sq = s.sq ∧ t.pe = s.pe ∧ t.dcu = s.dcu ∧ t.lm = s.lm ∧ t.mu = s.mu ∧ t.rcu = s.rcu
        ∧ t.clock = s.clock ∧ t.pending = s.pending)
    ∧ (s.pe.state ≠ .idle → s.pe.state ≠ .tripped →
      exec (.setRigModeLocal tag) s = .next (s.answered 0x52 tag .wrongState []))

/-- Set Channel Owner, Engage and Release. That a Release of a driven channel that is not ENGAGED is WRONG_STATE is log entry 24. -/
def Obligations.OwnerEngageReleaseResult : Prop :=
  ∀ (tag ch : Nat) (s : State), s.repliesHeld < 2 → ch < 16 →
    (s.cpc.rigMode = .replay →
      exec (.setChannelOwner tag ch 1) s
        = .next (State.answered
            (s.setPort ch { s.port ch with owner := .replay })
            0x53 tag .ok (beBytes 1 1 ++ beBytes 1 (s.port ch).state.code)))
    ∧ (s.cpc.rigMode = .local → exec (.setChannelOwner tag ch 1) s = .next (s.answered 0x53 tag .wrongState []))
    ∧ (ch ∉ s.drivenChannels → (s.port ch).state = .engaged →
      exec (.setChannelOwner tag ch 0) s
        = .next (State.answered
            (s.setPort ch
                { s.port ch with owner := .local, state := .standby })
            0x53 tag .ok [0, 2]))
    ∧ (∀ v, (s.port ch).state = .standby → s.pe.state ≠ .tripped → (s.port ch).owner = .replay → s.cpc.rigReady = true →
      (s.port ch).setpoint = some v →
      exec (.engage tag ch) s
        = .next (State.answered
            { s with
              dcu := { s.dcu with drives := s.dcu.drives.setIfInBounds ch { s.drive ch with lastOutput := v } },
              lm := s.lm.setIfInBounds ch
                { s.limits ch with env := { state := .clear, count := 0 }, trk := { state := .clear, count := 0 },
                                   clamp := { state := .clear, count := 0 }, history := Vector.replicate 16 v },
              cpc := { s.cpc with ports := s.cpc.ports.setIfInBounds ch { s.port ch with state := .engaged } } }
            0x54 tag .ok (countBytes v)))
    ∧ ((s.port ch).state = .engaged → ch ∉ s.drivenChannels →
      exec (.release tag ch) s
        = .next (State.answered
            (s.setPort ch { s.port ch with state := .standby })
            0x55 tag .ok []))
    ∧ ((s.port ch).state ≠ .engaged → exec (.release tag ch) s = .next (s.answered 0x55 tag .wrongState []))

/-- Acknowledge Channels clears the change flags of the set, keeps the others, and replies the set still flagged. -/
def Obligations.AcknowledgeChannelsResult : Prop :=
  ∀ (tag mask : Nat) (s : State), s.repliesHeld < 2 →
    ∃ t still, exec (.acknowledgeChannels tag mask) s = .next t
      ∧ t.sli = (s.answered 0x56 tag .ok (beBytes 2 still)).sli
      ∧ (∀ ch, ch < 16 → t.port ch
          = { s.port ch with changed := (s.port ch).changed && !mask.testBit ch })
      ∧ (∀ ch, ch < 16 → still.testBit ch = ((s.port ch).changed && !mask.testBit ch)) ∧ still < 65536
      ∧ t.cpc.rigMode = s.cpc.rigMode ∧ t.cpc.rigReady = s.cpc.rigReady ∧ t.cs = s.cs ∧ t.sq = s.sq ∧ t.pe = s.pe
      ∧ t.dcu = s.dcu ∧ t.lm = s.lm ∧ t.mu = s.mu ∧ t.rcu = s.rcu ∧ t.eu = s.eu ∧ t.clock = s.clock ∧ t.pending = s.pending

/-- A servo response: discarded when it does not answer the open window; taken in STANDBY; taken in LINKING, which it ends; taken
of an ENGAGED channel, whose feedback joins the visit statistics while the engine plays a clip that drives it, and is then
evaluated by ENVELOPE and TRACKING; and with OVERLOAD, which faults the channel and trips the engine that needs it. That CHANNEL
is raised once at a fault is read from R117 and R118: log entry 23. -/
def Obligations.ServoResponseResult : Prop :=
  ∀ (ch exchange : Nat) (intact : Bool) (feedback setpoint : Int) (status : ServoStatus) (s : State), ch < 16 →
    ((∀ w, (s.port ch).window = some w → w.answered = true ∨ w.exchange ≠ exchange) ∨ intact = false
        ∨ (s.port ch).state = .off ∨ (s.port ch).state = .fault →
      exec (.servoResponse ch intact exchange feedback setpoint status) s = .next s)
    ∧ (∀ w taken, (s.port ch).window = some w → w.answered = false → w.exchange = exchange →
      taken = { s.port ch with window := some { w with answered := true }, missCount := 0, feedback := some feedback,
                               setpoint := some setpoint } →
      ((s.port ch).state = .standby →
        exec (.servoResponse ch true exchange feedback setpoint .ok) s = .next (s.setPort ch taken))
      ∧ ((s.port ch).state = .linking →
        exec (.servoResponse ch true exchange feedback setpoint .ok) s
          = .next (State.raise
              (s.setPort ch { taken with state := .standby, linkCount := none, changed := true }) .channel none))
      ∧ ((s.port ch).state = .engaged →
        ∃ t, exec (.servoResponse ch true exchange feedback setpoint .ok) s = .next t
          ∧ t.port ch = taken ∧ (∀ j, j ≠ ch → t.port j = s.port j) ∧ (∀ j, j ≠ ch → t.limits j = s.limits j)
          ∧ t.limits ch = { s.limits ch with
              env := if (s.limits ch).config.env.enable then
                  (s.limits ch).env.evaluate (s.limits ch).config.envPersist
                    (decide (feedback < (s.limits ch).config.fMin ∨ (s.limits ch).config.fMax < feedback))
                else (s.limits ch).env
              trk := if (s.limits ch).config.trk.enable then
                  (s.limits ch).trk.evaluate (s.limits ch).config.trkPersist
                    (decide ((s.limits ch).config.eMax
                      < ((s.limits ch).history[(s.limits ch).config.delay + 1]?.getD 0 - feedback).natAbs))
                else (s.limits ch).trk }
          ∧ (∀ (c : Context) (p : PlayContext), s.pe.state = .rampIn ∨ s.pe.state = .running ∨ s.pe.state = .rampOut →
            s.pe.ctx = some c → c.body = .play p → ch ∈ p.chans →
            t.pe.ctx = some { c with body := .play { p with stats := p.stats.map fun st =>
              if st.channel = ch then
                { st with span := match st.span with
                    | none => some (feedback, feedback)
                    | some (peak, valley) => some (max peak feedback, min valley feedback) }
              else st } })
          ∧ (s.pe.state ≠ .paused → ch ∉ s.drivenChannels → t.pe.ctx = s.pe.ctx)
          ∧ t.cpc.rigMode = s.cpc.rigMode ∧ t.cpc.rigReady = s.cpc.rigReady ∧ t.dcu = s.dcu ∧ t.mu = s.mu ∧ t.rcu = s.rcu
          ∧ t.cs.points = s.cs.points ∧ t.cs.freePages = s.cs.freePages ∧ t.clock = s.clock ∧ t.pending = s.pending)
      ∧ (∀ u : State, (s.port ch).state = .linking ∨ (s.port ch).state = .standby ∨ (s.port ch).state = .engaged →
        u = State.raise (s.setPort ch (taken.faulted .overload)) .channel none →
        ((s.pe.state = .rampIn ∨ s.pe.state = .running ∨ s.pe.state = .rampOut → ch ∉ s.drivenChannels) →
          (s.pe.state = .returning → (s.port ch).state ≠ .engaged) →
          exec (.servoResponse ch true exchange feedback setpoint .overload) s = .next u)
        ∧ ((s.pe.state = .rampIn ∨ s.pe.state = .running ∨ s.pe.state = .rampOut) ∧ ch ∈ s.drivenChannels
            ∨ s.pe.state = .returning ∧ (s.port ch).state = .engaged →
          ∃ t, exec (.servoResponse ch true exchange feedback setpoint .overload) s = .next t
            ∧ u.Trips .channelFault (some ch) t)))

/-- LINK_LOST at the third missing record of a channel, which trips the engine that needs the channel, and LINKING_TIMEOUT at the
256th window of a LINKING channel. That each is taken alone is the model's choice (log entry 1); that CHANNEL is raised once at
a fault is read from R117 and R118 (log entry 23). -/
def Obligations.LinkFaultsResult : Prop :=
  ∀ (ch : Nat) (w : Window) (s : State), ch < 16 → (s.port ch).window = some w → w.answered = false →
    (∀ u : State, (s.port ch).state = .standby ∨ (s.port ch).state = .engaged → (s.port ch).missCount = 2 →
      u = State.raise
        (s.setPort ch
            { s.port ch with state := .fault, enable := false, faultCause := some .linkLost, setpoint := none,
                             linkCount := none, missCount := 3, window := none, changed := true })
        .channel none →
      ((s.pe.state = .rampIn ∨ s.pe.state = .running ∨ s.pe.state = .rampOut → ch ∉ s.drivenChannels) →
        (s.pe.state = .returning → (s.port ch).state ≠ .engaged) → exec (.linkLost ch) s = .next u)
      ∧ ((s.pe.state = .rampIn ∨ s.pe.state = .running ∨ s.pe.state = .rampOut) ∧ ch ∈ s.drivenChannels
          ∨ s.pe.state = .returning ∧ (s.port ch).state = .engaged →
        ∃ t, exec (.linkLost ch) s = .next t ∧ u.Trips .channelFault (some ch) t))
    ∧ ((s.port ch).state = .linking → (s.port ch).linkCount = some 255 → ch ∉ s.drivenChannels →
      exec (.linkingTimeout ch) s
        = .next (State.raise
            (s.setPort ch
                { s.port ch with state := .fault, enable := false, faultCause := some .noLink, setpoint := none,
                                 linkCount := none, window := none, changed := true })
            .channel none))

/-- A deassertion of Rig Ready takes the engine to TRIPPED from every state but TRIPPED, where it is recorded only; a
reassertion changes the level alone. That the stop cause goes with a trip from RAMP_OUT only is read from R85 and R95 (log
entry 23); that the edge is taken whatever level is stored is the model's choice (log entry 16). -/
def Obligations.RigReadyResult : Prop :=
  ∀ s : State,
    (s.pe.state ≠ .tripped →
      ∃ t, exec .rigReadyDeasserted s = .next t
        ∧ t.pe = { s.pe with
            state := .tripped, lam := 0, tripCause := some .rigReadyLost, tripChannel := none, target := none,
            stopCause := if s.pe.state = .rampOut then none else s.pe.stopCause,
            lastAction := some { action := .trip, cause := .rigReadyLost, channel := none, stamp := s.pe.counter,
                                 applied := true } }
        ∧ t.cpc = { s.cpc with rigReady := false } ∧ t.cs = s.cs ∧ t.dcu = s.dcu ∧ t.lm = s.lm ∧ t.mu = s.mu ∧ t.rcu = s.rcu
        ∧ t.sq = { s.sq with watch := false } ∧ t.clock = s.clock ∧ t.pending = s.pending
        ∧ (t.cause .trip).detail = some (.trip .rigReadyLost none s.pe.counter)
        ∧ (t.cause .engine).detail = some (.engine s.pe.state .tripped (some .rigReadyLost)))
    ∧ (s.pe.state = .tripped →
      exec .rigReadyDeasserted s
        = .next { s with
            cpc := { s.cpc with rigReady := false },
            pe := { s.pe with lastAction := some { action := .trip, cause := .rigReadyLost, channel := none,
                                                   stamp := s.pe.counter, applied := false } } })
    ∧ exec .rigReadyReasserted s = .next { s with cpc := { s.cpc with rigReady := true } }

/-! ### Limit Monitor -/

/-- Configure Limits replaces the configuration and returns the channel's detectors to CLEAR. An enabled detector fires at the
evaluation that reaches its persistence: ENVELOPE outside its band, TRACKING above its error limit against the command D + 1
places back, CLAMP_RATE while the engine plays a clip that drives the channel, and only then; a firing raises LIMIT and sends the
engine NOTE, PAUSE, STOP or TRIP. That DETECTOR_FIRE is taken alone is log entry 1, and that a trip removes the stop cause from
RAMP_OUT only is log entry 23; both are the model's readings. -/
def Obligations.LimitMonitorResult : Prop :=
  ∀ (ch : Nat) (s : State), ch < 16 →
    (∀ (tag : Nat) (l : LimitFields) (ea ta ca : Action), s.repliesHeld < 2 → l.fMin ≤ l.fMax → l.delay ≤ 14 →
      1 ≤ l.envPersist → l.envPersist ≤ 255 → 1 ≤ l.trkPersist → l.trkPersist ≤ 255 → 1 ≤ l.kc →
      l.envAction = ea.code → l.trkAction = ta.code → l.clampAction = ca.code → l.envEnable < 2 → l.trkEnable < 2 →
      l.clampEnable < 2 →
      exec (.configureLimits tag ch l) s
        = .next (State.answered
            (s.setLimits ch
                { s.limits ch with
                  env := { state := .clear, count := 0 }, trk := { state := .clear, count := 0 },
                  clamp := { state := .clear, count := 0 },
                  config :=
                    { fMin := l.fMin, fMax := l.fMax, eMax := l.eMax, delay := l.delay, envPersist := l.envPersist,
                      trkPersist := l.trkPersist, kc := l.kc, env := { action := ea, enable := l.envEnable == 1 },
                      trk := { action := ta, enable := l.trkEnable == 1 },
                      clamp := { action := ca, enable := l.clampEnable == 1 } } })
            0x60 tag .ok []))
    ∧ (∀ (feedback : Int) (w : Window), (s.port ch).state = .engaged → (s.port ch).window = some w →
      (s.limits ch).config.env = { action := .note, enable := true } → (s.limits ch).config.envPersist = 1 →
      (s.limits ch).env.state = .clear → feedback < (s.limits ch).config.fMin ∨ (s.limits ch).config.fMax < feedback →
      exec (.detectorFire ch .envelope feedback) s
        = .next (State.raise
            (s.setLimits ch { s.limits ch with env := { state := .triggered, count := 1 } })
            .limit (some (.limit { channel := ch, detector := .envelope, action := .note, stamp := w.stamp,
                                   measured := feedback }))))
    ∧ (∀ (feedback : Int) (w : Window) (l : ChannelLimits) (d : Detector) (err : Nat), l = s.limits ch →
      (s.port ch).state = .engaged → (s.port ch).window = some w →
      (l.config.env.enable = true → d = { state := .triggered, count := l.env.count + 1 } →
        l.env.state = .clear ∧ l.env.count = 0 ∧ l.config.envPersist = 1
          ∨ l.env.state = .counting ∧ l.config.envPersist ≤ l.env.count + 1 →
        feedback < l.config.fMin ∨ l.config.fMax < feedback →
        exec (.detectorFire ch .envelope feedback) s
          = .next (State.fireDetector (s.setLimits ch { l with env := d })
              { channel := ch, detector := .envelope, action := l.config.env.action, stamp := w.stamp, measured := feedback }))
      ∧ (l.config.trk.enable = true → d = { state := .triggered, count := l.trk.count + 1 } →
        l.trk.state = .clear ∧ l.trk.count = 0 ∧ l.config.trkPersist = 1
          ∨ l.trk.state = .counting ∧ l.config.trkPersist ≤ l.trk.count + 1 →
        err = (l.history[l.config.delay + 1]?.getD 0 - feedback).natAbs → l.config.eMax < err →
        exec (.detectorFire ch .tracking feedback) s
          = .next (State.fireDetector (s.setLimits ch { l with trk := d })
              { channel := ch, detector := .tracking, action := l.config.trk.action, stamp := w.stamp, measured := err }))
      ∧ (l.config.clamp.enable = true → d = { state := .triggered, count := min 65535 (l.clamp.count + 1) } →
        l.clamp.state ≠ .triggered → l.config.kc ≤ min 65535 (l.clamp.count + 1) → ch ∈ s.drivenChannels →
        s.pe.state = .rampIn ∨ s.pe.state = .running ∨ s.pe.state = .rampOut →
        exec (.detectorFire ch .clampRate feedback) s
          = .next (State.fireDetector (s.setLimits ch { l with clamp := d })
              { channel := ch, detector := .clampRate, action := l.config.clamp.action, stamp := s.pe.counter,
                measured := d.count })))
    ∧ (∀ feedback : Int, s.pe.state = .idle ∨ s.pe.state = .paused ∨ s.pe.state = .tripped ∨ s.pe.state = .returning
        ∨ ch ∉ s.drivenChannels → exec (.detectorFire ch .clampRate feedback) s = .next s)
    ∧ (∀ (r : LimitRecord) (u : State) (last : Bool → LastAction), u = s.raise .limit (some (.limit r)) →
      (∀ applied, last applied = { action := r.action, cause := if r.action = .pause then .limitPause
                                   else if r.action = .stop then .limitStop else .limitTrip,
                                   channel := some r.channel, stamp := s.pe.counter, applied := applied }) →
      (r.action = .note → s.fireDetector r = u)
      ∧ (r.action = .pause →
        (s.pe.state = .rampIn ∨ s.pe.state = .running →
          s.fireDetector r
            = State.raise { u with pe := { s.pe with state := .rampOut, target := some .paused, stopCause := some .limitPause,
                                                     lastAction := some (last true) } }
                .engine (some (.engine s.pe.state .rampOut (some .limitPause))))
        ∧ (s.pe.state ≠ .rampIn → s.pe.state ≠ .running →
          s.fireDetector r = { u with pe := { s.pe with lastAction := some (last false) } }))
      ∧ (r.action = .stop →
        (s.pe.state = .rampIn ∨ s.pe.state = .running →
          s.fireDetector r
            = State.raise { u with pe := { s.pe with state := .rampOut, target := some .idle, stopCause := some .limitStop,
                                                     lastAction := some (last true) } }
                .engine (some (.engine s.pe.state .rampOut (some .limitStop))))
        ∧ (s.pe.state = .rampOut → s.pe.target = some .paused →
          s.fireDetector r = { u with pe := { s.pe with target := some .idle, stopCause := some .limitStop,
                                                        lastAction := some (last true) } })
        ∧ (∀ c e, s.pe.state = .paused → s.pe.ctx = some c → s.cursorEntry = some e →
          (s.fireDetector r).pe = { s.pe with state := .idle, stopCause := some .limitStop, ctx := none,
                                              lastAction := some (last true) }
          ∧ (s.fireDetector r).sq = { s.queueReleased c e with watch := false }
          ∧ (s.fireDetector r).limits ch = s.limits ch ∧ (s.fireDetector r).port ch = s.port ch)
        ∧ (s.pe.state = .idle ∨ s.pe.state = .tripped ∨ s.pe.state = .returning
            ∨ s.pe.state = .rampOut ∧ s.pe.target = some .idle →
          s.fireDetector r = { u with pe := { s.pe with lastAction := some (last false) } }))
      ∧ (r.action = .trip →
        (s.pe.state ≠ .tripped → u.Trips .limitTrip (some r.channel) (s.fireDetector r))
        ∧ (s.pe.state = .tripped → s.fireDetector r = { u with pe := { s.pe with lastAction := some (last false) } })))

/-- The persistence rule: from CLEAR, n over-limit evaluations in a row leave COUNTING with count n below the persistence, and
TRIGGERED with the persistence as count from there on; one in-limit evaluation leaves CLEAR with count 0. -/
def Obligations.PersistenceLaw : Prop :=
  ∀ (p n : Nat), 1 ≤ p → 1 ≤ n →
    (n < p → (fun d : Detector => d.evaluate p true)^[n] { state := .clear, count := 0 } = { state := .counting, count := n })
    ∧ (p ≤ n → (fun d : Detector => d.evaluate p true)^[n] { state := .clear, count := 0 }
        = { state := .triggered, count := p })
    ∧ ((fun d : Detector => d.evaluate p true)^[n] { state := .clear, count := 0 }).evaluate p false
        = { state := .clear, count := 0 }

/-! ### Mark units -/

/-- Configure Mark by mode, Set Mark Output, Read Mark. -/
def Obligations.MarkRequestsResult : Prop :=
  ∀ (tag m : Nat) (s : State), s.repliesHeld < 2 → m < 6 →
    exec (.configureMark tag (.off m)) s
        = .next (State.answered (s.setMark m { s.mark m with mode := .off, counter := 0 }) 0x70 tag .ok [])
    ∧ (∀ (id value triggers : Nat) (o : OutputMode), id < 64 → value ≤ 67108863 → triggers < 8 →
      exec (.configureMark tag (.compare m id value o.code triggers)) s
        = .next (State.answered
            (s.setMark m
                { s.mark m with mode := .compare, selector := some id, compareAt := value, outputMode := o,
                                trigNotify := triggers.testBit 0, trigCapture := triggers.testBit 1,
                                trigCut := triggers.testBit 2, counter := 0 })
            0x70 tag .ok []))
    ∧ (∀ (prescale notify : Nat) (e : EdgeMode), prescale = 1 ∨ prescale = 4 ∨ prescale = 16 → notify < 2 →
      exec (.configureMark tag (.capture m e.code prescale notify)) s
        = .next (State.answered
            (s.setMark m
                { s.mark m with mode := .capture, edge := e, prescale := prescale, captureNotify := notify == 1,
                                counter := 0 })
            0x70 tag .ok []))
    ∧ (∀ level, level < 2 →
      exec (.setMarkOutput tag m level) s
        = .next (State.answered (s.setMark m { s.mark m with output := level == 1 }) 0x71 tag .ok []))
    ∧ (∀ clear, clear < 2 →
      exec (.readMark tag m clear) s
        = .next (State.answered
            (s.setMark m
                { s.mark m with unread := false, overflow := (s.mark m).overflow && clear == 0 })
            0x72 tag .ok (markBytes (s.mark m))))

/-- An edge at a mark input: one that does not qualify moves the level alone; a qualifying edge below the prescale is counted;
one that completes it is captured, with overflow when the old record was unread, and raises MARK when capture notify is set. That
an edge is taken whatever level is stored is the model's choice: log entry 16. -/
def Obligations.MarkInputEdgeResult : Prop :=
  ∀ (m : Nat) (rising : Bool) (s : State), m < 6 →
    ((s.mark m).qualifies rising = false →
      exec (.markInputEdge m rising) s = .next (s.setMark m { s.mark m with input := rising }))
    ∧ ((s.mark m).qualifies rising = true → (s.mark m).counter + 1 < (s.mark m).prescale →
      exec (.markInputEdge m rising) s
        = .next (s.setMark m { s.mark m with input := rising, counter := (s.mark m).counter + 1 }))
    ∧ ((s.mark m).qualifies rising = true → (s.mark m).prescale ≤ (s.mark m).counter + 1 → ∀ u,
      u = { s.mark m with
            input := rising, counter := 0, unread := true, overflow := (s.mark m).overflow || (s.mark m).unread,
            record := some { stamp := s.pe.counter, level := rising, position := s.position } } →
      exec (.markInputEdge m rising) s
        = .next (if (s.mark m).captureNotify then
            State.raiseMark (s.setMark m u) m s.pe.counter
          else (s.setMark m u)))

/-! ### Response Capture Unit -/

/-- Configure Capture, Capture Trigger and Abort Capture. -/
def Obligations.CaptureRequestsResult : Prop :=
  ∀ (tag : Nat) (s : State), s.repliesHeld < 2 →
    (∀ (mask content decimation records rearm : Nat) (chans : List Nat), s.rcu.state ≠ .filling → chans = maskChannels mask →
      chans ≠ [] → content < 2 → rearm < 2 → 1 ≤ decimation → decimation ≤ 16 → 1 ≤ records →
      records * chans.length * (content + 1) ≤ 262144 →
      exec (.configureCapture tag mask content decimation records rearm) s
        = .next (State.answered
            { s with rcu := { s.rcu with
                state := .armed,
                config := some { chans := chans, withCommand := content == 1, decimation := decimation, records := records,
                                 rearm := rearm == 1 } } }
            0x80 tag .ok (beBytes 4 ((records - 1) * decimation + 1))))
    ∧ (∀ c, s.rcu.state = .armed → s.rcu.config = some c → s.rcu.bank0.role = .free →
      exec (.captureTrigger tag) s
        = .next (State.answered
            { s with rcu := { s.rcu with
                state := .filling, bank0 := { role := .filling, words := [] },
                filling := some
                  { sequence := none, kind := .request, unit := none, stamp := none, position := none, chans := c.chans,
                    withCommand := c.withCommand, decimation := c.decimation, records := c.records, taken := 0,
                    missed := false, figures := c.chans.map fun _ => { span := none, absentCount := 0 } } } }
            0x81 tag .ok [0]))
    ∧ (∀ c, s.rcu.state = .armed → s.rcu.config = some c → s.rcu.bank0.role ≠ .free →
      ∃ t, exec (.captureTrigger tag) s = .next t ∧ t.rcu.state = .filling ∧ t.rcu.bank0 = s.rcu.bank0
        ∧ t.rcu.bank1 = { role := .filling, words := [] } ∧ t.rcu.committed = s.rcu.committed
        ∧ t.rcu.config = s.rcu.config ∧ t.rcu.sequence = s.rcu.sequence)
    ∧ (∀ h, s.rcu.state = .filling → s.rcu.filling = some h →
      exec (.captureTrigger tag) s
        = .next (State.answered { s with rcu := { s.rcu with filling := some { h with missed := true } } } 0x81 tag .ok [1]))
    ∧ (s.rcu.state = .unconfigured → exec (.captureTrigger tag) s = .next (s.answered 0x81 tag .wrongState []))
    ∧ (∀ h, s.rcu.state = .filling → s.rcu.filling = some h →
      exec (.abortCapture tag) s
        = .next (State.answered
            (State.raise
              { s with rcu := { s.rcu with
                  state := .armed, filling := none,
                  bank0 := if s.rcu.bank0.role = .filling then { role := .free, words := [] } else s.rcu.bank0,
                  bank1 := if s.rcu.bank1.role = .filling then { role := .free, words := [] } else s.rcu.bank1 } }
              .capture (some (.capture none)))
            0x82 tag .ok (beBytes 4 h.taken)))
    ∧ (s.rcu.state ≠ .filling → exec (.abortCapture tag) s = .next (s.answered 0x82 tag .wrongState []))

/-- The records of a capture. CAPTURE_COMPLETE takes the last record where it is the one due: its words join the filling bank,
which is committed while the other bank comes free; the counter rises, the filling header becomes the committed one under the
new sequence, and the unit re-arms or not; where the next record is not due, as before the first, it changes nothing. At an
update, by capture state: a record that is due is taken with the last feedbacks and the update's commands, a trigger starts a capture whose first record
is the update's, or sets the missed flag. That CAPTURE_COMPLETE is taken alone is the model's choice (log entry 1), and so are
the order of the triggers (log entry 11) and of the blocks (log entry 12). -/
def Obligations.CaptureCompleteResult : Prop :=
  (∀ (h : Header) (c : CaptureConfig) (words : List Int) (s : State), s.rcu.state = .filling → s.rcu.filling = some h →
    s.rcu.config = some c → h.records ≤ h.taken + 1 →
    (s.rcu.bank0.role = .filling ∧ s.rcu.bank1.role ≠ .filling ∨ s.rcu.bank0.role ≠ .filling ∧ s.rcu.bank1.role = .filling) →
    words = h.chans.flatMap (fun ch =>
      (s.port ch).feedback.getD 0 :: (if h.withCommand then [(s.drive ch).lastOutput] else [])) →
    ((∀ t0, h.stamp = some t0 → (s.pe.counter + 281474976710656 - t0) % 281474976710656 ≠ h.taken * h.decimation) →
      exec .captureComplete s = .next s)
    ∧ ((∃ t0, h.stamp = some t0 ∧ (s.pe.counter + 281474976710656 - t0) % 281474976710656 = h.taken * h.decimation) →
      ∃ t h', exec .captureComplete s = .next t
        ∧ t.rcu.sequence = (s.rcu.sequence + 1) % 4294967296 ∧ t.rcu.filling = none ∧ t.rcu.committed = some h'
        ∧ h' = { h.recorded s s.pe.counter s.position with sequence := some ((s.rcu.sequence + 1) % 4294967296) }
        ∧ t.rcu.state = (if c.rearm then .armed else .unconfigured) ∧ t.rcu.config = some c
        ∧ t.rcu.bank0 = (if s.rcu.bank0.role = .filling then { role := .committed, words := s.rcu.bank0.words ++ words }
            else { role := .free, words := [] })
        ∧ t.rcu.bank1 = (if s.rcu.bank1.role = .filling then { role := .committed, words := s.rcu.bank1.words ++ words }
            else { role := .free, words := [] })
        ∧ (t.cause .capture).detail = some (.capture (some ((s.rcu.sequence + 1) % 4294967296)))
        ∧ t.cs = s.cs ∧ t.sq = s.sq ∧ t.pe = s.pe ∧ t.dcu = s.dcu ∧ t.cpc = s.cpc ∧ t.lm = s.lm ∧ t.mu = s.mu
        ∧ t.clock = s.clock ∧ t.pending = s.pending))
  ∧ (∀ (i : Instr) (at' stamp : Nat) (s : State), raisesUpdate i s at' → stamp = (s.pe.counter + 1) % 281474976710656 →
    ∃ t, exec i s = .next t
      ∧ (s.rcu.state = .unconfigured ∨ s.rcu.state = .armed ∧ s.captureTriggers = 0 → t.rcu = s.rcu)
      ∧ (∀ c : CaptureConfig, s.rcu.state = .armed → s.rcu.config = some c → s.rcu.bank0.role ≠ .filling → 2 ≤ c.records →
        0 < s.captureTriggers →
        ∃ kind unit h, (kind = .segmentStart ∧ unit = none ∧ s.pe.ctx.any (·.captureDue)
            ∨ kind = .mark ∧ unit = (s.marksHit.filter fun m => (s.mark m).trigCapture).head? ∧ unit.isSome)
          ∧ h = { sequence := none, kind := kind, unit := unit, stamp := none, position := none, chans := c.chans,
                  withCommand := c.withCommand, decimation := c.decimation, records := c.records, taken := 0,
                  missed := decide (1 < s.captureTriggers), figures := c.chans.map fun _ => { span := none, absentCount := 0 } }
          ∧ t.rcu = { s.rcu with
              state := .filling, filling := some (h.recorded s stamp s.position),
              bank0 := if s.rcu.bank0.role = .free then { role := .filling, words := t.wordsOf h } else s.rcu.bank0,
              bank1 := if s.rcu.bank0.role = .free then s.rcu.bank1 else { role := .filling, words := t.wordsOf h } })
      ∧ (∀ (h : Header) (missed : Bool), s.rcu.state = .filling → s.rcu.filling = some h →
        missed = (h.missed || decide (0 < s.captureTriggers)) →
        (s.rcu.bank0.role = .filling ∧ s.rcu.bank1.role ≠ .filling
          ∨ s.rcu.bank0.role ≠ .filling ∧ s.rcu.bank1.role = .filling) →
        ((∃ t0, h.stamp = some t0 ∧ (stamp + 281474976710656 - t0) % 281474976710656 % h.decimation ≠ 0) →
          t.rcu = { s.rcu with filling := some { h with missed := missed } })
        ∧ ((∀ t0, h.stamp = some t0 → (stamp + 281474976710656 - t0) % 281474976710656 % h.decimation = 0) →
          h.taken + 1 < h.records →
          t.rcu = { s.rcu with
            filling := some { h.recorded s stamp s.position with missed := missed },
            bank0 := s.rcu.bank0.joined (t.wordsOf h), bank1 := s.rcu.bank1.joined (t.wordsOf h) })
        ∧ (∀ c, s.rcu.config = some c → s.captureTriggers = 0 → h.records ≤ h.taken + 1 →
          (∀ t0, h.stamp = some t0 → (stamp + 281474976710656 - t0) % 281474976710656 % h.decimation = 0) →
          t.rcu = { s.rcu with
            state := if c.rearm then .armed else .unconfigured, filling := none,
            sequence := (s.rcu.sequence + 1) % 4294967296,
            committed := some { h.recorded s stamp s.position with sequence := some ((s.rcu.sequence + 1) % 4294967296) },
            bank0 := if s.rcu.bank0.role = .filling then { role := .committed, words := s.rcu.bank0.words ++ t.wordsOf h }
              else { role := .free, words := [] },
            bank1 := if s.rcu.bank1.role = .filling then { role := .committed, words := s.rcu.bank1.words ++ t.wordsOf h }
              else { role := .free, words := [] } }
          ∧ (t.cause .capture).detail = some (.capture (some ((s.rcu.sequence + 1) % 4294967296))))))

/-! ### Event Unit -/

/-- A raising: the count rises and is held at 255, the detail is replaced, the enable and the other causes stay, and a notice is
placed exactly when an enabled cause goes from 0 to 1. -/
def Obligations.RaiseResult : Prop :=
  ∀ (c : Cause) (d : Option Detail) (s : State),
    (s.raise c d).cause c = { count := min 255 ((s.cause c).count + 1), enable := (s.cause c).enable, detail := d }
    ∧ (∀ c', c' ≠ c → (s.raise c d).cause c' = s.cause c')
    ∧ (s.raise c d).eu.markSet = s.eu.markSet
    ∧ ((s.cause c).count = 0 → (s.cause c).enable = true → (s.raise c d).sli = (s.placeNotice c 1).sli)
    ∧ ((s.cause c).count ≠ 0 ∨ (s.cause c).enable = false → (s.raise c d).sli = s.sli)
    ∧ (s.raise c d).cs = s.cs ∧ (s.raise c d).sq = s.sq ∧ (s.raise c d).pe = s.pe ∧ (s.raise c d).dcu = s.dcu
    ∧ (s.raise c d).cpc = s.cpc ∧ (s.raise c d).lm = s.lm ∧ (s.raise c d).mu = s.mu ∧ (s.raise c d).rcu = s.rcu

/-- Enable Events sets and clears every enable together and keeps counts and details; each pending cause that it newly enables
has its notice placed with its count, in priority order and before the reply, which carries the enables and the nine counts; a
mask beyond the nine causes is refused. -/
def Obligations.EnableEventsResult : Prop :=
  ∀ (tag mask : Nat) (s : State) (causes : List Cause), s.repliesHeld < 2 →
    causes = [.trip, .channel, .limit, .engine, .segment, .advance, .mark, .capture, .clip] →
    (mask < 512 →
      ∃ t, exec (.enableEvents tag mask) s = .next t
        ∧ (∀ c : Cause, t.cause c = { s.cause c with enable := mask.testBit c.index })
        ∧ t.eu.markSet = s.eu.markSet ∧ t.cs = s.cs ∧ t.sq = s.sq ∧ t.pe = s.pe ∧ t.dcu = s.dcu ∧ t.cpc = s.cpc ∧ t.lm = s.lm
        ∧ t.mu = s.mu ∧ t.rcu = s.rcu ∧ t.clock = s.clock ∧ t.pending = s.pending
        ∧ (∀ noticed : List Cause,
            noticed = causes.filter (fun c => !(s.cause c).enable && mask.testBit c.index && decide (0 < (s.cause c).count)) →
            t.sli = (State.answered (noticed.foldl (fun u c => u.placeNotice c (s.cause c).count) s) 0x90 tag .ok
              (beBytes 2 mask ++ causes.flatMap fun c => beBytes 1 (s.cause c).count)).sli))
    ∧ (512 ≤ mask → exec (.enableEvents tag mask) s = .next (s.answered 0x90 tag .invalidValue []))

/-- Take Event serves the pending cause of highest priority and clears it; with none pending it replies NONE. -/
def Obligations.TakeEventResult : Prop :=
  ∀ (tag : Nat) (s : State), s.repliesHeld < 2 →
    ((∀ c : Cause, (s.cause c).count = 0) → exec (.takeEvent tag) s = .next (s.answered 0x91 tag .ok [0, 0, 0, 0]))
    ∧ (∀ c : Cause, 0 < (s.cause c).count → (∀ c' : Cause, c'.index < c.index → (s.cause c').count = 0) →
      ∃ t, exec (.takeEvent tag) s = .next t
        ∧ t.cause c = { count := 0, enable := (s.cause c).enable, detail := none }
        ∧ (∀ c', c' ≠ c → t.cause c' = s.cause c')
        ∧ t.eu.markSet = (if c = .mark then 0 else s.eu.markSet)
        ∧ t.sli = (s.answered 0x91 tag .ok
            (beBytes 1 c.code ++ beBytes 1 (s.cause c).count ++ beBytes 2 t.pendingMask ++ s.detailBytes c)).sli
        ∧ t.cs = s.cs ∧ t.sq = s.sq ∧ t.pe = s.pe ∧ t.dcu = s.dcu ∧ t.cpc = s.cpc ∧ t.lm = s.lm ∧ t.mu = s.mu
        ∧ t.rcu = s.rcu ∧ t.clock = s.clock ∧ t.pending = s.pending)

/-! ### Supervisory Link Interface -/

/-- Set Supervision, Query Status with clearing, and a request whose code names none. -/
def Obligations.LinkRequestsResult : Prop :=
  ∀ (tag : Nat) (s : State), s.repliesHeld < 2 →
    exec (.setSupervision tag 0) s
        = .next (State.answered { s with sli := { s.sli with interval := 0, timerSince := none } } 0xA0 tag .ok [0, 0])
    ∧ (∀ interval, 10 ≤ interval → interval ≤ 60000 → interval % 10 = 0 →
      exec (.setSupervision tag interval) s
        = .next (State.answered { s with sli := { s.sli with interval := interval, timerSince := some s.clock } }
            0xA0 tag .ok (beBytes 2 interval)))
    ∧ (∀ interval, interval ≠ 0 → interval < 10 ∨ 60000 < interval ∨ interval % 10 ≠ 0 →
      exec (.setSupervision tag interval) s = .next (s.answered 0xA0 tag .invalidValue []))
    ∧ exec (.queryStatus tag 1) s
        = .next (State.answered
            { s with sli := { s.sli with
                counters := { lengthErrors := 0, overlong := 0, crcErrors := 0, kindErrors := 0, busyAnswers := 0 } } }
            0xA2 tag .ok (statusBytes s))
    ∧ (∀ code, code ∉ knownCodes →
      exec (.unknownRequest code tag) s = .next (s.answered code tag .unknownRequest []))

/-- The judgement of an arriving frame, after a frame in progress that has become overlong is counted: length, CRC and kind errors
discard it and are counted; a valid request restarts the timer and is taken at once when nothing waits, joins the buffer while
both reply places are held, or is answered BUSY_LINK when the buffer is full. The elapsed time and the overlong frame's place are
log entry 2; that the leaving reply is no waiting BUSY_LINK is log entry 14. -/
def Obligations.RequestArrivalResult : Prop :=
  ∀ (kind code tag crc at' : Nat) (payload : List Byte) (k : LinkCounters) (s : State),
    k = (if s.sli.receiver.frameStart.any (fun start => decide (start + 65536000 ≤ max s.clock at')) then
        { s.sli.counters with overlong := min 65535 (s.sli.counters.overlong + 1) }
      else s.sli.counters) →
    (1024 < payload.length →
      exec (.requestArrival kind code tag payload crc at') s
        = .next { s with clock := max s.clock at', sli := { s.sli with
            receiver := .hunt, counters := { k with lengthErrors := min 65535 (k.lengthErrors + 1) } } })
    ∧ (payload.length ≤ 1024 → crc ≠ crc16 (coveredBytes kind code tag payload) →
      exec (.requestArrival kind code tag payload crc at') s
        = .next { s with clock := max s.clock at', sli := { s.sli with
            receiver := .hunt, counters := { k with crcErrors := min 65535 (k.crcErrors + 1) } } })
    ∧ (payload.length ≤ 1024 → crc = crc16 (coveredBytes kind code tag payload) → kind ≠ 1 →
      exec (.requestArrival kind code tag payload crc at') s
        = .next { s with clock := max s.clock at', sli := { s.sli with
            receiver := .hunt, counters := { k with kindErrors := min 65535 (k.kindErrors + 1) } } })
    ∧ (∀ timer, payload.length ≤ 1024 → crc = crc16 (coveredBytes kind code tag payload) → kind = 1 →
      timer = (if s.sli.interval = 0 then s.sli.timerSince else some (max s.clock at')) →
      (s.sli.buffer = [] → s.repliesHeld < 2 →
        exec (.requestArrival kind code tag payload crc at') s
          = .next (State.takeFrame
              { s with clock := max s.clock at', sli := { s.sli with receiver := .hunt, timerSince := timer, counters := k } }
              { code := code, tag := tag, payload := payload }))
      ∧ (s.sli.buffer.length < 8 → s.repliesHeld = 2 →
        exec (.requestArrival kind code tag payload crc at') s
          = .next { s with clock := max s.clock at', sli := { s.sli with
              receiver := .hunt, timerSince := timer, counters := k,
              buffer := s.sli.buffer ++ [{ code := code, tag := tag, payload := payload }] } })
      ∧ (s.sli.buffer.length = 8 → s.repliesHeld = 2 → ∀ t : State,
        t = { s with clock := max s.clock at', sli := { s.sli with
              receiver := .hunt, timerSince := timer,
              counters := { k with busyAnswers := min 65535 (k.busyAnswers + 1) } } } →
        exec (.requestArrival kind code tag payload crc at') s
          = .next (if s.busyWaiting < 8 then t.placeFrame { cls := .busy, code := code, tag := tag, payload := [0x13] } else t)))

/-- The other events of the line: an overlong frame; a frame sent, with the oldest request taken when that frees a reply place;
the expiry of the supervision timer, by engine state; and a byte taken in HUNT and SYNC. The rows' moments and the elapsed time
are log entry 2. -/
def Obligations.LinkEventsResult : Prop :=
  ∀ (at' : Nat) (s : State),
    (∀ start, s.sli.receiver.frameStart = some start → start + 65536000 ≤ max s.clock at' →
      exec (.overlongFrame at') s
        = .next { s with clock := max s.clock at', sli := { s.sli with
            receiver := .hunt,
            counters := { s.sli.counters with overlong := min 65535 (s.sli.counters.overlong + 1) } } })
    ∧ (∀ f g rest, s.sli.leaving = some f → s.sli.waiting = g :: rest → s.sli.buffer = [] →
      exec .frameSent s = .next { s with sli := { s.sli with leaving := some g, waiting := rest } })
    ∧ (∀ f, s.sli.leaving = some f → s.sli.waiting = [] → s.sli.buffer = [] →
      exec .frameSent s = .next { s with sli := { s.sli with leaving := none } })
    ∧ (∀ f r rest, s.sli.leaving = some f → s.sli.buffer = r :: rest → s.repliesHeld = 2 → ∀ u : State,
      u = { s with sli := { s.sli with leaving := s.sli.waiting.head?, waiting := s.sli.waiting.tail } } →
      (f.cls = .reply → exec .frameSent s = .next (State.takeFrame { u with sli := { u.sli with buffer := rest } } r))
      ∧ (f.cls ≠ .reply → exec .frameSent s = .next u))
    ∧ (∀ since, s.sli.interval ≠ 0 → s.sli.timerSince = some since →
      since + s.sli.interval * 3276800 ≤ max s.clock at' →
      s.pe.state = .idle ∨ s.pe.state = .tripped ∨ s.pe.state = .returning
        ∨ s.pe.state = .rampOut ∧ (s.pe.target = some .idle ∨ s.pe.target = some .paused) →
      exec (.supervisionExpiry at') s
        = .next { s with
            clock := max s.clock at', sli := { s.sli with timerSince := some (max s.clock at') },
            pe := { s.pe with
              target := if s.pe.state = .rampOut ∧ s.pe.target = some .paused then some .idle else s.pe.target,
              stopCause := if s.pe.state = .rampOut ∧ s.pe.target = some .paused then some .supervision else s.pe.stopCause,
              lastAction := some { action := .stop, cause := .supervision, channel := none, stamp := s.pe.counter,
                                   applied := decide (s.pe.state = .rampOut ∧ s.pe.target = some .paused) } } })
    ∧ (∀ since, s.sli.interval ≠ 0 → s.sli.timerSince = some since →
      since + s.sli.interval * 3276800 ≤ max s.clock at' → s.pe.state = .rampIn ∨ s.pe.state = .running →
      ∃ t, exec (.supervisionExpiry at') s = .next t
        ∧ t.pe = { s.pe with
            state := .rampOut, target := some .idle, stopCause := some .supervision,
            lastAction := some { action := .stop, cause := .supervision, channel := none, stamp := s.pe.counter,
                                 applied := true } }
        ∧ t.sli.timerSince = some (max s.clock at') ∧ t.clock = max s.clock at'
        ∧ t.cs = s.cs ∧ t.sq = s.sq ∧ t.dcu = s.dcu ∧ t.cpc = s.cpc ∧ t.lm = s.lm ∧ t.mu = s.mu ∧ t.rcu = s.rcu
        ∧ t.pending = s.pending)
    ∧ (∀ b : Byte, s.sli.receiver = .hunt →
      exec (.receivedByte b at') s
        = .next { s with clock := max s.clock at', sli := { s.sli with
            receiver := if b = 0x5A#8 then .sync (max s.clock at') else .hunt } })
    ∧ (∀ (b : Byte) (start : Nat), s.sli.receiver = .sync start →
      exec (.receivedByte b at') s
        = .next { s with clock := max s.clock at', sli := { s.sli with
            receiver := if b = 0xC3#8 then .header start [] else if b = 0x5A#8 then .sync (max s.clock at') else .hunt } })

/-! ### Updates -/

/-- What every update does to the counter, the ports, the windows and the mark units, and what it leaves alone: each window closes,
a missing record is counted and may fault its channel, and a record with the update's command goes to every live link; each unit
in COMPARE moves its output and raises MARK as its tables and triggers say. And when UPDATE, a sync edge and a sync loss are an
update. The order of the blocks and of the units is log entries 11 and 12, the trip before the loss's update log entry 13, the
moments and the elapsed time log entry 2, UPDATE's own spacing log entry 20, the first edge log entry 22. -/
def Obligations.UpdateResult : Prop :=
  ∀ (at' : Nat) (s : State),
    (∀ i : Instr, raisesUpdate i s at' → ∃ t, exec i s = .next t
      ∧ t.pe.counter = (s.pe.counter + 1) % 281474976710656 ∧ t.pe.rate = s.pe.rate ∧ t.pe.source = s.pe.source
      ∧ t.pe.ri = s.pe.ri ∧ t.pe.ro = s.pe.ro ∧ t.cpc.rigMode = s.cpc.rigMode ∧ t.cpc.rigReady = s.cpc.rigReady
      ∧ t.cs.points = s.cs.points ∧ t.cs.freePages = s.cs.freePages ∧ t.cs.order = s.cs.order
      ∧ t.clock = max s.clock at' ∧ t.pending = s.pending
      ∧ (∀ (ch stamp : Nat) (p : Port) (command : Int), ch < 16 → p = s.port ch →
        stamp = (s.pe.counter + 1) % 281474976710656 → command = (t.drive ch).lastOutput →
        ((∀ w, p.window = some w → w.answered = true) → t.port ch = p.recordSent stamp command)
        ∧ (∀ w, p.window = some w → w.answered = false →
          (p.state = .linking → p.linkCount.getD 0 + 1 < 256 →
            t.port ch = Port.recordSent { p with linkCount := some (p.linkCount.getD 0 + 1) } stamp command)
          ∧ (p.state = .linking → 256 ≤ p.linkCount.getD 0 + 1 → t.port ch = { p.faulted .noLink with window := none })
          ∧ (p.state = .standby ∨ p.state = .engaged → p.missCount < 2 →
            t.port ch = Port.recordSent { p with missCount := p.missCount + 1 } stamp command)
          ∧ (p.state = .standby ∨ p.state = .engaged → 2 ≤ p.missCount →
            t.port ch = { p.faulted .linkLost with missCount := p.missCount + 1, window := none })
          ∧ (p.state = .off ∨ p.state = .fault → t.port ch = { p with window := none })))
      ∧ (∀ m level, m < 6 →
        level = levelTable (s.mark m).outputMode (decide (m ∈ s.marksStarted)) (decide (m ∈ s.marksHit)) (s.mark m).output →
        t.mark m = { s.mark m with output := level })
      ∧ (∀ raised, raised = s.marksHit.filter (fun m => (s.mark m).trigNotify) →
        t.eu.markSet = raised.foldl (fun set m => set ||| BitVec.ofNat 6 (2 ^ m)) s.eu.markSet
        ∧ t.cause .mark = (match raised.getLast? with
          | none => s.cause .mark
          | some m => { s.cause .mark with
              count := min 255 ((s.cause .mark).count + raised.length),
              detail := some (.mark m ((s.pe.counter + 1) % 281474976710656)) })))
    ∧ (s.pe.source = .internal → exec (.syncEdge at') s = .next { s with clock := max s.clock at' })
    ∧ (s.pe.source = .externalSync → exec (.update at') s = .next { s with clock := max s.clock at' })
    ∧ (∀ last, s.pe.source = .externalSync → s.pe.lastUpdateAt = some last →
      (max s.clock at' - s.pe.syncWatchFrom) * s.pe.rate < 2 * 3276800000 →
      (max s.clock at' - last) * 2 * s.pe.rate < 3276800000 →
      exec (.syncEdge at') s = .next { s with clock := max s.clock at' })
    ∧ (s.pe.source = .externalSync → 2 * 3276800000 ≤ (max s.clock at' - s.pe.syncWatchFrom) * s.pe.rate →
      exec (.syncEdge at') s = exec (.syncLoss at') s)
    ∧ (s.pe.source = .internal ∨ (max s.clock at' - s.pe.syncWatchFrom) * s.pe.rate < 2 * 3276800000 →
      exec (.syncLoss at') s = .next { s with clock := max s.clock at' })
    ∧ (s.pe.source = .externalSync → 2 * 3276800000 ≤ (max s.clock at' - s.pe.syncWatchFrom) * s.pe.rate →
      ∃ t, exec (.syncLoss at') s = .next t
        ∧ t.pe.source = .internal ∧ t.pe.rate = s.pe.rate ∧ t.pe.state = .tripped ∧ t.pe.lam = (if s.pe.state = .tripped then s.pe.lam else 0)
        ∧ t.pe.counter = (s.pe.counter + 1) % 281474976710656 ∧ t.dcu = s.dcu
        ∧ t.cs.points = s.cs.points ∧ t.clock = max s.clock at' ∧ t.pending = s.pending)

/-- The commands of an update. TRIPPED holds every one; IDLE, PAUSED, RETURN and a DWELL move every ENGAGED channel at most its
slew limit toward its clamped offset, and RETURN goes to IDLE when every ENGAGED channel is there; while the engine plays a clip,
an ENGAGED channel of the clip gets the command of the six stages at the λ of this update, the other ENGAGED channels rest, and
the visit statistics count the clamped and limited indications. A channel ENGAGED when the update ends has its command in the
newest place of its command history, every other place one older; every other channel's history stands. Where no pass ends, the
position advances by one. The order of the blocks within an update is log entry 12; that a channel which faults at the update keeps
the command computed is log entry 8. -/
def Obligations.UpdateCommandsResult : Prop :=
  ∀ (i : Instr) (at' stamp : Nat) (s : State), raisesUpdate i s at' → stamp = (s.pe.counter + 1) % 281474976710656 →
    ∃ t, exec i s = .next t
    ∧ (s.pe.state = .tripped → t.dcu = s.dcu ∧ t.pe.state = .tripped ∧ t.pe.ctx = s.pe.ctx ∧ t.pe.lam = s.pe.lam)
    ∧ (∀ ch, ch < 16 →
        ((t.port ch).state = .engaged →
          (t.limits ch).history.toList = (t.drive ch).lastOutput :: (s.limits ch).history.toList.take 15)
        ∧ ((t.port ch).state ≠ .engaged → (t.limits ch).history = (s.limits ch).history))
    ∧ (s.pe.state = .idle ∨ s.pe.state = .paused ∨ s.pe.state = .returning
          ∨ (s.pe.state ≠ .tripped ∧ ∃ c e, s.pe.ctx = some c ∧ c.body = .dwell e) →
      ∀ ch, ch < 16 →
        t.drive ch
          = if (s.port ch).state = .engaged then { s.drive ch with lastOutput := (driveResult (s.drive ch) false 0).command }
            else s.drive ch)
    ∧ (s.pe.state = .returning → (∀ ch w, ch < 16 → (s.port ch).window = some w → w.answered = true) →
      ((∀ ch, ch < 16 → (s.port ch).state = .engaged →
          (driveResult (s.drive ch) false 0).command = (driveResult (s.drive ch) false 0).target) →
        t.pe.state = .idle ∧ (t.cause .engine).detail = some (.engine .returning .idle none) ∧ t.sq.watch = false)
      ∧ ((∃ ch, ch < 16 ∧ (s.port ch).state = .engaged
          ∧ (driveResult (s.drive ch) false 0).command ≠ (driveResult (s.drive ch) false 0).target) →
        t.pe.state = .returning ∧ t.cause .engine = s.cause .engine ∧ t.sq = s.sq))
    ∧ (∀ (lam : Nat) (c : Context) (p : PlayContext) (result : Nat → Nat → DriveResult), s.pe.ctx = some c → c.body = .play p →
      (s.pe.state = .rampIn ∧ lam = min 65536 (s.pe.lam + (65536 + (s.pe.ri - 1)) / s.pe.ri)
        ∨ s.pe.state = .running ∧ lam = s.pe.lam
        ∨ s.pe.state = .rampOut ∧ lam = s.pe.lam - (65536 + (s.pe.ro - 1)) / s.pe.ro) →
      (∀ ch j, result ch j = driveResult (s.drive ch) true
        (dynamicPart (interpolate (s.contextPoints p j).1 (s.contextPoints p j).2 (p.u % p.upsample) p.upsample)
          (((s.gainSet p.gainSet).active[ch]?.getD 0) * lam / 65536))) →
      (∀ ch, ch < 16 →
        ((s.port ch).state ≠ .engaged → t.drive ch = s.drive ch)
        ∧ ((s.port ch).state = .engaged → ch ∉ p.chans →
          t.drive ch = { s.drive ch with lastOutput := (driveResult (s.drive ch) false 0).command })
        ∧ (∀ j, (s.port ch).state = .engaged → p.chans.idxOf? ch = some j →
          t.drive ch = { s.drive ch with lastOutput := (result ch j).command }))
      ∧ (p.u + 1 < p.count * p.upsample → (s.pe.state = .rampOut → 0 < lam) →
        (∀ ch, ch < 16 → (s.limits ch).config.clamp.action ≠ .trip) →
        ∃ c', t.pe.ctx = some c'
          ∧ c' = { c with
              firstUpdate := some (c.firstUpdate.getD stamp), lastUpdate := some stamp, captureDue := false, cut := c'.cut,
              body := .play { p with
                u := p.u + 1,
                stats := p.stats.map fun st => match p.chans.idxOf? st.channel with
                  | none => st
                  | some j =>
                    if (s.port st.channel).state = .engaged then
                      { st with
                        clamped := if (result st.channel j).clamped then min 4294967295 (st.clamped + 1) else st.clamped,
                        limited := if (result st.channel j).limited then min 4294967295 (st.limited + 1) else st.limited }
                    else st } }
          ∧ ((∀ ch, ch < 16 → (s.limits ch).config.clamp.enable = true → (s.limits ch).config.clamp.action = .note) →
            c'.cut = (c.cut || decide (s.pe.state ≠ .rampOut ∧ ∃ m ∈ s.marksHit, (s.mark m).trigCut = true)))
          ∧ t.sq.entries = s.sq.entries.modify s.sq.cursor fun e => e.mapRuntime fun r =>
              if c.firstUpdate.isSome then r else { r with firstStamp := some (r.firstStamp.getD stamp) }))
    ∧ (∀ (c : Context) (elapsed : Nat) (f : DwellFields) (r : Runtime), s.pe.ctx = some c → c.body = .dwell elapsed →
      s.cursorEntry = some { tag := c.tag, body := .dwell f r } → elapsed + 1 < f.length →
      s.pe.state = .rampIn ∨ s.pe.state = .running
        ∨ s.pe.state = .rampOut ∧ (65536 + (s.pe.ro - 1)) / s.pe.ro < s.pe.lam →
      t.pe.ctx = some { c with
        firstUpdate := some (c.firstUpdate.getD stamp), lastUpdate := some stamp, captureDue := false,
        body := .dwell (elapsed + 1) })

/-! ### The line's encoding -/

/-- What the judgement of a request's code, length and fields reads from the request's own code and payload is the request,
for every well-formed request: no field of a payload is dropped. -/
def Obligations.RequestEncodingRoundTrip : Prop :=
  ∀ r : Request, r.wf = true → parseRequest (requestCode r) (requestPayload r) = .request r

/-- The receiver, fed the bytes of a frame one by one from HUNT, does what the arrival of that frame does: for every kind, code,
tag, payload and carried CRC. -/
def Obligations.ReceiverRefinesArrival : Prop :=
  ∀ (kind code tag crc at' : Nat) (payload : List Byte) (s : State), kind < 256 → code < 256 → tag < 65536 → crc < 65536 →
    payload.length ≤ 1024 → s.sli.receiver = .hunt →
    s.received ([0x5A, 0xC3] ++ coveredBytes kind code tag payload ++ beBytes 2 crc) at'
      = exec (.requestArrival kind code tag payload crc at') s

/-! ### Laws that every step keeps -/

/-- The state after reset keeps every law. -/
def Obligations.ResetStateIsLawful : Prop :=
  State.reset.PointsCanonical ∧ State.reset.PagesPartitioned ∧ State.reset.RefsLawful ∧ State.reset.QueueLawful
    ∧ State.reset.RampLawful ∧ State.reset.LocalNotEngaged ∧ State.reset.CountsBounded ∧ State.reset.LinkLawful
    ∧ State.reset.SupervisionLawful ∧ State.reset.CaptureLawful ∧ State.reset.ScheduleLawful

/-- Every step keeps point memory in its canonical form (log entry 4). -/
def Obligations.StepKeepsPointMemoryCanonical : Prop :=
  ∀ s t : State, s.PointsCanonical → step s = .next t → t.PointsCanonical

/-- Every step keeps each page in exactly one place and the lists ascending. -/
def Obligations.StepKeepsPagesPartitioned : Prop :=
  ∀ s t : State, s.PagesPartitioned → step s = .next t → t.PagesPartitioned

/-- Every step keeps each reference count equal to what names the clip. -/
def Obligations.StepKeepsReferenceCounts : Prop :=
  ∀ s t : State, s.RefsLawful → step s = .next t → t.RefsLawful

/-- Every step keeps the queue's and the done ring's laws, and the laws that tie cursor, loop stack and context to the entries. -/
def Obligations.StepKeepsQueueLawful : Prop :=
  (∀ s t : State, s.QueueLawful → step s = .next t → t.QueueLawful)
    ∧ (∀ s t : State, s.ScheduleLawful → step s = .next t → t.ScheduleLawful)

/-- Every step keeps λ's law. -/
def Obligations.StepKeepsRampLaw : Prop :=
  ∀ s t : State, s.RampLawful → step s = .next t → t.RampLawful

/-- Every step keeps every channel whose owner is LOCAL out of ENGAGED. -/
def Obligations.StepKeepsLocalNotEngaged : Prop :=
  ∀ s t : State, s.LocalNotEngaged → step s = .next t → t.LocalNotEngaged

/-- Every step keeps every occurrence count at 255 or less, and the supervision timer running exactly while the interval is not
0. -/
def Obligations.StepKeepsCountsAndSupervision : Prop :=
  (∀ s t : State, s.CountsBounded → step s = .next t → t.CountsBounded)
    ∧ (∀ s t : State, s.SupervisionLawful → step s = .next t → t.SupervisionLawful)

/-- Every step keeps the bounds of the request buffer, the reply places and the transmit queue, and lets no request wait while a
reply place is free. -/
def Obligations.StepKeepsLinkLawful : Prop :=
  ∀ s t : State, s.LinkLawful → step s = .next t → t.LinkLawful

/-- Every step keeps the capture banks in step with the headers, and no bank beyond its words. -/
def Obligations.StepKeepsCaptureLawful : Prop :=
  ∀ s t : State, s.CaptureLawful → step s = .next t → t.CaptureLawful
end

