-- ==== Sys2Proof/Laws/State.lean ====
section
/-! SUPPORT. The named record updates of `State`: one lemma per field per update, and what an accessor reads after an update of
its own kind. -/

namespace Sys2Proof.Machine

open Sys2Proof

variable (s : State)

@[simp] theorem State.tick_cs (at' : Nat) : (s.tick at').cs = s.cs := rfl
@[simp] theorem State.tick_sq (at' : Nat) : (s.tick at').sq = s.sq := rfl
@[simp] theorem State.tick_pe (at' : Nat) : (s.tick at').pe = s.pe := rfl
@[simp] theorem State.tick_dcu (at' : Nat) : (s.tick at').dcu = s.dcu := rfl
@[simp] theorem State.tick_cpc (at' : Nat) : (s.tick at').cpc = s.cpc := rfl
@[simp] theorem State.tick_lm (at' : Nat) : (s.tick at').lm = s.lm := rfl
@[simp] theorem State.tick_mu (at' : Nat) : (s.tick at').mu = s.mu := rfl
@[simp] theorem State.tick_rcu (at' : Nat) : (s.tick at').rcu = s.rcu := rfl
@[simp] theorem State.tick_eu (at' : Nat) : (s.tick at').eu = s.eu := rfl
@[simp] theorem State.tick_sli (at' : Nat) : (s.tick at').sli = s.sli := rfl
@[simp] theorem State.tick_clock (at' : Nat) : (s.tick at').clock = max s.clock at' := rfl
@[simp] theorem State.tick_pending (at' : Nat) : (s.tick at').pending = s.pending := rfl

@[simp] theorem State.setClip_cs (id : Nat) (c : Clip) : (s.setClip id c).cs = { s.cs with clips := s.cs.clips.setIfInBounds id c } := rfl
@[simp] theorem State.setClip_sq (id : Nat) (c : Clip) : (s.setClip id c).sq = s.sq := rfl
@[simp] theorem State.setClip_pe (id : Nat) (c : Clip) : (s.setClip id c).pe = s.pe := rfl
@[simp] theorem State.setClip_dcu (id : Nat) (c : Clip) : (s.setClip id c).dcu = s.dcu := rfl
@[simp] theorem State.setClip_cpc (id : Nat) (c : Clip) : (s.setClip id c).cpc = s.cpc := rfl
@[simp] theorem State.setClip_lm (id : Nat) (c : Clip) : (s.setClip id c).lm = s.lm := rfl
@[simp] theorem State.setClip_mu (id : Nat) (c : Clip) : (s.setClip id c).mu = s.mu := rfl
@[simp] theorem State.setClip_rcu (id : Nat) (c : Clip) : (s.setClip id c).rcu = s.rcu := rfl
@[simp] theorem State.setClip_eu (id : Nat) (c : Clip) : (s.setClip id c).eu = s.eu := rfl
@[simp] theorem State.setClip_sli (id : Nat) (c : Clip) : (s.setClip id c).sli = s.sli := rfl
@[simp] theorem State.setClip_clock (id : Nat) (c : Clip) : (s.setClip id c).clock = s.clock := rfl
@[simp] theorem State.setClip_pending (id : Nat) (c : Clip) : (s.setClip id c).pending = s.pending := rfl

@[simp] theorem State.setDrive_cs (ch : Nat) (d : DriveRecord) : (s.setDrive ch d).cs = s.cs := rfl
@[simp] theorem State.setDrive_sq (ch : Nat) (d : DriveRecord) : (s.setDrive ch d).sq = s.sq := rfl
@[simp] theorem State.setDrive_pe (ch : Nat) (d : DriveRecord) : (s.setDrive ch d).pe = s.pe := rfl
@[simp] theorem State.setDrive_dcu (ch : Nat) (d : DriveRecord) : (s.setDrive ch d).dcu = { s.dcu with drives := s.dcu.drives.setIfInBounds ch d } := rfl
@[simp] theorem State.setDrive_cpc (ch : Nat) (d : DriveRecord) : (s.setDrive ch d).cpc = s.cpc := rfl
@[simp] theorem State.setDrive_lm (ch : Nat) (d : DriveRecord) : (s.setDrive ch d).lm = s.lm := rfl
@[simp] theorem State.setDrive_mu (ch : Nat) (d : DriveRecord) : (s.setDrive ch d).mu = s.mu := rfl
@[simp] theorem State.setDrive_rcu (ch : Nat) (d : DriveRecord) : (s.setDrive ch d).rcu = s.rcu := rfl
@[simp] theorem State.setDrive_eu (ch : Nat) (d : DriveRecord) : (s.setDrive ch d).eu = s.eu := rfl
@[simp] theorem State.setDrive_sli (ch : Nat) (d : DriveRecord) : (s.setDrive ch d).sli = s.sli := rfl
@[simp] theorem State.setDrive_clock (ch : Nat) (d : DriveRecord) : (s.setDrive ch d).clock = s.clock := rfl
@[simp] theorem State.setDrive_pending (ch : Nat) (d : DriveRecord) : (s.setDrive ch d).pending = s.pending := rfl

@[simp] theorem State.setGainSet_cs (g : Nat) (v : GainSet) : (s.setGainSet g v).cs = s.cs := rfl
@[simp] theorem State.setGainSet_sq (g : Nat) (v : GainSet) : (s.setGainSet g v).sq = s.sq := rfl
@[simp] theorem State.setGainSet_pe (g : Nat) (v : GainSet) : (s.setGainSet g v).pe = s.pe := rfl
@[simp] theorem State.setGainSet_dcu (g : Nat) (v : GainSet) : (s.setGainSet g v).dcu = { s.dcu with gains := s.dcu.gains.setIfInBounds g v } := rfl
@[simp] theorem State.setGainSet_cpc (g : Nat) (v : GainSet) : (s.setGainSet g v).cpc = s.cpc := rfl
@[simp] theorem State.setGainSet_lm (g : Nat) (v : GainSet) : (s.setGainSet g v).lm = s.lm := rfl
@[simp] theorem State.setGainSet_mu (g : Nat) (v : GainSet) : (s.setGainSet g v).mu = s.mu := rfl
@[simp] theorem State.setGainSet_rcu (g : Nat) (v : GainSet) : (s.setGainSet g v).rcu = s.rcu := rfl
@[simp] theorem State.setGainSet_eu (g : Nat) (v : GainSet) : (s.setGainSet g v).eu = s.eu := rfl
@[simp] theorem State.setGainSet_sli (g : Nat) (v : GainSet) : (s.setGainSet g v).sli = s.sli := rfl
@[simp] theorem State.setGainSet_clock (g : Nat) (v : GainSet) : (s.setGainSet g v).clock = s.clock := rfl
@[simp] theorem State.setGainSet_pending (g : Nat) (v : GainSet) : (s.setGainSet g v).pending = s.pending := rfl

@[simp] theorem State.setPort_cs (ch : Nat) (p : Port) : (s.setPort ch p).cs = s.cs := rfl
@[simp] theorem State.setPort_sq (ch : Nat) (p : Port) : (s.setPort ch p).sq = s.sq := rfl
@[simp] theorem State.setPort_pe (ch : Nat) (p : Port) : (s.setPort ch p).pe = s.pe := rfl
@[simp] theorem State.setPort_dcu (ch : Nat) (p : Port) : (s.setPort ch p).dcu = s.dcu := rfl
@[simp] theorem State.setPort_cpc (ch : Nat) (p : Port) : (s.setPort ch p).cpc = { s.cpc with ports := s.cpc.ports.setIfInBounds ch p } := rfl
@[simp] theorem State.setPort_lm (ch : Nat) (p : Port) : (s.setPort ch p).lm = s.lm := rfl
@[simp] theorem State.setPort_mu (ch : Nat) (p : Port) : (s.setPort ch p).mu = s.mu := rfl
@[simp] theorem State.setPort_rcu (ch : Nat) (p : Port) : (s.setPort ch p).rcu = s.rcu := rfl
@[simp] theorem State.setPort_eu (ch : Nat) (p : Port) : (s.setPort ch p).eu = s.eu := rfl
@[simp] theorem State.setPort_sli (ch : Nat) (p : Port) : (s.setPort ch p).sli = s.sli := rfl
@[simp] theorem State.setPort_clock (ch : Nat) (p : Port) : (s.setPort ch p).clock = s.clock := rfl
@[simp] theorem State.setPort_pending (ch : Nat) (p : Port) : (s.setPort ch p).pending = s.pending := rfl

@[simp] theorem State.setLimits_cs (ch : Nat) (l : ChannelLimits) : (s.setLimits ch l).cs = s.cs := rfl
@[simp] theorem State.setLimits_sq (ch : Nat) (l : ChannelLimits) : (s.setLimits ch l).sq = s.sq := rfl
@[simp] theorem State.setLimits_pe (ch : Nat) (l : ChannelLimits) : (s.setLimits ch l).pe = s.pe := rfl
@[simp] theorem State.setLimits_dcu (ch : Nat) (l : ChannelLimits) : (s.setLimits ch l).dcu = s.dcu := rfl
@[simp] theorem State.setLimits_cpc (ch : Nat) (l : ChannelLimits) : (s.setLimits ch l).cpc = s.cpc := rfl
@[simp] theorem State.setLimits_lm (ch : Nat) (l : ChannelLimits) : (s.setLimits ch l).lm = s.lm.setIfInBounds ch l := rfl
@[simp] theorem State.setLimits_mu (ch : Nat) (l : ChannelLimits) : (s.setLimits ch l).mu = s.mu := rfl
@[simp] theorem State.setLimits_rcu (ch : Nat) (l : ChannelLimits) : (s.setLimits ch l).rcu = s.rcu := rfl
@[simp] theorem State.setLimits_eu (ch : Nat) (l : ChannelLimits) : (s.setLimits ch l).eu = s.eu := rfl
@[simp] theorem State.setLimits_sli (ch : Nat) (l : ChannelLimits) : (s.setLimits ch l).sli = s.sli := rfl
@[simp] theorem State.setLimits_clock (ch : Nat) (l : ChannelLimits) : (s.setLimits ch l).clock = s.clock := rfl
@[simp] theorem State.setLimits_pending (ch : Nat) (l : ChannelLimits) : (s.setLimits ch l).pending = s.pending := rfl

@[simp] theorem State.setMark_cs (m : Nat) (u : MarkUnit) : (s.setMark m u).cs = s.cs := rfl
@[simp] theorem State.setMark_sq (m : Nat) (u : MarkUnit) : (s.setMark m u).sq = s.sq := rfl
@[simp] theorem State.setMark_pe (m : Nat) (u : MarkUnit) : (s.setMark m u).pe = s.pe := rfl
@[simp] theorem State.setMark_dcu (m : Nat) (u : MarkUnit) : (s.setMark m u).dcu = s.dcu := rfl
@[simp] theorem State.setMark_cpc (m : Nat) (u : MarkUnit) : (s.setMark m u).cpc = s.cpc := rfl
@[simp] theorem State.setMark_lm (m : Nat) (u : MarkUnit) : (s.setMark m u).lm = s.lm := rfl
@[simp] theorem State.setMark_mu (m : Nat) (u : MarkUnit) : (s.setMark m u).mu = s.mu.setIfInBounds m u := rfl
@[simp] theorem State.setMark_rcu (m : Nat) (u : MarkUnit) : (s.setMark m u).rcu = s.rcu := rfl
@[simp] theorem State.setMark_eu (m : Nat) (u : MarkUnit) : (s.setMark m u).eu = s.eu := rfl
@[simp] theorem State.setMark_sli (m : Nat) (u : MarkUnit) : (s.setMark m u).sli = s.sli := rfl
@[simp] theorem State.setMark_clock (m : Nat) (u : MarkUnit) : (s.setMark m u).clock = s.clock := rfl
@[simp] theorem State.setMark_pending (m : Nat) (u : MarkUnit) : (s.setMark m u).pending = s.pending := rfl

@[simp] theorem State.setCause_cs (c : Cause) (v : CauseState) : (s.setCause c v).cs = s.cs := rfl
@[simp] theorem State.setCause_sq (c : Cause) (v : CauseState) : (s.setCause c v).sq = s.sq := rfl
@[simp] theorem State.setCause_pe (c : Cause) (v : CauseState) : (s.setCause c v).pe = s.pe := rfl
@[simp] theorem State.setCause_dcu (c : Cause) (v : CauseState) : (s.setCause c v).dcu = s.dcu := rfl
@[simp] theorem State.setCause_cpc (c : Cause) (v : CauseState) : (s.setCause c v).cpc = s.cpc := rfl
@[simp] theorem State.setCause_lm (c : Cause) (v : CauseState) : (s.setCause c v).lm = s.lm := rfl
@[simp] theorem State.setCause_mu (c : Cause) (v : CauseState) : (s.setCause c v).mu = s.mu := rfl
@[simp] theorem State.setCause_rcu (c : Cause) (v : CauseState) : (s.setCause c v).rcu = s.rcu := rfl
@[simp] theorem State.setCause_eu (c : Cause) (v : CauseState) : (s.setCause c v).eu = { s.eu with causes := s.eu.causes.setIfInBounds c.index v } := rfl
@[simp] theorem State.setCause_sli (c : Cause) (v : CauseState) : (s.setCause c v).sli = s.sli := rfl
@[simp] theorem State.setCause_clock (c : Cause) (v : CauseState) : (s.setCause c v).clock = s.clock := rfl
@[simp] theorem State.setCause_pending (c : Cause) (v : CauseState) : (s.setCause c v).pending = s.pending := rfl

@[simp] theorem State.setPe_cs (e : Engine) : (s.setPe e).cs = s.cs := rfl
@[simp] theorem State.setPe_sq (e : Engine) : (s.setPe e).sq = s.sq := rfl
@[simp] theorem State.setPe_pe (e : Engine) : (s.setPe e).pe = e := rfl
@[simp] theorem State.setPe_dcu (e : Engine) : (s.setPe e).dcu = s.dcu := rfl
@[simp] theorem State.setPe_cpc (e : Engine) : (s.setPe e).cpc = s.cpc := rfl
@[simp] theorem State.setPe_lm (e : Engine) : (s.setPe e).lm = s.lm := rfl
@[simp] theorem State.setPe_mu (e : Engine) : (s.setPe e).mu = s.mu := rfl
@[simp] theorem State.setPe_rcu (e : Engine) : (s.setPe e).rcu = s.rcu := rfl
@[simp] theorem State.setPe_eu (e : Engine) : (s.setPe e).eu = s.eu := rfl
@[simp] theorem State.setPe_sli (e : Engine) : (s.setPe e).sli = s.sli := rfl
@[simp] theorem State.setPe_clock (e : Engine) : (s.setPe e).clock = s.clock := rfl
@[simp] theorem State.setPe_pending (e : Engine) : (s.setPe e).pending = s.pending := rfl

@[simp] theorem State.setCtx_cs (c : Option Context) : (s.setCtx c).cs = s.cs := rfl
@[simp] theorem State.setCtx_sq (c : Option Context) : (s.setCtx c).sq = s.sq := rfl
@[simp] theorem State.setCtx_pe (c : Option Context) : (s.setCtx c).pe = { s.pe with ctx := c } := rfl
@[simp] theorem State.setCtx_dcu (c : Option Context) : (s.setCtx c).dcu = s.dcu := rfl
@[simp] theorem State.setCtx_cpc (c : Option Context) : (s.setCtx c).cpc = s.cpc := rfl
@[simp] theorem State.setCtx_lm (c : Option Context) : (s.setCtx c).lm = s.lm := rfl
@[simp] theorem State.setCtx_mu (c : Option Context) : (s.setCtx c).mu = s.mu := rfl
@[simp] theorem State.setCtx_rcu (c : Option Context) : (s.setCtx c).rcu = s.rcu := rfl
@[simp] theorem State.setCtx_eu (c : Option Context) : (s.setCtx c).eu = s.eu := rfl
@[simp] theorem State.setCtx_sli (c : Option Context) : (s.setCtx c).sli = s.sli := rfl
@[simp] theorem State.setCtx_clock (c : Option Context) : (s.setCtx c).clock = s.clock := rfl
@[simp] theorem State.setCtx_pending (c : Option Context) : (s.setCtx c).pending = s.pending := rfl

@[simp] theorem State.setSq_cs (q : SegmentQueue) : (s.setSq q).cs = s.cs := rfl
@[simp] theorem State.setSq_sq (q : SegmentQueue) : (s.setSq q).sq = q := rfl
@[simp] theorem State.setSq_pe (q : SegmentQueue) : (s.setSq q).pe = s.pe := rfl
@[simp] theorem State.setSq_dcu (q : SegmentQueue) : (s.setSq q).dcu = s.dcu := rfl
@[simp] theorem State.setSq_cpc (q : SegmentQueue) : (s.setSq q).cpc = s.cpc := rfl
@[simp] theorem State.setSq_lm (q : SegmentQueue) : (s.setSq q).lm = s.lm := rfl
@[simp] theorem State.setSq_mu (q : SegmentQueue) : (s.setSq q).mu = s.mu := rfl
@[simp] theorem State.setSq_rcu (q : SegmentQueue) : (s.setSq q).rcu = s.rcu := rfl
@[simp] theorem State.setSq_eu (q : SegmentQueue) : (s.setSq q).eu = s.eu := rfl
@[simp] theorem State.setSq_sli (q : SegmentQueue) : (s.setSq q).sli = s.sli := rfl
@[simp] theorem State.setSq_clock (q : SegmentQueue) : (s.setSq q).clock = s.clock := rfl
@[simp] theorem State.setSq_pending (q : SegmentQueue) : (s.setSq q).pending = s.pending := rfl

@[simp] theorem State.setRcu_cs (r : CaptureUnit) : (s.setRcu r).cs = s.cs := rfl
@[simp] theorem State.setRcu_sq (r : CaptureUnit) : (s.setRcu r).sq = s.sq := rfl
@[simp] theorem State.setRcu_pe (r : CaptureUnit) : (s.setRcu r).pe = s.pe := rfl
@[simp] theorem State.setRcu_dcu (r : CaptureUnit) : (s.setRcu r).dcu = s.dcu := rfl
@[simp] theorem State.setRcu_cpc (r : CaptureUnit) : (s.setRcu r).cpc = s.cpc := rfl
@[simp] theorem State.setRcu_lm (r : CaptureUnit) : (s.setRcu r).lm = s.lm := rfl
@[simp] theorem State.setRcu_mu (r : CaptureUnit) : (s.setRcu r).mu = s.mu := rfl
@[simp] theorem State.setRcu_rcu (r : CaptureUnit) : (s.setRcu r).rcu = r := rfl
@[simp] theorem State.setRcu_eu (r : CaptureUnit) : (s.setRcu r).eu = s.eu := rfl
@[simp] theorem State.setRcu_sli (r : CaptureUnit) : (s.setRcu r).sli = s.sli := rfl
@[simp] theorem State.setRcu_clock (r : CaptureUnit) : (s.setRcu r).clock = s.clock := rfl
@[simp] theorem State.setRcu_pending (r : CaptureUnit) : (s.setRcu r).pending = s.pending := rfl

@[simp] theorem State.setSli_cs (l : LinkUnit) : (s.setSli l).cs = s.cs := rfl
@[simp] theorem State.setSli_sq (l : LinkUnit) : (s.setSli l).sq = s.sq := rfl
@[simp] theorem State.setSli_pe (l : LinkUnit) : (s.setSli l).pe = s.pe := rfl
@[simp] theorem State.setSli_dcu (l : LinkUnit) : (s.setSli l).dcu = s.dcu := rfl
@[simp] theorem State.setSli_cpc (l : LinkUnit) : (s.setSli l).cpc = s.cpc := rfl
@[simp] theorem State.setSli_lm (l : LinkUnit) : (s.setSli l).lm = s.lm := rfl
@[simp] theorem State.setSli_mu (l : LinkUnit) : (s.setSli l).mu = s.mu := rfl
@[simp] theorem State.setSli_rcu (l : LinkUnit) : (s.setSli l).rcu = s.rcu := rfl
@[simp] theorem State.setSli_eu (l : LinkUnit) : (s.setSli l).eu = s.eu := rfl
@[simp] theorem State.setSli_sli (l : LinkUnit) : (s.setSli l).sli = l := rfl
@[simp] theorem State.setSli_clock (l : LinkUnit) : (s.setSli l).clock = s.clock := rfl
@[simp] theorem State.setSli_pending (l : LinkUnit) : (s.setSli l).pending = s.pending := rfl

/-! ### What an accessor reads after an update -/

/-- An update within bounds is read back. -/
theorem State.clip_setClip_same (id : Nat) (c : Clip) (h : id < 64) : (s.setClip id c).clip id = c := by
  simp [State.clip, State.setClip, h]

/-- An update leaves the records at other numbers alone. -/
theorem State.clip_setClip_other (id j : Nat) (c : Clip) (h : j ≠ id) : (s.setClip id c).clip j = s.clip j := by
  simp [State.clip, State.setClip, Ne.symm h]

/-- An update within bounds is read back. -/
theorem State.drive_setDrive_same (ch : Nat) (d : DriveRecord) (h : ch < 16) : (s.setDrive ch d).drive ch = d := by
  simp [State.drive, State.setDrive, h]

/-- An update leaves the records at other numbers alone. -/
theorem State.drive_setDrive_other (ch j : Nat) (d : DriveRecord) (h : j ≠ ch) : (s.setDrive ch d).drive j = s.drive j := by
  simp [State.drive, State.setDrive, Ne.symm h]

/-- An update within bounds is read back. -/
theorem State.gainSet_setGainSet_same (g : Nat) (v : GainSet) (h : g < 8) : (s.setGainSet g v).gainSet g = v := by
  simp [State.gainSet, State.setGainSet, h]

/-- An update leaves the records at other numbers alone. -/
theorem State.gainSet_setGainSet_other (g j : Nat) (v : GainSet) (h : j ≠ g) : (s.setGainSet g v).gainSet j = s.gainSet j := by
  simp [State.gainSet, State.setGainSet, Ne.symm h]

/-- An update within bounds is read back. -/
theorem State.port_setPort_same (ch : Nat) (p : Port) (h : ch < 16) : (s.setPort ch p).port ch = p := by
  simp [State.port, State.setPort, h]

/-- An update leaves the records at other numbers alone. -/
theorem State.port_setPort_other (ch j : Nat) (p : Port) (h : j ≠ ch) : (s.setPort ch p).port j = s.port j := by
  simp [State.port, State.setPort, Ne.symm h]

/-- An update within bounds is read back. -/
theorem State.limits_setLimits_same (ch : Nat) (l : ChannelLimits) (h : ch < 16) : (s.setLimits ch l).limits ch = l := by
  simp [State.limits, State.setLimits, h]

/-- An update leaves the records at other numbers alone. -/
theorem State.limits_setLimits_other (ch j : Nat) (l : ChannelLimits) (h : j ≠ ch) : (s.setLimits ch l).limits j = s.limits j := by
  simp [State.limits, State.setLimits, Ne.symm h]

/-- An update within bounds is read back. -/
theorem State.mark_setMark_same (m : Nat) (u : MarkUnit) (h : m < 6) : (s.setMark m u).mark m = u := by
  simp [State.mark, State.setMark, h]

/-- An update leaves the records at other numbers alone. -/
theorem State.mark_setMark_other (m j : Nat) (u : MarkUnit) (h : j ≠ m) : (s.setMark m u).mark j = s.mark j := by
  simp [State.mark, State.setMark, Ne.symm h]

theorem Cause.index_lt (c : Cause) : c.index < 9 := by cases c <;> decide

theorem Cause.index_injective {c d : Cause} (h : c.index = d.index) : c = d := by
  cases c <;> cases d <;> first | rfl | simp [Cause.index] at h

/-- An update of a cause is read back. -/
theorem State.cause_setCause_same (c : Cause) (v : CauseState) : (s.setCause c v).cause c = v := by
  simp [State.cause, State.setCause, c.index_lt]

/-- An update of a cause leaves the others alone. -/
theorem State.cause_setCause_other (c d : Cause) (v : CauseState) (h : d ≠ c) : (s.setCause c v).cause d = s.cause d := by
  have h' : c.index ≠ d.index := fun e => h (Cause.index_injective e.symm)
  simp [State.cause, State.setCause, h']

/-- An accessor reads its block alone. -/
theorem State.clip_congr {s t : State} (id : Nat) (h : t.cs = s.cs) : t.clip id = s.clip id := by simp [State.clip, h]

/-- An accessor reads its block alone. -/
theorem State.drive_congr {s t : State} (ch : Nat) (h : t.dcu = s.dcu) : t.drive ch = s.drive ch := by simp [State.drive, h]

/-- An accessor reads its block alone. -/
theorem State.gainSet_congr {s t : State} (g : Nat) (h : t.dcu = s.dcu) : t.gainSet g = s.gainSet g := by simp [State.gainSet, h]

/-- An accessor reads its block alone. -/
theorem State.port_congr {s t : State} (ch : Nat) (h : t.cpc = s.cpc) : t.port ch = s.port ch := by simp [State.port, h]

/-- An accessor reads its block alone. -/
theorem State.limits_congr {s t : State} (ch : Nat) (h : t.lm = s.lm) : t.limits ch = s.limits ch := by simp [State.limits, h]

/-- An accessor reads its block alone. -/
theorem State.mark_congr {s t : State} (m : Nat) (h : t.mu = s.mu) : t.mark m = s.mark m := by simp [State.mark, h]

/-- An accessor reads its block alone. -/
theorem State.cause_congr {s t : State} (c : Cause) (h : t.eu = s.eu) : t.cause c = s.cause c := by simp [State.cause, h]

end Sys2Proof.Machine
end

