-- ==== Sys2Proof/Laws/Frames.lean ====
section
/-! SUPPORT. Frames: what the shared operations of the block leave alone, one lemma per operation and field. -/

namespace Sys2Proof.Machine

open Sys2Proof

/-- What every step of a fold keeps, the fold keeps. -/
theorem foldl_keeps {α β γ : Type} (p : α → γ) (f : α → β → α) (h : ∀ a b, p (f a b) = p a) :
    ∀ (l : List β) (a : α), p (l.foldl f a) = p a
  | [], _ => rfl
  | b :: rest, a => by rw [List.foldl_cons, foldl_keeps p f h rest, h]

variable (s : State)

/-! ### placeFrame -/

@[simp] theorem State.placeFrame_cs (f : Frame) : (s.placeFrame f).cs = s.cs := by
  unfold State.placeFrame; split <;> simp

@[simp] theorem State.placeFrame_sq (f : Frame) : (s.placeFrame f).sq = s.sq := by
  unfold State.placeFrame; split <;> simp

@[simp] theorem State.placeFrame_pe (f : Frame) : (s.placeFrame f).pe = s.pe := by
  unfold State.placeFrame; split <;> simp

@[simp] theorem State.placeFrame_dcu (f : Frame) : (s.placeFrame f).dcu = s.dcu := by
  unfold State.placeFrame; split <;> simp

@[simp] theorem State.placeFrame_cpc (f : Frame) : (s.placeFrame f).cpc = s.cpc := by
  unfold State.placeFrame; split <;> simp

@[simp] theorem State.placeFrame_lm (f : Frame) : (s.placeFrame f).lm = s.lm := by
  unfold State.placeFrame; split <;> simp

@[simp] theorem State.placeFrame_mu (f : Frame) : (s.placeFrame f).mu = s.mu := by
  unfold State.placeFrame; split <;> simp

@[simp] theorem State.placeFrame_rcu (f : Frame) : (s.placeFrame f).rcu = s.rcu := by
  unfold State.placeFrame; split <;> simp

@[simp] theorem State.placeFrame_eu (f : Frame) : (s.placeFrame f).eu = s.eu := by
  unfold State.placeFrame; split <;> simp

@[simp] theorem State.placeFrame_clock (f : Frame) : (s.placeFrame f).clock = s.clock := by
  unfold State.placeFrame; split <;> simp

@[simp] theorem State.placeFrame_pending (f : Frame) : (s.placeFrame f).pending = s.pending := by
  unfold State.placeFrame; split <;> simp

/-! ### placeNotice -/

@[simp] theorem State.placeNotice_cs (c : Cause) (n : Nat) : (s.placeNotice c n).cs = s.cs := by
  unfold State.placeNotice; split <;> simp

@[simp] theorem State.placeNotice_sq (c : Cause) (n : Nat) : (s.placeNotice c n).sq = s.sq := by
  unfold State.placeNotice; split <;> simp

@[simp] theorem State.placeNotice_pe (c : Cause) (n : Nat) : (s.placeNotice c n).pe = s.pe := by
  unfold State.placeNotice; split <;> simp

@[simp] theorem State.placeNotice_dcu (c : Cause) (n : Nat) : (s.placeNotice c n).dcu = s.dcu := by
  unfold State.placeNotice; split <;> simp

@[simp] theorem State.placeNotice_cpc (c : Cause) (n : Nat) : (s.placeNotice c n).cpc = s.cpc := by
  unfold State.placeNotice; split <;> simp

@[simp] theorem State.placeNotice_lm (c : Cause) (n : Nat) : (s.placeNotice c n).lm = s.lm := by
  unfold State.placeNotice; split <;> simp

@[simp] theorem State.placeNotice_mu (c : Cause) (n : Nat) : (s.placeNotice c n).mu = s.mu := by
  unfold State.placeNotice; split <;> simp

@[simp] theorem State.placeNotice_rcu (c : Cause) (n : Nat) : (s.placeNotice c n).rcu = s.rcu := by
  unfold State.placeNotice; split <;> simp

@[simp] theorem State.placeNotice_eu (c : Cause) (n : Nat) : (s.placeNotice c n).eu = s.eu := by
  unfold State.placeNotice; split <;> simp

@[simp] theorem State.placeNotice_clock (c : Cause) (n : Nat) : (s.placeNotice c n).clock = s.clock := by
  unfold State.placeNotice; split <;> simp

@[simp] theorem State.placeNotice_pending (c : Cause) (n : Nat) : (s.placeNotice c n).pending = s.pending := by
  unfold State.placeNotice; split <;> simp

/-! ### raise -/

@[simp] theorem State.raise_cs (c : Cause) (d : Option Detail) : (s.raise c d).cs = s.cs := by
  unfold State.raise; dsimp only; split <;> simp

@[simp] theorem State.raise_sq (c : Cause) (d : Option Detail) : (s.raise c d).sq = s.sq := by
  unfold State.raise; dsimp only; split <;> simp

@[simp] theorem State.raise_pe (c : Cause) (d : Option Detail) : (s.raise c d).pe = s.pe := by
  unfold State.raise; dsimp only; split <;> simp

@[simp] theorem State.raise_dcu (c : Cause) (d : Option Detail) : (s.raise c d).dcu = s.dcu := by
  unfold State.raise; dsimp only; split <;> simp

@[simp] theorem State.raise_cpc (c : Cause) (d : Option Detail) : (s.raise c d).cpc = s.cpc := by
  unfold State.raise; dsimp only; split <;> simp

@[simp] theorem State.raise_lm (c : Cause) (d : Option Detail) : (s.raise c d).lm = s.lm := by
  unfold State.raise; dsimp only; split <;> simp

@[simp] theorem State.raise_mu (c : Cause) (d : Option Detail) : (s.raise c d).mu = s.mu := by
  unfold State.raise; dsimp only; split <;> simp

@[simp] theorem State.raise_rcu (c : Cause) (d : Option Detail) : (s.raise c d).rcu = s.rcu := by
  unfold State.raise; dsimp only; split <;> simp

@[simp] theorem State.raise_clock (c : Cause) (d : Option Detail) : (s.raise c d).clock = s.clock := by
  unfold State.raise; dsimp only; split <;> simp

@[simp] theorem State.raise_pending (c : Cause) (d : Option Detail) : (s.raise c d).pending = s.pending := by
  unfold State.raise; dsimp only; split <;> simp

/-! ### raiseMark -/

@[simp] theorem State.raiseMark_cs (unit stamp : Nat) : (s.raiseMark unit stamp).cs = s.cs := by
  simp [State.raiseMark]

@[simp] theorem State.raiseMark_sq (unit stamp : Nat) : (s.raiseMark unit stamp).sq = s.sq := by
  simp [State.raiseMark]

@[simp] theorem State.raiseMark_pe (unit stamp : Nat) : (s.raiseMark unit stamp).pe = s.pe := by
  simp [State.raiseMark]

@[simp] theorem State.raiseMark_dcu (unit stamp : Nat) : (s.raiseMark unit stamp).dcu = s.dcu := by
  simp [State.raiseMark]

@[simp] theorem State.raiseMark_cpc (unit stamp : Nat) : (s.raiseMark unit stamp).cpc = s.cpc := by
  simp [State.raiseMark]

@[simp] theorem State.raiseMark_lm (unit stamp : Nat) : (s.raiseMark unit stamp).lm = s.lm := by
  simp [State.raiseMark]

@[simp] theorem State.raiseMark_mu (unit stamp : Nat) : (s.raiseMark unit stamp).mu = s.mu := by
  simp [State.raiseMark]

@[simp] theorem State.raiseMark_rcu (unit stamp : Nat) : (s.raiseMark unit stamp).rcu = s.rcu := by
  simp [State.raiseMark]

@[simp] theorem State.raiseMark_clock (unit stamp : Nat) : (s.raiseMark unit stamp).clock = s.clock := by
  simp [State.raiseMark]

@[simp] theorem State.raiseMark_pending (unit stamp : Nat) : (s.raiseMark unit stamp).pending = s.pending := by
  simp [State.raiseMark]

/-! ### bufferRequest -/

@[simp] theorem State.bufferRequest_cs (f : RequestFrame) : (s.bufferRequest f).cs = s.cs := by
  unfold State.bufferRequest; dsimp only; (repeat' split) <;> simp

@[simp] theorem State.bufferRequest_sq (f : RequestFrame) : (s.bufferRequest f).sq = s.sq := by
  unfold State.bufferRequest; dsimp only; (repeat' split) <;> simp

@[simp] theorem State.bufferRequest_pe (f : RequestFrame) : (s.bufferRequest f).pe = s.pe := by
  unfold State.bufferRequest; dsimp only; (repeat' split) <;> simp

@[simp] theorem State.bufferRequest_dcu (f : RequestFrame) : (s.bufferRequest f).dcu = s.dcu := by
  unfold State.bufferRequest; dsimp only; (repeat' split) <;> simp

@[simp] theorem State.bufferRequest_cpc (f : RequestFrame) : (s.bufferRequest f).cpc = s.cpc := by
  unfold State.bufferRequest; dsimp only; (repeat' split) <;> simp

@[simp] theorem State.bufferRequest_lm (f : RequestFrame) : (s.bufferRequest f).lm = s.lm := by
  unfold State.bufferRequest; dsimp only; (repeat' split) <;> simp

@[simp] theorem State.bufferRequest_mu (f : RequestFrame) : (s.bufferRequest f).mu = s.mu := by
  unfold State.bufferRequest; dsimp only; (repeat' split) <;> simp

@[simp] theorem State.bufferRequest_rcu (f : RequestFrame) : (s.bufferRequest f).rcu = s.rcu := by
  unfold State.bufferRequest; dsimp only; (repeat' split) <;> simp

@[simp] theorem State.bufferRequest_eu (f : RequestFrame) : (s.bufferRequest f).eu = s.eu := by
  unfold State.bufferRequest; dsimp only; (repeat' split) <;> simp

@[simp] theorem State.bufferRequest_clock (f : RequestFrame) : (s.bufferRequest f).clock = s.clock := by
  unfold State.bufferRequest; dsimp only; (repeat' split) <;> simp

@[simp] theorem State.bufferRequest_pending (f : RequestFrame) : (s.bufferRequest f).pending = s.pending := by
  unfold State.bufferRequest; dsimp only; (repeat' split) <;> simp

/-! ### addRef -/

@[simp] theorem State.addRef_sq (id : Nat) : (s.addRef id).sq = s.sq := by
  simp [State.addRef]

@[simp] theorem State.addRef_pe (id : Nat) : (s.addRef id).pe = s.pe := by
  simp [State.addRef]

@[simp] theorem State.addRef_dcu (id : Nat) : (s.addRef id).dcu = s.dcu := by
  simp [State.addRef]

@[simp] theorem State.addRef_cpc (id : Nat) : (s.addRef id).cpc = s.cpc := by
  simp [State.addRef]

@[simp] theorem State.addRef_lm (id : Nat) : (s.addRef id).lm = s.lm := by
  simp [State.addRef]

@[simp] theorem State.addRef_mu (id : Nat) : (s.addRef id).mu = s.mu := by
  simp [State.addRef]

@[simp] theorem State.addRef_rcu (id : Nat) : (s.addRef id).rcu = s.rcu := by
  simp [State.addRef]

@[simp] theorem State.addRef_eu (id : Nat) : (s.addRef id).eu = s.eu := by
  simp [State.addRef]

@[simp] theorem State.addRef_sli (id : Nat) : (s.addRef id).sli = s.sli := by
  simp [State.addRef]

@[simp] theorem State.addRef_clock (id : Nat) : (s.addRef id).clock = s.clock := by
  simp [State.addRef]

@[simp] theorem State.addRef_pending (id : Nat) : (s.addRef id).pending = s.pending := by
  simp [State.addRef]

/-! ### dropRef -/

@[simp] theorem State.dropRef_sq (id : Nat) : (s.dropRef id).sq = s.sq := by
  simp [State.dropRef]

@[simp] theorem State.dropRef_pe (id : Nat) : (s.dropRef id).pe = s.pe := by
  simp [State.dropRef]

@[simp] theorem State.dropRef_dcu (id : Nat) : (s.dropRef id).dcu = s.dcu := by
  simp [State.dropRef]

@[simp] theorem State.dropRef_cpc (id : Nat) : (s.dropRef id).cpc = s.cpc := by
  simp [State.dropRef]

@[simp] theorem State.dropRef_lm (id : Nat) : (s.dropRef id).lm = s.lm := by
  simp [State.dropRef]

@[simp] theorem State.dropRef_mu (id : Nat) : (s.dropRef id).mu = s.mu := by
  simp [State.dropRef]

@[simp] theorem State.dropRef_rcu (id : Nat) : (s.dropRef id).rcu = s.rcu := by
  simp [State.dropRef]

@[simp] theorem State.dropRef_eu (id : Nat) : (s.dropRef id).eu = s.eu := by
  simp [State.dropRef]

@[simp] theorem State.dropRef_sli (id : Nat) : (s.dropRef id).sli = s.sli := by
  simp [State.dropRef]

@[simp] theorem State.dropRef_clock (id : Nat) : (s.dropRef id).clock = s.clock := by
  simp [State.dropRef]

@[simp] theorem State.dropRef_pending (id : Nat) : (s.dropRef id).pending = s.pending := by
  simp [State.dropRef]

/-! ### freeClip -/

@[simp] theorem State.freeClip_sq (id : Nat) : (s.freeClip id).sq = s.sq := by
  simp [State.freeClip]

@[simp] theorem State.freeClip_pe (id : Nat) : (s.freeClip id).pe = s.pe := by
  simp [State.freeClip]

@[simp] theorem State.freeClip_dcu (id : Nat) : (s.freeClip id).dcu = s.dcu := by
  simp [State.freeClip]

@[simp] theorem State.freeClip_cpc (id : Nat) : (s.freeClip id).cpc = s.cpc := by
  simp [State.freeClip]

@[simp] theorem State.freeClip_lm (id : Nat) : (s.freeClip id).lm = s.lm := by
  simp [State.freeClip]

@[simp] theorem State.freeClip_mu (id : Nat) : (s.freeClip id).mu = s.mu := by
  simp [State.freeClip]

@[simp] theorem State.freeClip_rcu (id : Nat) : (s.freeClip id).rcu = s.rcu := by
  simp [State.freeClip]

@[simp] theorem State.freeClip_eu (id : Nat) : (s.freeClip id).eu = s.eu := by
  simp [State.freeClip]

@[simp] theorem State.freeClip_sli (id : Nat) : (s.freeClip id).sli = s.sli := by
  simp [State.freeClip]

@[simp] theorem State.freeClip_clock (id : Nat) : (s.freeClip id).clock = s.clock := by
  simp [State.freeClip]

@[simp] theorem State.freeClip_pending (id : Nat) : (s.freeClip id).pending = s.pending := by
  simp [State.freeClip]

/-! ### leaveOrder -/

@[simp] theorem State.leaveOrder_sq (id : Nat) : (s.leaveOrder id).sq = s.sq := by
  simp [State.leaveOrder]

@[simp] theorem State.leaveOrder_pe (id : Nat) : (s.leaveOrder id).pe = s.pe := by
  simp [State.leaveOrder]

@[simp] theorem State.leaveOrder_dcu (id : Nat) : (s.leaveOrder id).dcu = s.dcu := by
  simp [State.leaveOrder]

@[simp] theorem State.leaveOrder_cpc (id : Nat) : (s.leaveOrder id).cpc = s.cpc := by
  simp [State.leaveOrder]

@[simp] theorem State.leaveOrder_lm (id : Nat) : (s.leaveOrder id).lm = s.lm := by
  simp [State.leaveOrder]

@[simp] theorem State.leaveOrder_mu (id : Nat) : (s.leaveOrder id).mu = s.mu := by
  simp [State.leaveOrder]

@[simp] theorem State.leaveOrder_rcu (id : Nat) : (s.leaveOrder id).rcu = s.rcu := by
  simp [State.leaveOrder]

@[simp] theorem State.leaveOrder_eu (id : Nat) : (s.leaveOrder id).eu = s.eu := by
  simp [State.leaveOrder]

@[simp] theorem State.leaveOrder_sli (id : Nat) : (s.leaveOrder id).sli = s.sli := by
  simp [State.leaveOrder]

@[simp] theorem State.leaveOrder_clock (id : Nat) : (s.leaveOrder id).clock = s.clock := by
  simp [State.leaveOrder]

@[simp] theorem State.leaveOrder_pending (id : Nat) : (s.leaveOrder id).pending = s.pending := by
  simp [State.leaveOrder]

/-! ### completeVerification -/

@[simp] theorem State.completeVerification_sq (id : Nat) (l : ClipLoad) : (s.completeVerification id l).sq = s.sq := by
  simp [State.completeVerification]

@[simp] theorem State.completeVerification_pe (id : Nat) (l : ClipLoad) : (s.completeVerification id l).pe = s.pe := by
  simp [State.completeVerification]

@[simp] theorem State.completeVerification_dcu (id : Nat) (l : ClipLoad) : (s.completeVerification id l).dcu = s.dcu := by
  simp [State.completeVerification]

@[simp] theorem State.completeVerification_cpc (id : Nat) (l : ClipLoad) : (s.completeVerification id l).cpc = s.cpc := by
  simp [State.completeVerification]

@[simp] theorem State.completeVerification_lm (id : Nat) (l : ClipLoad) : (s.completeVerification id l).lm = s.lm := by
  simp [State.completeVerification]

@[simp] theorem State.completeVerification_mu (id : Nat) (l : ClipLoad) : (s.completeVerification id l).mu = s.mu := by
  simp [State.completeVerification]

@[simp] theorem State.completeVerification_rcu (id : Nat) (l : ClipLoad) : (s.completeVerification id l).rcu = s.rcu := by
  simp [State.completeVerification]

@[simp] theorem State.completeVerification_clock (id : Nat) (l : ClipLoad) : (s.completeVerification id l).clock = s.clock := by
  simp [State.completeVerification]

@[simp] theorem State.completeVerification_pending (id : Nat) (l : ClipLoad) : (s.completeVerification id l).pending = s.pending := by
  simp [State.completeVerification]

/-! ### mapEntry -/

@[simp] theorem State.mapEntry_cs (pos : Nat) (f : Entry → Entry) : (s.mapEntry pos f).cs = s.cs := by
  simp [State.mapEntry]

@[simp] theorem State.mapEntry_pe (pos : Nat) (f : Entry → Entry) : (s.mapEntry pos f).pe = s.pe := by
  simp [State.mapEntry]

@[simp] theorem State.mapEntry_dcu (pos : Nat) (f : Entry → Entry) : (s.mapEntry pos f).dcu = s.dcu := by
  simp [State.mapEntry]

@[simp] theorem State.mapEntry_cpc (pos : Nat) (f : Entry → Entry) : (s.mapEntry pos f).cpc = s.cpc := by
  simp [State.mapEntry]

@[simp] theorem State.mapEntry_lm (pos : Nat) (f : Entry → Entry) : (s.mapEntry pos f).lm = s.lm := by
  simp [State.mapEntry]

@[simp] theorem State.mapEntry_mu (pos : Nat) (f : Entry → Entry) : (s.mapEntry pos f).mu = s.mu := by
  simp [State.mapEntry]

@[simp] theorem State.mapEntry_rcu (pos : Nat) (f : Entry → Entry) : (s.mapEntry pos f).rcu = s.rcu := by
  simp [State.mapEntry]

@[simp] theorem State.mapEntry_eu (pos : Nat) (f : Entry → Entry) : (s.mapEntry pos f).eu = s.eu := by
  simp [State.mapEntry]

@[simp] theorem State.mapEntry_sli (pos : Nat) (f : Entry → Entry) : (s.mapEntry pos f).sli = s.sli := by
  simp [State.mapEntry]

@[simp] theorem State.mapEntry_clock (pos : Nat) (f : Entry → Entry) : (s.mapEntry pos f).clock = s.clock := by
  simp [State.mapEntry]

@[simp] theorem State.mapEntry_pending (pos : Nat) (f : Entry → Entry) : (s.mapEntry pos f).pending = s.pending := by
  simp [State.mapEntry]

/-! ### mapHeld -/

@[simp] theorem State.mapHeld_cs (f : Runtime → Runtime) : (s.mapHeld f).cs = s.cs := by
  simp [State.mapHeld]

@[simp] theorem State.mapHeld_pe (f : Runtime → Runtime) : (s.mapHeld f).pe = s.pe := by
  simp [State.mapHeld]

@[simp] theorem State.mapHeld_dcu (f : Runtime → Runtime) : (s.mapHeld f).dcu = s.dcu := by
  simp [State.mapHeld]

@[simp] theorem State.mapHeld_cpc (f : Runtime → Runtime) : (s.mapHeld f).cpc = s.cpc := by
  simp [State.mapHeld]

@[simp] theorem State.mapHeld_lm (f : Runtime → Runtime) : (s.mapHeld f).lm = s.lm := by
  simp [State.mapHeld]

@[simp] theorem State.mapHeld_mu (f : Runtime → Runtime) : (s.mapHeld f).mu = s.mu := by
  simp [State.mapHeld]

@[simp] theorem State.mapHeld_rcu (f : Runtime → Runtime) : (s.mapHeld f).rcu = s.rcu := by
  simp [State.mapHeld]

@[simp] theorem State.mapHeld_eu (f : Runtime → Runtime) : (s.mapHeld f).eu = s.eu := by
  simp [State.mapHeld]

@[simp] theorem State.mapHeld_sli (f : Runtime → Runtime) : (s.mapHeld f).sli = s.sli := by
  simp [State.mapHeld]

@[simp] theorem State.mapHeld_clock (f : Runtime → Runtime) : (s.mapHeld f).clock = s.clock := by
  simp [State.mapHeld]

@[simp] theorem State.mapHeld_pending (f : Runtime → Runtime) : (s.mapHeld f).pending = s.pending := by
  simp [State.mapHeld]

/-! ### addDone -/

@[simp] theorem State.addDone_cs (tag : Nat) (kind : PlayKind) (flushed notify : Bool) (r : Runtime) : (s.addDone tag kind flushed notify r).cs = s.cs := by
  unfold State.addDone; dsimp only; split <;> simp

@[simp] theorem State.addDone_pe (tag : Nat) (kind : PlayKind) (flushed notify : Bool) (r : Runtime) : (s.addDone tag kind flushed notify r).pe = s.pe := by
  unfold State.addDone; dsimp only; split <;> simp

@[simp] theorem State.addDone_dcu (tag : Nat) (kind : PlayKind) (flushed notify : Bool) (r : Runtime) : (s.addDone tag kind flushed notify r).dcu = s.dcu := by
  unfold State.addDone; dsimp only; split <;> simp

@[simp] theorem State.addDone_cpc (tag : Nat) (kind : PlayKind) (flushed notify : Bool) (r : Runtime) : (s.addDone tag kind flushed notify r).cpc = s.cpc := by
  unfold State.addDone; dsimp only; split <;> simp

@[simp] theorem State.addDone_lm (tag : Nat) (kind : PlayKind) (flushed notify : Bool) (r : Runtime) : (s.addDone tag kind flushed notify r).lm = s.lm := by
  unfold State.addDone; dsimp only; split <;> simp

@[simp] theorem State.addDone_mu (tag : Nat) (kind : PlayKind) (flushed notify : Bool) (r : Runtime) : (s.addDone tag kind flushed notify r).mu = s.mu := by
  unfold State.addDone; dsimp only; split <;> simp

@[simp] theorem State.addDone_rcu (tag : Nat) (kind : PlayKind) (flushed notify : Bool) (r : Runtime) : (s.addDone tag kind flushed notify r).rcu = s.rcu := by
  unfold State.addDone; dsimp only; split <;> simp

@[simp] theorem State.addDone_clock (tag : Nat) (kind : PlayKind) (flushed notify : Bool) (r : Runtime) : (s.addDone tag kind flushed notify r).clock = s.clock := by
  unfold State.addDone; dsimp only; split <;> simp

@[simp] theorem State.addDone_pending (tag : Nat) (kind : PlayKind) (flushed notify : Bool) (r : Runtime) : (s.addDone tag kind flushed notify r).pending = s.pending := by
  unfold State.addDone; dsimp only; split <;> simp

/-! ### leaveEntry -/

@[simp] theorem State.leaveEntry_pe (flushed : Bool) (e : Entry) : (s.leaveEntry flushed e).pe = s.pe := by
  unfold State.leaveEntry; split <;> simp

@[simp] theorem State.leaveEntry_dcu (flushed : Bool) (e : Entry) : (s.leaveEntry flushed e).dcu = s.dcu := by
  unfold State.leaveEntry; split <;> simp

@[simp] theorem State.leaveEntry_cpc (flushed : Bool) (e : Entry) : (s.leaveEntry flushed e).cpc = s.cpc := by
  unfold State.leaveEntry; split <;> simp

@[simp] theorem State.leaveEntry_lm (flushed : Bool) (e : Entry) : (s.leaveEntry flushed e).lm = s.lm := by
  unfold State.leaveEntry; split <;> simp

@[simp] theorem State.leaveEntry_mu (flushed : Bool) (e : Entry) : (s.leaveEntry flushed e).mu = s.mu := by
  unfold State.leaveEntry; split <;> simp

@[simp] theorem State.leaveEntry_rcu (flushed : Bool) (e : Entry) : (s.leaveEntry flushed e).rcu = s.rcu := by
  unfold State.leaveEntry; split <;> simp

@[simp] theorem State.leaveEntry_clock (flushed : Bool) (e : Entry) : (s.leaveEntry flushed e).clock = s.clock := by
  unfold State.leaveEntry; split <;> simp

@[simp] theorem State.leaveEntry_pending (flushed : Bool) (e : Entry) : (s.leaveEntry flushed e).pending = s.pending := by
  unfold State.leaveEntry; split <;> simp

/-! ### retire -/

@[simp] theorem State.retire_pe (n : Nat) : (s.retire n).pe = s.pe := by
  induction n generalizing s with
  | zero => rfl
  | succ n ih => unfold State.retire; split <;> simp [ih]

@[simp] theorem State.retire_dcu (n : Nat) : (s.retire n).dcu = s.dcu := by
  induction n generalizing s with
  | zero => rfl
  | succ n ih => unfold State.retire; split <;> simp [ih]

@[simp] theorem State.retire_cpc (n : Nat) : (s.retire n).cpc = s.cpc := by
  induction n generalizing s with
  | zero => rfl
  | succ n ih => unfold State.retire; split <;> simp [ih]

@[simp] theorem State.retire_lm (n : Nat) : (s.retire n).lm = s.lm := by
  induction n generalizing s with
  | zero => rfl
  | succ n ih => unfold State.retire; split <;> simp [ih]

@[simp] theorem State.retire_mu (n : Nat) : (s.retire n).mu = s.mu := by
  induction n generalizing s with
  | zero => rfl
  | succ n ih => unfold State.retire; split <;> simp [ih]

@[simp] theorem State.retire_rcu (n : Nat) : (s.retire n).rcu = s.rcu := by
  induction n generalizing s with
  | zero => rfl
  | succ n ih => unfold State.retire; split <;> simp [ih]

@[simp] theorem State.retire_clock (n : Nat) : (s.retire n).clock = s.clock := by
  induction n generalizing s with
  | zero => rfl
  | succ n ih => unfold State.retire; split <;> simp [ih]

@[simp] theorem State.retire_pending (n : Nat) : (s.retire n).pending = s.pending := by
  induction n generalizing s with
  | zero => rfl
  | succ n ih => unfold State.retire; split <;> simp [ih]

/-! ### realRun -/

@[simp] theorem State.realRun_pe (start : Nat) : (s.realRun start).pe = s.pe := by
  simp [State.realRun]

@[simp] theorem State.realRun_dcu (start : Nat) : (s.realRun start).dcu = s.dcu := by
  simp [State.realRun]

@[simp] theorem State.realRun_cpc (start : Nat) : (s.realRun start).cpc = s.cpc := by
  simp [State.realRun]

@[simp] theorem State.realRun_lm (start : Nat) : (s.realRun start).lm = s.lm := by
  simp [State.realRun]

@[simp] theorem State.realRun_mu (start : Nat) : (s.realRun start).mu = s.mu := by
  simp [State.realRun]

@[simp] theorem State.realRun_rcu (start : Nat) : (s.realRun start).rcu = s.rcu := by
  simp [State.realRun]

@[simp] theorem State.realRun_clock (start : Nat) : (s.realRun start).clock = s.clock := by
  simp [State.realRun]

@[simp] theorem State.realRun_pending (start : Nat) : (s.realRun start).pending = s.pending := by
  simp [State.realRun]

/-! ### fireWatch -/

@[simp] theorem State.fireWatch_cs : (s.fireWatch).cs = s.cs := by
  unfold State.fireWatch; split <;> simp

@[simp] theorem State.fireWatch_pe : (s.fireWatch).pe = s.pe := by
  unfold State.fireWatch; split <;> simp

@[simp] theorem State.fireWatch_dcu : (s.fireWatch).dcu = s.dcu := by
  unfold State.fireWatch; split <;> simp

@[simp] theorem State.fireWatch_cpc : (s.fireWatch).cpc = s.cpc := by
  unfold State.fireWatch; split <;> simp

@[simp] theorem State.fireWatch_lm : (s.fireWatch).lm = s.lm := by
  unfold State.fireWatch; split <;> simp

@[simp] theorem State.fireWatch_mu : (s.fireWatch).mu = s.mu := by
  unfold State.fireWatch; split <;> simp

@[simp] theorem State.fireWatch_rcu : (s.fireWatch).rcu = s.rcu := by
  unfold State.fireWatch; split <;> simp

@[simp] theorem State.fireWatch_clock : (s.fireWatch).clock = s.clock := by
  unfold State.fireWatch; split <;> simp

@[simp] theorem State.fireWatch_pending : (s.fireWatch).pending = s.pending := by
  unfold State.fireWatch; split <;> simp

/-! ### enterState -/

@[simp] theorem State.enterState_cs (new : EngineState) (cause : Option EngineCause) : (s.enterState new cause).cs = s.cs := by
  simp [State.enterState]

@[simp] theorem State.enterState_sq (new : EngineState) (cause : Option EngineCause) : (s.enterState new cause).sq = s.sq := by
  simp [State.enterState]

@[simp] theorem State.enterState_dcu (new : EngineState) (cause : Option EngineCause) : (s.enterState new cause).dcu = s.dcu := by
  simp [State.enterState]

@[simp] theorem State.enterState_cpc (new : EngineState) (cause : Option EngineCause) : (s.enterState new cause).cpc = s.cpc := by
  simp [State.enterState]

@[simp] theorem State.enterState_lm (new : EngineState) (cause : Option EngineCause) : (s.enterState new cause).lm = s.lm := by
  simp [State.enterState]

@[simp] theorem State.enterState_mu (new : EngineState) (cause : Option EngineCause) : (s.enterState new cause).mu = s.mu := by
  simp [State.enterState]

@[simp] theorem State.enterState_rcu (new : EngineState) (cause : Option EngineCause) : (s.enterState new cause).rcu = s.rcu := by
  simp [State.enterState]

@[simp] theorem State.enterState_clock (new : EngineState) (cause : Option EngineCause) : (s.enterState new cause).clock = s.clock := by
  simp [State.enterState]

@[simp] theorem State.enterState_pending (new : EngineState) (cause : Option EngineCause) : (s.enterState new cause).pending = s.pending := by
  simp [State.enterState]

/-! ### enterStopped -/

@[simp] theorem State.enterStopped_cs (new : EngineState) (cause : Option EngineCause) : (s.enterStopped new cause).cs = s.cs := by
  simp [State.enterStopped]

@[simp] theorem State.enterStopped_dcu (new : EngineState) (cause : Option EngineCause) : (s.enterStopped new cause).dcu = s.dcu := by
  simp [State.enterStopped]

@[simp] theorem State.enterStopped_cpc (new : EngineState) (cause : Option EngineCause) : (s.enterStopped new cause).cpc = s.cpc := by
  simp [State.enterStopped]

@[simp] theorem State.enterStopped_lm (new : EngineState) (cause : Option EngineCause) : (s.enterStopped new cause).lm = s.lm := by
  simp [State.enterStopped]

@[simp] theorem State.enterStopped_mu (new : EngineState) (cause : Option EngineCause) : (s.enterStopped new cause).mu = s.mu := by
  simp [State.enterStopped]

@[simp] theorem State.enterStopped_rcu (new : EngineState) (cause : Option EngineCause) : (s.enterStopped new cause).rcu = s.rcu := by
  simp [State.enterStopped]

@[simp] theorem State.enterStopped_clock (new : EngineState) (cause : Option EngineCause) : (s.enterStopped new cause).clock = s.clock := by
  simp [State.enterStopped]

@[simp] theorem State.enterStopped_pending (new : EngineState) (cause : Option EngineCause) : (s.enterStopped new cause).pending = s.pending := by
  simp [State.enterStopped]

/-! ### enterRampOut -/

@[simp] theorem State.enterRampOut_cs (target : Target) (cause : EngineCause) : (s.enterRampOut target cause).cs = s.cs := by
  simp [State.enterRampOut]

@[simp] theorem State.enterRampOut_sq (target : Target) (cause : EngineCause) : (s.enterRampOut target cause).sq = s.sq := by
  simp [State.enterRampOut]

@[simp] theorem State.enterRampOut_dcu (target : Target) (cause : EngineCause) : (s.enterRampOut target cause).dcu = s.dcu := by
  simp [State.enterRampOut]

@[simp] theorem State.enterRampOut_cpc (target : Target) (cause : EngineCause) : (s.enterRampOut target cause).cpc = s.cpc := by
  simp [State.enterRampOut]

@[simp] theorem State.enterRampOut_lm (target : Target) (cause : EngineCause) : (s.enterRampOut target cause).lm = s.lm := by
  simp [State.enterRampOut]

@[simp] theorem State.enterRampOut_mu (target : Target) (cause : EngineCause) : (s.enterRampOut target cause).mu = s.mu := by
  simp [State.enterRampOut]

@[simp] theorem State.enterRampOut_rcu (target : Target) (cause : EngineCause) : (s.enterRampOut target cause).rcu = s.rcu := by
  simp [State.enterRampOut]

@[simp] theorem State.enterRampOut_clock (target : Target) (cause : EngineCause) : (s.enterRampOut target cause).clock = s.clock := by
  simp [State.enterRampOut]

@[simp] theorem State.enterRampOut_pending (target : Target) (cause : EngineCause) : (s.enterRampOut target cause).pending = s.pending := by
  simp [State.enterRampOut]

/-! ### passStart -/

@[simp] theorem State.passStart_cs : (s.passStart).cs = s.cs := by
  simp [State.passStart]

@[simp] theorem State.passStart_sq : (s.passStart).sq = s.sq := by
  simp [State.passStart]

@[simp] theorem State.passStart_pe : (s.passStart).pe = s.pe := by
  simp [State.passStart]

@[simp] theorem State.passStart_dcu : (s.passStart).dcu = s.dcu := by
  simp [State.passStart]

@[simp] theorem State.passStart_cpc : (s.passStart).cpc = s.cpc := by
  simp [State.passStart]

@[simp] theorem State.passStart_mu : (s.passStart).mu = s.mu := by
  simp [State.passStart]

@[simp] theorem State.passStart_rcu : (s.passStart).rcu = s.rcu := by
  simp [State.passStart]

@[simp] theorem State.passStart_eu : (s.passStart).eu = s.eu := by
  simp [State.passStart]

@[simp] theorem State.passStart_sli : (s.passStart).sli = s.sli := by
  simp [State.passStart]

@[simp] theorem State.passStart_clock : (s.passStart).clock = s.clock := by
  simp [State.passStart]

@[simp] theorem State.passStart_pending : (s.passStart).pending = s.pending := by
  simp [State.passStart]

/-! ### latchPending -/

@[simp] theorem State.latchPending_cs (g : Nat) : (s.latchPending g).cs = s.cs := by
  unfold State.latchPending; split <;> simp

@[simp] theorem State.latchPending_sq (g : Nat) : (s.latchPending g).sq = s.sq := by
  unfold State.latchPending; split <;> simp

@[simp] theorem State.latchPending_pe (g : Nat) : (s.latchPending g).pe = s.pe := by
  unfold State.latchPending; split <;> simp

@[simp] theorem State.latchPending_cpc (g : Nat) : (s.latchPending g).cpc = s.cpc := by
  unfold State.latchPending; split <;> simp

@[simp] theorem State.latchPending_lm (g : Nat) : (s.latchPending g).lm = s.lm := by
  unfold State.latchPending; split <;> simp

@[simp] theorem State.latchPending_mu (g : Nat) : (s.latchPending g).mu = s.mu := by
  unfold State.latchPending; split <;> simp

@[simp] theorem State.latchPending_rcu (g : Nat) : (s.latchPending g).rcu = s.rcu := by
  unfold State.latchPending; split <;> simp

@[simp] theorem State.latchPending_eu (g : Nat) : (s.latchPending g).eu = s.eu := by
  unfold State.latchPending; split <;> simp

@[simp] theorem State.latchPending_sli (g : Nat) : (s.latchPending g).sli = s.sli := by
  unfold State.latchPending; split <;> simp

@[simp] theorem State.latchPending_clock (g : Nat) : (s.latchPending g).clock = s.clock := by
  unfold State.latchPending; split <;> simp

@[simp] theorem State.latchPending_pending (g : Nat) : (s.latchPending g).pending = s.pending := by
  unfold State.latchPending; split <;> simp

/-! ### reloadPoint -/

@[simp] theorem State.reloadPoint_cs : (s.reloadPoint).cs = s.cs := by
  unfold State.reloadPoint; (repeat' split) <;> simp

@[simp] theorem State.reloadPoint_cpc : (s.reloadPoint).cpc = s.cpc := by
  unfold State.reloadPoint; (repeat' split) <;> simp

@[simp] theorem State.reloadPoint_lm : (s.reloadPoint).lm = s.lm := by
  unfold State.reloadPoint; (repeat' split) <;> simp

@[simp] theorem State.reloadPoint_mu : (s.reloadPoint).mu = s.mu := by
  unfold State.reloadPoint; (repeat' split) <;> simp

@[simp] theorem State.reloadPoint_rcu : (s.reloadPoint).rcu = s.rcu := by
  unfold State.reloadPoint; (repeat' split) <;> simp

@[simp] theorem State.reloadPoint_clock : (s.reloadPoint).clock = s.clock := by
  unfold State.reloadPoint; (repeat' split) <;> simp

@[simp] theorem State.reloadPoint_pending : (s.reloadPoint).pending = s.pending := by
  unfold State.reloadPoint; (repeat' split) <;> simp

/-! ### beginVisit -/

@[simp] theorem State.beginVisit_cpc : (s.beginVisit).cpc = s.cpc := by
  unfold State.beginVisit; (repeat' split) <;> simp

@[simp] theorem State.beginVisit_mu : (s.beginVisit).mu = s.mu := by
  unfold State.beginVisit; (repeat' split) <;> simp

@[simp] theorem State.beginVisit_rcu : (s.beginVisit).rcu = s.rcu := by
  unfold State.beginVisit; (repeat' split) <;> simp

@[simp] theorem State.beginVisit_clock : (s.beginVisit).clock = s.clock := by
  unfold State.beginVisit; (repeat' split) <;> simp

@[simp] theorem State.beginVisit_pending : (s.beginVisit).pending = s.pending := by
  unfold State.beginVisit; (repeat' split) <;> simp

/-! ### dropContextRef -/

@[simp] theorem State.dropContextRef_sq (c : Context) : (s.dropContextRef c).sq = s.sq := by
  unfold State.dropContextRef; split <;> simp

@[simp] theorem State.dropContextRef_pe (c : Context) : (s.dropContextRef c).pe = s.pe := by
  unfold State.dropContextRef; split <;> simp

@[simp] theorem State.dropContextRef_dcu (c : Context) : (s.dropContextRef c).dcu = s.dcu := by
  unfold State.dropContextRef; split <;> simp

@[simp] theorem State.dropContextRef_cpc (c : Context) : (s.dropContextRef c).cpc = s.cpc := by
  unfold State.dropContextRef; split <;> simp

@[simp] theorem State.dropContextRef_lm (c : Context) : (s.dropContextRef c).lm = s.lm := by
  unfold State.dropContextRef; split <;> simp

@[simp] theorem State.dropContextRef_mu (c : Context) : (s.dropContextRef c).mu = s.mu := by
  unfold State.dropContextRef; split <;> simp

@[simp] theorem State.dropContextRef_rcu (c : Context) : (s.dropContextRef c).rcu = s.rcu := by
  unfold State.dropContextRef; split <;> simp

@[simp] theorem State.dropContextRef_eu (c : Context) : (s.dropContextRef c).eu = s.eu := by
  unfold State.dropContextRef; split <;> simp

@[simp] theorem State.dropContextRef_sli (c : Context) : (s.dropContextRef c).sli = s.sli := by
  unfold State.dropContextRef; split <;> simp

@[simp] theorem State.dropContextRef_clock (c : Context) : (s.dropContextRef c).clock = s.clock := by
  unfold State.dropContextRef; split <;> simp

@[simp] theorem State.dropContextRef_pending (c : Context) : (s.dropContextRef c).pending = s.pending := by
  unfold State.dropContextRef; split <;> simp

/-! ### endVisit -/

@[simp] theorem State.endVisit_dcu (c : Context) : (s.endVisit c).dcu = s.dcu := by
  simp [State.endVisit]

@[simp] theorem State.endVisit_cpc (c : Context) : (s.endVisit c).cpc = s.cpc := by
  simp [State.endVisit]

@[simp] theorem State.endVisit_lm (c : Context) : (s.endVisit c).lm = s.lm := by
  simp [State.endVisit]

@[simp] theorem State.endVisit_mu (c : Context) : (s.endVisit c).mu = s.mu := by
  simp [State.endVisit]

@[simp] theorem State.endVisit_rcu (c : Context) : (s.endVisit c).rcu = s.rcu := by
  simp [State.endVisit]

@[simp] theorem State.endVisit_eu (c : Context) : (s.endVisit c).eu = s.eu := by
  simp [State.endVisit]

@[simp] theorem State.endVisit_sli (c : Context) : (s.endVisit c).sli = s.sli := by
  simp [State.endVisit]

@[simp] theorem State.endVisit_clock (c : Context) : (s.endVisit c).clock = s.clock := by
  simp [State.endVisit]

@[simp] theorem State.endVisit_pending (c : Context) : (s.endVisit c).pending = s.pending := by
  simp [State.endVisit]

/-! ### interruptVisit -/

@[simp] theorem State.interruptVisit_dcu (c : Context) : (s.interruptVisit c).dcu = s.dcu := by
  simp [State.interruptVisit]

@[simp] theorem State.interruptVisit_cpc (c : Context) : (s.interruptVisit c).cpc = s.cpc := by
  simp [State.interruptVisit]

@[simp] theorem State.interruptVisit_lm (c : Context) : (s.interruptVisit c).lm = s.lm := by
  simp [State.interruptVisit]

@[simp] theorem State.interruptVisit_mu (c : Context) : (s.interruptVisit c).mu = s.mu := by
  simp [State.interruptVisit]

@[simp] theorem State.interruptVisit_rcu (c : Context) : (s.interruptVisit c).rcu = s.rcu := by
  simp [State.interruptVisit]

@[simp] theorem State.interruptVisit_eu (c : Context) : (s.interruptVisit c).eu = s.eu := by
  simp [State.interruptVisit]

@[simp] theorem State.interruptVisit_sli (c : Context) : (s.interruptVisit c).sli = s.sli := by
  simp [State.interruptVisit]

@[simp] theorem State.interruptVisit_clock (c : Context) : (s.interruptVisit c).clock = s.clock := by
  simp [State.interruptVisit]

@[simp] theorem State.interruptVisit_pending (c : Context) : (s.interruptVisit c).pending = s.pending := by
  simp [State.interruptVisit]

/-! ### releaseContext -/

@[simp] theorem State.releaseContext_dcu : (s.releaseContext).dcu = s.dcu := by
  unfold State.releaseContext; (repeat' split) <;> simp

@[simp] theorem State.releaseContext_cpc : (s.releaseContext).cpc = s.cpc := by
  unfold State.releaseContext; (repeat' split) <;> simp

@[simp] theorem State.releaseContext_lm : (s.releaseContext).lm = s.lm := by
  unfold State.releaseContext; (repeat' split) <;> simp

@[simp] theorem State.releaseContext_mu : (s.releaseContext).mu = s.mu := by
  unfold State.releaseContext; (repeat' split) <;> simp

@[simp] theorem State.releaseContext_rcu : (s.releaseContext).rcu = s.rcu := by
  unfold State.releaseContext; (repeat' split) <;> simp

@[simp] theorem State.releaseContext_clock : (s.releaseContext).clock = s.clock := by
  unfold State.releaseContext; (repeat' split) <;> simp

@[simp] theorem State.releaseContext_pending : (s.releaseContext).pending = s.pending := by
  unfold State.releaseContext; (repeat' split) <;> simp

/-! ### countPass -/

@[simp] theorem State.countPass_cs (c : Context) : (s.countPass c).cs = s.cs := by
  unfold State.countPass; split <;> simp

@[simp] theorem State.countPass_dcu (c : Context) : (s.countPass c).dcu = s.dcu := by
  unfold State.countPass; split <;> simp

@[simp] theorem State.countPass_cpc (c : Context) : (s.countPass c).cpc = s.cpc := by
  unfold State.countPass; split <;> simp

@[simp] theorem State.countPass_lm (c : Context) : (s.countPass c).lm = s.lm := by
  unfold State.countPass; split <;> simp

@[simp] theorem State.countPass_mu (c : Context) : (s.countPass c).mu = s.mu := by
  unfold State.countPass; split <;> simp

@[simp] theorem State.countPass_rcu (c : Context) : (s.countPass c).rcu = s.rcu := by
  unfold State.countPass; split <;> simp

@[simp] theorem State.countPass_eu (c : Context) : (s.countPass c).eu = s.eu := by
  unfold State.countPass; split <;> simp

@[simp] theorem State.countPass_sli (c : Context) : (s.countPass c).sli = s.sli := by
  unfold State.countPass; split <;> simp

@[simp] theorem State.countPass_clock (c : Context) : (s.countPass c).clock = s.clock := by
  unfold State.countPass; split <;> simp

@[simp] theorem State.countPass_pending (c : Context) : (s.countPass c).pending = s.pending := by
  unfold State.countPass; split <;> simp

/-! ### overrunOut -/

@[simp] theorem State.overrunOut_cs (c : Context) (cause : EngineCause) : (s.overrunOut c cause).cs = s.cs := by
  simp [State.overrunOut]

@[simp] theorem State.overrunOut_sq (c : Context) (cause : EngineCause) : (s.overrunOut c cause).sq = s.sq := by
  simp [State.overrunOut]

@[simp] theorem State.overrunOut_dcu (c : Context) (cause : EngineCause) : (s.overrunOut c cause).dcu = s.dcu := by
  simp [State.overrunOut]

@[simp] theorem State.overrunOut_cpc (c : Context) (cause : EngineCause) : (s.overrunOut c cause).cpc = s.cpc := by
  simp [State.overrunOut]

@[simp] theorem State.overrunOut_mu (c : Context) (cause : EngineCause) : (s.overrunOut c cause).mu = s.mu := by
  simp [State.overrunOut]

@[simp] theorem State.overrunOut_rcu (c : Context) (cause : EngineCause) : (s.overrunOut c cause).rcu = s.rcu := by
  simp [State.overrunOut]

@[simp] theorem State.overrunOut_clock (c : Context) (cause : EngineCause) : (s.overrunOut c cause).clock = s.clock := by
  simp [State.overrunOut]

@[simp] theorem State.overrunOut_pending (c : Context) (cause : EngineCause) : (s.overrunOut c cause).pending = s.pending := by
  simp [State.overrunOut]

/-! ### passEndPlaying -/

@[simp] theorem State.passEndPlaying_cpc : (s.passEndPlaying).cpc = s.cpc := by
  unfold State.passEndPlaying; dsimp only; (repeat' split) <;> simp

@[simp] theorem State.passEndPlaying_mu : (s.passEndPlaying).mu = s.mu := by
  unfold State.passEndPlaying; dsimp only; (repeat' split) <;> simp

@[simp] theorem State.passEndPlaying_rcu : (s.passEndPlaying).rcu = s.rcu := by
  unfold State.passEndPlaying; dsimp only; (repeat' split) <;> simp

@[simp] theorem State.passEndPlaying_clock : (s.passEndPlaying).clock = s.clock := by
  unfold State.passEndPlaying; dsimp only; (repeat' split) <;> simp

@[simp] theorem State.passEndPlaying_pending : (s.passEndPlaying).pending = s.pending := by
  unfold State.passEndPlaying; dsimp only; (repeat' split) <;> simp

/-! ### passEndRampOut -/

@[simp] theorem State.passEndRampOut_cs : (s.passEndRampOut).cs = s.cs := by
  unfold State.passEndRampOut; split <;> simp

@[simp] theorem State.passEndRampOut_sq : (s.passEndRampOut).sq = s.sq := by
  unfold State.passEndRampOut; split <;> simp

@[simp] theorem State.passEndRampOut_dcu : (s.passEndRampOut).dcu = s.dcu := by
  unfold State.passEndRampOut; split <;> simp

@[simp] theorem State.passEndRampOut_cpc : (s.passEndRampOut).cpc = s.cpc := by
  unfold State.passEndRampOut; split <;> simp

@[simp] theorem State.passEndRampOut_mu : (s.passEndRampOut).mu = s.mu := by
  unfold State.passEndRampOut; split <;> simp

@[simp] theorem State.passEndRampOut_rcu : (s.passEndRampOut).rcu = s.rcu := by
  unfold State.passEndRampOut; split <;> simp

@[simp] theorem State.passEndRampOut_eu : (s.passEndRampOut).eu = s.eu := by
  unfold State.passEndRampOut; split <;> simp

@[simp] theorem State.passEndRampOut_sli : (s.passEndRampOut).sli = s.sli := by
  unfold State.passEndRampOut; split <;> simp

@[simp] theorem State.passEndRampOut_clock : (s.passEndRampOut).clock = s.clock := by
  unfold State.passEndRampOut; split <;> simp

@[simp] theorem State.passEndRampOut_pending : (s.passEndRampOut).pending = s.pending := by
  unfold State.passEndRampOut; split <;> simp

/-! ### endRampOut -/

@[simp] theorem State.endRampOut_dcu : (s.endRampOut).dcu = s.dcu := by
  unfold State.endRampOut; dsimp only; split <;> simp

@[simp] theorem State.endRampOut_cpc : (s.endRampOut).cpc = s.cpc := by
  unfold State.endRampOut; dsimp only; split <;> simp

@[simp] theorem State.endRampOut_lm : (s.endRampOut).lm = s.lm := by
  unfold State.endRampOut; dsimp only; split <;> simp

@[simp] theorem State.endRampOut_mu : (s.endRampOut).mu = s.mu := by
  unfold State.endRampOut; dsimp only; split <;> simp

@[simp] theorem State.endRampOut_rcu : (s.endRampOut).rcu = s.rcu := by
  unfold State.endRampOut; dsimp only; split <;> simp

@[simp] theorem State.endRampOut_clock : (s.endRampOut).clock = s.clock := by
  unfold State.endRampOut; dsimp only; split <;> simp

@[simp] theorem State.endRampOut_pending : (s.endRampOut).pending = s.pending := by
  unfold State.endRampOut; dsimp only; split <;> simp

/-! ### rampStep -/

@[simp] theorem State.rampStep_cs : (s.rampStep).cs = s.cs := by
  unfold State.rampStep; dsimp only; (repeat' split) <;> simp

@[simp] theorem State.rampStep_sq : (s.rampStep).sq = s.sq := by
  unfold State.rampStep; dsimp only; (repeat' split) <;> simp

@[simp] theorem State.rampStep_dcu : (s.rampStep).dcu = s.dcu := by
  unfold State.rampStep; dsimp only; (repeat' split) <;> simp

@[simp] theorem State.rampStep_cpc : (s.rampStep).cpc = s.cpc := by
  unfold State.rampStep; dsimp only; (repeat' split) <;> simp

@[simp] theorem State.rampStep_lm : (s.rampStep).lm = s.lm := by
  unfold State.rampStep; dsimp only; (repeat' split) <;> simp

@[simp] theorem State.rampStep_mu : (s.rampStep).mu = s.mu := by
  unfold State.rampStep; dsimp only; (repeat' split) <;> simp

@[simp] theorem State.rampStep_rcu : (s.rampStep).rcu = s.rcu := by
  unfold State.rampStep; dsimp only; (repeat' split) <;> simp

@[simp] theorem State.rampStep_clock : (s.rampStep).clock = s.clock := by
  unfold State.rampStep; dsimp only; (repeat' split) <;> simp

@[simp] theorem State.rampStep_pending : (s.rampStep).pending = s.pending := by
  unfold State.rampStep; dsimp only; (repeat' split) <;> simp

/-! ### enterTripped -/

@[simp] theorem State.enterTripped_cs (cause : EngineCause) (ch : Option Nat) : (s.enterTripped cause ch).cs = s.cs := by
  simp [State.enterTripped]

@[simp] theorem State.enterTripped_dcu (cause : EngineCause) (ch : Option Nat) : (s.enterTripped cause ch).dcu = s.dcu := by
  simp [State.enterTripped]

@[simp] theorem State.enterTripped_cpc (cause : EngineCause) (ch : Option Nat) : (s.enterTripped cause ch).cpc = s.cpc := by
  simp [State.enterTripped]

@[simp] theorem State.enterTripped_lm (cause : EngineCause) (ch : Option Nat) : (s.enterTripped cause ch).lm = s.lm := by
  simp [State.enterTripped]

@[simp] theorem State.enterTripped_mu (cause : EngineCause) (ch : Option Nat) : (s.enterTripped cause ch).mu = s.mu := by
  simp [State.enterTripped]

@[simp] theorem State.enterTripped_rcu (cause : EngineCause) (ch : Option Nat) : (s.enterTripped cause ch).rcu = s.rcu := by
  simp [State.enterTripped]

@[simp] theorem State.enterTripped_clock (cause : EngineCause) (ch : Option Nat) : (s.enterTripped cause ch).clock = s.clock := by
  simp [State.enterTripped]

@[simp] theorem State.enterTripped_pending (cause : EngineCause) (ch : Option Nat) : (s.enterTripped cause ch).pending = s.pending := by
  simp [State.enterTripped]

/-! ### actionEffect -/

@[simp] theorem State.actionEffect_dcu (a : Action) (cause : EngineCause) (ch : Option Nat) : (s.actionEffect a cause ch).dcu = s.dcu := by
  unfold State.actionEffect; (repeat' split) <;> simp

@[simp] theorem State.actionEffect_cpc (a : Action) (cause : EngineCause) (ch : Option Nat) : (s.actionEffect a cause ch).cpc = s.cpc := by
  unfold State.actionEffect; (repeat' split) <;> simp

@[simp] theorem State.actionEffect_lm (a : Action) (cause : EngineCause) (ch : Option Nat) : (s.actionEffect a cause ch).lm = s.lm := by
  unfold State.actionEffect; (repeat' split) <;> simp

@[simp] theorem State.actionEffect_mu (a : Action) (cause : EngineCause) (ch : Option Nat) : (s.actionEffect a cause ch).mu = s.mu := by
  unfold State.actionEffect; (repeat' split) <;> simp

@[simp] theorem State.actionEffect_rcu (a : Action) (cause : EngineCause) (ch : Option Nat) : (s.actionEffect a cause ch).rcu = s.rcu := by
  unfold State.actionEffect; (repeat' split) <;> simp

@[simp] theorem State.actionEffect_clock (a : Action) (cause : EngineCause) (ch : Option Nat) : (s.actionEffect a cause ch).clock = s.clock := by
  unfold State.actionEffect; (repeat' split) <;> simp

@[simp] theorem State.actionEffect_pending (a : Action) (cause : EngineCause) (ch : Option Nat) : (s.actionEffect a cause ch).pending = s.pending := by
  unfold State.actionEffect; (repeat' split) <;> simp

/-! ### applyAction -/

@[simp] theorem State.applyAction_dcu (a : Action) (cause : EngineCause) (ch : Option Nat) : (s.applyAction a cause ch).dcu = s.dcu := by
  unfold State.applyAction; dsimp only; split <;> simp

@[simp] theorem State.applyAction_cpc (a : Action) (cause : EngineCause) (ch : Option Nat) : (s.applyAction a cause ch).cpc = s.cpc := by
  unfold State.applyAction; dsimp only; split <;> simp

@[simp] theorem State.applyAction_lm (a : Action) (cause : EngineCause) (ch : Option Nat) : (s.applyAction a cause ch).lm = s.lm := by
  unfold State.applyAction; dsimp only; split <;> simp

@[simp] theorem State.applyAction_mu (a : Action) (cause : EngineCause) (ch : Option Nat) : (s.applyAction a cause ch).mu = s.mu := by
  unfold State.applyAction; dsimp only; split <;> simp

@[simp] theorem State.applyAction_rcu (a : Action) (cause : EngineCause) (ch : Option Nat) : (s.applyAction a cause ch).rcu = s.rcu := by
  unfold State.applyAction; dsimp only; split <;> simp

@[simp] theorem State.applyAction_clock (a : Action) (cause : EngineCause) (ch : Option Nat) : (s.applyAction a cause ch).clock = s.clock := by
  unfold State.applyAction; dsimp only; split <;> simp

@[simp] theorem State.applyAction_pending (a : Action) (cause : EngineCause) (ch : Option Nat) : (s.applyAction a cause ch).pending = s.pending := by
  unfold State.applyAction; dsimp only; split <;> simp

/-! ### setCut -/

@[simp] theorem State.setCut_cs : (s.setCut).cs = s.cs := by
  simp [State.setCut]

@[simp] theorem State.setCut_sq : (s.setCut).sq = s.sq := by
  simp [State.setCut]

@[simp] theorem State.setCut_dcu : (s.setCut).dcu = s.dcu := by
  simp [State.setCut]

@[simp] theorem State.setCut_cpc : (s.setCut).cpc = s.cpc := by
  simp [State.setCut]

@[simp] theorem State.setCut_lm : (s.setCut).lm = s.lm := by
  simp [State.setCut]

@[simp] theorem State.setCut_mu : (s.setCut).mu = s.mu := by
  simp [State.setCut]

@[simp] theorem State.setCut_rcu : (s.setCut).rcu = s.rcu := by
  simp [State.setCut]

@[simp] theorem State.setCut_eu : (s.setCut).eu = s.eu := by
  simp [State.setCut]

@[simp] theorem State.setCut_sli : (s.setCut).sli = s.sli := by
  simp [State.setCut]

@[simp] theorem State.setCut_clock : (s.setCut).clock = s.clock := by
  simp [State.setCut]

@[simp] theorem State.setCut_pending : (s.setCut).pending = s.pending := by
  simp [State.setCut]

/-! ### markCut -/

@[simp] theorem State.markCut_cs : (s.markCut).cs = s.cs := by
  unfold State.markCut; split <;> simp

@[simp] theorem State.markCut_sq : (s.markCut).sq = s.sq := by
  unfold State.markCut; split <;> simp

@[simp] theorem State.markCut_dcu : (s.markCut).dcu = s.dcu := by
  unfold State.markCut; split <;> simp

@[simp] theorem State.markCut_cpc : (s.markCut).cpc = s.cpc := by
  unfold State.markCut; split <;> simp

@[simp] theorem State.markCut_lm : (s.markCut).lm = s.lm := by
  unfold State.markCut; split <;> simp

@[simp] theorem State.markCut_mu : (s.markCut).mu = s.mu := by
  unfold State.markCut; split <;> simp

@[simp] theorem State.markCut_rcu : (s.markCut).rcu = s.rcu := by
  unfold State.markCut; split <;> simp

@[simp] theorem State.markCut_eu : (s.markCut).eu = s.eu := by
  unfold State.markCut; split <;> simp

@[simp] theorem State.markCut_sli : (s.markCut).sli = s.sli := by
  unfold State.markCut; split <;> simp

@[simp] theorem State.markCut_clock : (s.markCut).clock = s.clock := by
  unfold State.markCut; split <;> simp

@[simp] theorem State.markCut_pending : (s.markCut).pending = s.pending := by
  unfold State.markCut; split <;> simp

/-! ### fireDetector -/

@[simp] theorem State.fireDetector_dcu (r : LimitRecord) : (s.fireDetector r).dcu = s.dcu := by
  unfold State.fireDetector; dsimp only; split <;> simp

@[simp] theorem State.fireDetector_cpc (r : LimitRecord) : (s.fireDetector r).cpc = s.cpc := by
  unfold State.fireDetector; dsimp only; split <;> simp

@[simp] theorem State.fireDetector_lm (r : LimitRecord) : (s.fireDetector r).lm = s.lm := by
  unfold State.fireDetector; dsimp only; split <;> simp

@[simp] theorem State.fireDetector_mu (r : LimitRecord) : (s.fireDetector r).mu = s.mu := by
  unfold State.fireDetector; dsimp only; split <;> simp

@[simp] theorem State.fireDetector_rcu (r : LimitRecord) : (s.fireDetector r).rcu = s.rcu := by
  unfold State.fireDetector; dsimp only; split <;> simp

@[simp] theorem State.fireDetector_clock (r : LimitRecord) : (s.fireDetector r).clock = s.clock := by
  unfold State.fireDetector; dsimp only; split <;> simp

@[simp] theorem State.fireDetector_pending (r : LimitRecord) : (s.fireDetector r).pending = s.pending := by
  unfold State.fireDetector; dsimp only; split <;> simp

/-! ### evalEnvelope -/

@[simp] theorem State.evalEnvelope_dcu (ch : Nat) (f : Int) (stamp : Nat) : (s.evalEnvelope ch f stamp).dcu = s.dcu := by
  unfold State.evalEnvelope; dsimp only; (repeat' split) <;> simp

@[simp] theorem State.evalEnvelope_cpc (ch : Nat) (f : Int) (stamp : Nat) : (s.evalEnvelope ch f stamp).cpc = s.cpc := by
  unfold State.evalEnvelope; dsimp only; (repeat' split) <;> simp

@[simp] theorem State.evalEnvelope_mu (ch : Nat) (f : Int) (stamp : Nat) : (s.evalEnvelope ch f stamp).mu = s.mu := by
  unfold State.evalEnvelope; dsimp only; (repeat' split) <;> simp

@[simp] theorem State.evalEnvelope_rcu (ch : Nat) (f : Int) (stamp : Nat) : (s.evalEnvelope ch f stamp).rcu = s.rcu := by
  unfold State.evalEnvelope; dsimp only; (repeat' split) <;> simp

@[simp] theorem State.evalEnvelope_clock (ch : Nat) (f : Int) (stamp : Nat) : (s.evalEnvelope ch f stamp).clock = s.clock := by
  unfold State.evalEnvelope; dsimp only; (repeat' split) <;> simp

@[simp] theorem State.evalEnvelope_pending (ch : Nat) (f : Int) (stamp : Nat) : (s.evalEnvelope ch f stamp).pending = s.pending := by
  unfold State.evalEnvelope; dsimp only; (repeat' split) <;> simp

/-! ### evalTracking -/

@[simp] theorem State.evalTracking_dcu (ch : Nat) (f : Int) (stamp : Nat) : (s.evalTracking ch f stamp).dcu = s.dcu := by
  unfold State.evalTracking; dsimp only; (repeat' split) <;> simp

@[simp] theorem State.evalTracking_cpc (ch : Nat) (f : Int) (stamp : Nat) : (s.evalTracking ch f stamp).cpc = s.cpc := by
  unfold State.evalTracking; dsimp only; (repeat' split) <;> simp

@[simp] theorem State.evalTracking_mu (ch : Nat) (f : Int) (stamp : Nat) : (s.evalTracking ch f stamp).mu = s.mu := by
  unfold State.evalTracking; dsimp only; (repeat' split) <;> simp

@[simp] theorem State.evalTracking_rcu (ch : Nat) (f : Int) (stamp : Nat) : (s.evalTracking ch f stamp).rcu = s.rcu := by
  unfold State.evalTracking; dsimp only; (repeat' split) <;> simp

@[simp] theorem State.evalTracking_clock (ch : Nat) (f : Int) (stamp : Nat) : (s.evalTracking ch f stamp).clock = s.clock := by
  unfold State.evalTracking; dsimp only; (repeat' split) <;> simp

@[simp] theorem State.evalTracking_pending (ch : Nat) (f : Int) (stamp : Nat) : (s.evalTracking ch f stamp).pending = s.pending := by
  unfold State.evalTracking; dsimp only; (repeat' split) <;> simp

/-! ### evalClamp -/

@[simp] theorem State.evalClamp_dcu (ch : Nat) : (s.evalClamp ch).dcu = s.dcu := by
  unfold State.evalClamp; dsimp only; (repeat' split) <;> simp

@[simp] theorem State.evalClamp_cpc (ch : Nat) : (s.evalClamp ch).cpc = s.cpc := by
  unfold State.evalClamp; dsimp only; (repeat' split) <;> simp

@[simp] theorem State.evalClamp_mu (ch : Nat) : (s.evalClamp ch).mu = s.mu := by
  unfold State.evalClamp; dsimp only; (repeat' split) <;> simp

@[simp] theorem State.evalClamp_rcu (ch : Nat) : (s.evalClamp ch).rcu = s.rcu := by
  unfold State.evalClamp; dsimp only; (repeat' split) <;> simp

@[simp] theorem State.evalClamp_clock (ch : Nat) : (s.evalClamp ch).clock = s.clock := by
  unfold State.evalClamp; dsimp only; (repeat' split) <;> simp

@[simp] theorem State.evalClamp_pending (ch : Nat) : (s.evalClamp ch).pending = s.pending := by
  unfold State.evalClamp; dsimp only; (repeat' split) <;> simp

/-! ### mapStat -/

@[simp] theorem State.mapStat_cs (ch : Nat) (f : StatRecord → StatRecord) : (s.mapStat ch f).cs = s.cs := by
  unfold State.mapStat; (repeat' split) <;> simp

@[simp] theorem State.mapStat_sq (ch : Nat) (f : StatRecord → StatRecord) : (s.mapStat ch f).sq = s.sq := by
  unfold State.mapStat; (repeat' split) <;> simp

@[simp] theorem State.mapStat_dcu (ch : Nat) (f : StatRecord → StatRecord) : (s.mapStat ch f).dcu = s.dcu := by
  unfold State.mapStat; (repeat' split) <;> simp

@[simp] theorem State.mapStat_cpc (ch : Nat) (f : StatRecord → StatRecord) : (s.mapStat ch f).cpc = s.cpc := by
  unfold State.mapStat; (repeat' split) <;> simp

@[simp] theorem State.mapStat_lm (ch : Nat) (f : StatRecord → StatRecord) : (s.mapStat ch f).lm = s.lm := by
  unfold State.mapStat; (repeat' split) <;> simp

@[simp] theorem State.mapStat_mu (ch : Nat) (f : StatRecord → StatRecord) : (s.mapStat ch f).mu = s.mu := by
  unfold State.mapStat; (repeat' split) <;> simp

@[simp] theorem State.mapStat_rcu (ch : Nat) (f : StatRecord → StatRecord) : (s.mapStat ch f).rcu = s.rcu := by
  unfold State.mapStat; (repeat' split) <;> simp

@[simp] theorem State.mapStat_eu (ch : Nat) (f : StatRecord → StatRecord) : (s.mapStat ch f).eu = s.eu := by
  unfold State.mapStat; (repeat' split) <;> simp

@[simp] theorem State.mapStat_sli (ch : Nat) (f : StatRecord → StatRecord) : (s.mapStat ch f).sli = s.sli := by
  unfold State.mapStat; (repeat' split) <;> simp

@[simp] theorem State.mapStat_clock (ch : Nat) (f : StatRecord → StatRecord) : (s.mapStat ch f).clock = s.clock := by
  unfold State.mapStat; (repeat' split) <;> simp

@[simp] theorem State.mapStat_pending (ch : Nat) (f : StatRecord → StatRecord) : (s.mapStat ch f).pending = s.pending := by
  unfold State.mapStat; (repeat' split) <;> simp

/-! ### takeFeedback -/

@[simp] theorem State.takeFeedback_cs (ch : Nat) (f : Int) : (s.takeFeedback ch f).cs = s.cs := by
  unfold State.takeFeedback; split <;> simp

@[simp] theorem State.takeFeedback_sq (ch : Nat) (f : Int) : (s.takeFeedback ch f).sq = s.sq := by
  unfold State.takeFeedback; split <;> simp

@[simp] theorem State.takeFeedback_dcu (ch : Nat) (f : Int) : (s.takeFeedback ch f).dcu = s.dcu := by
  unfold State.takeFeedback; split <;> simp

@[simp] theorem State.takeFeedback_cpc (ch : Nat) (f : Int) : (s.takeFeedback ch f).cpc = s.cpc := by
  unfold State.takeFeedback; split <;> simp

@[simp] theorem State.takeFeedback_lm (ch : Nat) (f : Int) : (s.takeFeedback ch f).lm = s.lm := by
  unfold State.takeFeedback; split <;> simp

@[simp] theorem State.takeFeedback_mu (ch : Nat) (f : Int) : (s.takeFeedback ch f).mu = s.mu := by
  unfold State.takeFeedback; split <;> simp

@[simp] theorem State.takeFeedback_rcu (ch : Nat) (f : Int) : (s.takeFeedback ch f).rcu = s.rcu := by
  unfold State.takeFeedback; split <;> simp

@[simp] theorem State.takeFeedback_eu (ch : Nat) (f : Int) : (s.takeFeedback ch f).eu = s.eu := by
  unfold State.takeFeedback; split <;> simp

@[simp] theorem State.takeFeedback_sli (ch : Nat) (f : Int) : (s.takeFeedback ch f).sli = s.sli := by
  unfold State.takeFeedback; split <;> simp

@[simp] theorem State.takeFeedback_clock (ch : Nat) (f : Int) : (s.takeFeedback ch f).clock = s.clock := by
  unfold State.takeFeedback; split <;> simp

@[simp] theorem State.takeFeedback_pending (ch : Nat) (f : Int) : (s.takeFeedback ch f).pending = s.pending := by
  unfold State.takeFeedback; split <;> simp

/-! ### limitFeedback -/

@[simp] theorem State.limitFeedback_dcu (ch : Nat) (f : Int) (stamp : Nat) : (s.limitFeedback ch f stamp).dcu = s.dcu := by
  simp [State.limitFeedback]

@[simp] theorem State.limitFeedback_cpc (ch : Nat) (f : Int) (stamp : Nat) : (s.limitFeedback ch f stamp).cpc = s.cpc := by
  simp [State.limitFeedback]

@[simp] theorem State.limitFeedback_mu (ch : Nat) (f : Int) (stamp : Nat) : (s.limitFeedback ch f stamp).mu = s.mu := by
  simp [State.limitFeedback]

@[simp] theorem State.limitFeedback_rcu (ch : Nat) (f : Int) (stamp : Nat) : (s.limitFeedback ch f stamp).rcu = s.rcu := by
  simp [State.limitFeedback]

@[simp] theorem State.limitFeedback_clock (ch : Nat) (f : Int) (stamp : Nat) : (s.limitFeedback ch f stamp).clock = s.clock := by
  simp [State.limitFeedback]

@[simp] theorem State.limitFeedback_pending (ch : Nat) (f : Int) (stamp : Nat) : (s.limitFeedback ch f stamp).pending = s.pending := by
  simp [State.limitFeedback]

/-! ### flagChange -/

@[simp] theorem State.flagChange_cs (ch : Nat) : (s.flagChange ch).cs = s.cs := by
  simp [State.flagChange]

@[simp] theorem State.flagChange_sq (ch : Nat) : (s.flagChange ch).sq = s.sq := by
  simp [State.flagChange]

@[simp] theorem State.flagChange_pe (ch : Nat) : (s.flagChange ch).pe = s.pe := by
  simp [State.flagChange]

@[simp] theorem State.flagChange_dcu (ch : Nat) : (s.flagChange ch).dcu = s.dcu := by
  simp [State.flagChange]

@[simp] theorem State.flagChange_lm (ch : Nat) : (s.flagChange ch).lm = s.lm := by
  simp [State.flagChange]

@[simp] theorem State.flagChange_mu (ch : Nat) : (s.flagChange ch).mu = s.mu := by
  simp [State.flagChange]

@[simp] theorem State.flagChange_rcu (ch : Nat) : (s.flagChange ch).rcu = s.rcu := by
  simp [State.flagChange]

@[simp] theorem State.flagChange_clock (ch : Nat) : (s.flagChange ch).clock = s.clock := by
  simp [State.flagChange]

@[simp] theorem State.flagChange_pending (ch : Nat) : (s.flagChange ch).pending = s.pending := by
  simp [State.flagChange]

/-! ### faultChannel -/

@[simp] theorem State.faultChannel_dcu (ch : Nat) (cause : FaultCause) : (s.faultChannel ch cause).dcu = s.dcu := by
  unfold State.faultChannel; dsimp only; split <;> simp

@[simp] theorem State.faultChannel_lm (ch : Nat) (cause : FaultCause) : (s.faultChannel ch cause).lm = s.lm := by
  unfold State.faultChannel; dsimp only; split <;> simp

@[simp] theorem State.faultChannel_mu (ch : Nat) (cause : FaultCause) : (s.faultChannel ch cause).mu = s.mu := by
  unfold State.faultChannel; dsimp only; split <;> simp

@[simp] theorem State.faultChannel_rcu (ch : Nat) (cause : FaultCause) : (s.faultChannel ch cause).rcu = s.rcu := by
  unfold State.faultChannel; dsimp only; split <;> simp

@[simp] theorem State.faultChannel_clock (ch : Nat) (cause : FaultCause) : (s.faultChannel ch cause).clock = s.clock := by
  unfold State.faultChannel; dsimp only; split <;> simp

@[simp] theorem State.faultChannel_pending (ch : Nat) (cause : FaultCause) : (s.faultChannel ch cause).pending = s.pending := by
  unfold State.faultChannel; dsimp only; split <;> simp

/-! ### closeWindow -/

@[simp] theorem State.closeWindow_dcu (ch : Nat) : (s.closeWindow ch).dcu = s.dcu := by
  unfold State.closeWindow; dsimp only; (repeat' split) <;> simp

@[simp] theorem State.closeWindow_lm (ch : Nat) : (s.closeWindow ch).lm = s.lm := by
  unfold State.closeWindow; dsimp only; (repeat' split) <;> simp

@[simp] theorem State.closeWindow_mu (ch : Nat) : (s.closeWindow ch).mu = s.mu := by
  unfold State.closeWindow; dsimp only; (repeat' split) <;> simp

@[simp] theorem State.closeWindow_rcu (ch : Nat) : (s.closeWindow ch).rcu = s.rcu := by
  unfold State.closeWindow; dsimp only; (repeat' split) <;> simp

@[simp] theorem State.closeWindow_clock (ch : Nat) : (s.closeWindow ch).clock = s.clock := by
  unfold State.closeWindow; dsimp only; (repeat' split) <;> simp

@[simp] theorem State.closeWindow_pending (ch : Nat) : (s.closeWindow ch).pending = s.pending := by
  unfold State.closeWindow; dsimp only; (repeat' split) <;> simp

/-! ### closeWindows -/

@[simp] theorem State.closeWindows_dcu : (s.closeWindows).dcu = s.dcu := by
  exact foldl_keeps (fun t => t.dcu) _ (fun t ch => State.closeWindow_dcu t ch) _ s

@[simp] theorem State.closeWindows_lm : (s.closeWindows).lm = s.lm := by
  exact foldl_keeps (fun t => t.lm) _ (fun t ch => State.closeWindow_lm t ch) _ s

@[simp] theorem State.closeWindows_mu : (s.closeWindows).mu = s.mu := by
  exact foldl_keeps (fun t => t.mu) _ (fun t ch => State.closeWindow_mu t ch) _ s

@[simp] theorem State.closeWindows_rcu : (s.closeWindows).rcu = s.rcu := by
  exact foldl_keeps (fun t => t.rcu) _ (fun t ch => State.closeWindow_rcu t ch) _ s

@[simp] theorem State.closeWindows_clock : (s.closeWindows).clock = s.clock := by
  exact foldl_keeps (fun t => t.clock) _ (fun t ch => State.closeWindow_clock t ch) _ s

@[simp] theorem State.closeWindows_pending : (s.closeWindows).pending = s.pending := by
  exact foldl_keeps (fun t => t.pending) _ (fun t ch => State.closeWindow_pending t ch) _ s

/-! ### sendRecord -/

@[simp] theorem State.sendRecord_cs (ch : Nat) : (s.sendRecord ch).cs = s.cs := by
  unfold State.sendRecord; dsimp only; split <;> simp

@[simp] theorem State.sendRecord_sq (ch : Nat) : (s.sendRecord ch).sq = s.sq := by
  unfold State.sendRecord; dsimp only; split <;> simp

@[simp] theorem State.sendRecord_pe (ch : Nat) : (s.sendRecord ch).pe = s.pe := by
  unfold State.sendRecord; dsimp only; split <;> simp

@[simp] theorem State.sendRecord_dcu (ch : Nat) : (s.sendRecord ch).dcu = s.dcu := by
  unfold State.sendRecord; dsimp only; split <;> simp

@[simp] theorem State.sendRecord_lm (ch : Nat) : (s.sendRecord ch).lm = s.lm := by
  unfold State.sendRecord; dsimp only; split <;> simp

@[simp] theorem State.sendRecord_mu (ch : Nat) : (s.sendRecord ch).mu = s.mu := by
  unfold State.sendRecord; dsimp only; split <;> simp

@[simp] theorem State.sendRecord_rcu (ch : Nat) : (s.sendRecord ch).rcu = s.rcu := by
  unfold State.sendRecord; dsimp only; split <;> simp

@[simp] theorem State.sendRecord_eu (ch : Nat) : (s.sendRecord ch).eu = s.eu := by
  unfold State.sendRecord; dsimp only; split <;> simp

@[simp] theorem State.sendRecord_sli (ch : Nat) : (s.sendRecord ch).sli = s.sli := by
  unfold State.sendRecord; dsimp only; split <;> simp

@[simp] theorem State.sendRecord_clock (ch : Nat) : (s.sendRecord ch).clock = s.clock := by
  unfold State.sendRecord; dsimp only; split <;> simp

@[simp] theorem State.sendRecord_pending (ch : Nat) : (s.sendRecord ch).pending = s.pending := by
  unfold State.sendRecord; dsimp only; split <;> simp

/-! ### sendRecords -/

@[simp] theorem State.sendRecords_cs : (s.sendRecords).cs = s.cs := by
  exact foldl_keeps (fun t => t.cs) _ (fun t ch => State.sendRecord_cs t ch) _ s

@[simp] theorem State.sendRecords_sq : (s.sendRecords).sq = s.sq := by
  exact foldl_keeps (fun t => t.sq) _ (fun t ch => State.sendRecord_sq t ch) _ s

@[simp] theorem State.sendRecords_pe : (s.sendRecords).pe = s.pe := by
  exact foldl_keeps (fun t => t.pe) _ (fun t ch => State.sendRecord_pe t ch) _ s

@[simp] theorem State.sendRecords_dcu : (s.sendRecords).dcu = s.dcu := by
  exact foldl_keeps (fun t => t.dcu) _ (fun t ch => State.sendRecord_dcu t ch) _ s

@[simp] theorem State.sendRecords_lm : (s.sendRecords).lm = s.lm := by
  exact foldl_keeps (fun t => t.lm) _ (fun t ch => State.sendRecord_lm t ch) _ s

@[simp] theorem State.sendRecords_mu : (s.sendRecords).mu = s.mu := by
  exact foldl_keeps (fun t => t.mu) _ (fun t ch => State.sendRecord_mu t ch) _ s

@[simp] theorem State.sendRecords_rcu : (s.sendRecords).rcu = s.rcu := by
  exact foldl_keeps (fun t => t.rcu) _ (fun t ch => State.sendRecord_rcu t ch) _ s

@[simp] theorem State.sendRecords_eu : (s.sendRecords).eu = s.eu := by
  exact foldl_keeps (fun t => t.eu) _ (fun t ch => State.sendRecord_eu t ch) _ s

@[simp] theorem State.sendRecords_sli : (s.sendRecords).sli = s.sli := by
  exact foldl_keeps (fun t => t.sli) _ (fun t ch => State.sendRecord_sli t ch) _ s

@[simp] theorem State.sendRecords_clock : (s.sendRecords).clock = s.clock := by
  exact foldl_keeps (fun t => t.clock) _ (fun t ch => State.sendRecord_clock t ch) _ s

@[simp] theorem State.sendRecords_pending : (s.sendRecords).pending = s.pending := by
  exact foldl_keeps (fun t => t.pending) _ (fun t ch => State.sendRecord_pending t ch) _ s

/-! ### actOnStatus -/

@[simp] theorem State.actOnStatus_dcu (ch : Nat) (f : Int) (st : ServoStatus) (stamp : Nat) : (s.actOnStatus ch f st stamp).dcu = s.dcu := by
  unfold State.actOnStatus; split <;> simp

@[simp] theorem State.actOnStatus_mu (ch : Nat) (f : Int) (st : ServoStatus) (stamp : Nat) : (s.actOnStatus ch f st stamp).mu = s.mu := by
  unfold State.actOnStatus; split <;> simp

@[simp] theorem State.actOnStatus_rcu (ch : Nat) (f : Int) (st : ServoStatus) (stamp : Nat) : (s.actOnStatus ch f st stamp).rcu = s.rcu := by
  unfold State.actOnStatus; split <;> simp

@[simp] theorem State.actOnStatus_clock (ch : Nat) (f : Int) (st : ServoStatus) (stamp : Nat) : (s.actOnStatus ch f st stamp).clock = s.clock := by
  unfold State.actOnStatus; split <;> simp

@[simp] theorem State.actOnStatus_pending (ch : Nat) (f : Int) (st : ServoStatus) (stamp : Nat) : (s.actOnStatus ch f st stamp).pending = s.pending := by
  unfold State.actOnStatus; split <;> simp

/-! ### takeResponse -/

@[simp] theorem State.takeResponse_dcu (ch : Nat) (w : Window) (f sp : Int) (st : ServoStatus) : (s.takeResponse ch w f sp st).dcu = s.dcu := by
  simp [State.takeResponse]

@[simp] theorem State.takeResponse_mu (ch : Nat) (w : Window) (f sp : Int) (st : ServoStatus) : (s.takeResponse ch w f sp st).mu = s.mu := by
  simp [State.takeResponse]

@[simp] theorem State.takeResponse_rcu (ch : Nat) (w : Window) (f sp : Int) (st : ServoStatus) : (s.takeResponse ch w f sp st).rcu = s.rcu := by
  simp [State.takeResponse]

@[simp] theorem State.takeResponse_clock (ch : Nat) (w : Window) (f sp : Int) (st : ServoStatus) : (s.takeResponse ch w f sp st).clock = s.clock := by
  simp [State.takeResponse]

@[simp] theorem State.takeResponse_pending (ch : Nat) (w : Window) (f sp : Int) (st : ServoStatus) : (s.takeResponse ch w f sp st).pending = s.pending := by
  simp [State.takeResponse]

/-! ### engageChannel -/

@[simp] theorem State.engageChannel_cs (ch : Nat) : (s.engageChannel ch).cs = s.cs := by
  simp [State.engageChannel]

@[simp] theorem State.engageChannel_sq (ch : Nat) : (s.engageChannel ch).sq = s.sq := by
  simp [State.engageChannel]

@[simp] theorem State.engageChannel_pe (ch : Nat) : (s.engageChannel ch).pe = s.pe := by
  simp [State.engageChannel]

@[simp] theorem State.engageChannel_mu (ch : Nat) : (s.engageChannel ch).mu = s.mu := by
  simp [State.engageChannel]

@[simp] theorem State.engageChannel_rcu (ch : Nat) : (s.engageChannel ch).rcu = s.rcu := by
  simp [State.engageChannel]

@[simp] theorem State.engageChannel_eu (ch : Nat) : (s.engageChannel ch).eu = s.eu := by
  simp [State.engageChannel]

@[simp] theorem State.engageChannel_sli (ch : Nat) : (s.engageChannel ch).sli = s.sli := by
  simp [State.engageChannel]

@[simp] theorem State.engageChannel_clock (ch : Nat) : (s.engageChannel ch).clock = s.clock := by
  simp [State.engageChannel]

@[simp] theorem State.engageChannel_pending (ch : Nat) : (s.engageChannel ch).pending = s.pending := by
  simp [State.engageChannel]

/-! ### markCapture -/

@[simp] theorem State.markCapture_cs (m : Nat) (u : MarkUnit) : (s.markCapture m u).cs = s.cs := by
  unfold State.markCapture; dsimp only; split <;> simp

@[simp] theorem State.markCapture_sq (m : Nat) (u : MarkUnit) : (s.markCapture m u).sq = s.sq := by
  unfold State.markCapture; dsimp only; split <;> simp

@[simp] theorem State.markCapture_pe (m : Nat) (u : MarkUnit) : (s.markCapture m u).pe = s.pe := by
  unfold State.markCapture; dsimp only; split <;> simp

@[simp] theorem State.markCapture_dcu (m : Nat) (u : MarkUnit) : (s.markCapture m u).dcu = s.dcu := by
  unfold State.markCapture; dsimp only; split <;> simp

@[simp] theorem State.markCapture_cpc (m : Nat) (u : MarkUnit) : (s.markCapture m u).cpc = s.cpc := by
  unfold State.markCapture; dsimp only; split <;> simp

@[simp] theorem State.markCapture_lm (m : Nat) (u : MarkUnit) : (s.markCapture m u).lm = s.lm := by
  unfold State.markCapture; dsimp only; split <;> simp

@[simp] theorem State.markCapture_rcu (m : Nat) (u : MarkUnit) : (s.markCapture m u).rcu = s.rcu := by
  unfold State.markCapture; dsimp only; split <;> simp

@[simp] theorem State.markCapture_clock (m : Nat) (u : MarkUnit) : (s.markCapture m u).clock = s.clock := by
  unfold State.markCapture; dsimp only; split <;> simp

@[simp] theorem State.markCapture_pending (m : Nat) (u : MarkUnit) : (s.markCapture m u).pending = s.pending := by
  unfold State.markCapture; dsimp only; split <;> simp

/-! ### markEdge -/

@[simp] theorem State.markEdge_cs (m : Nat) (rising : Bool) : (s.markEdge m rising).cs = s.cs := by
  unfold State.markEdge; dsimp only; (repeat' split) <;> simp

@[simp] theorem State.markEdge_sq (m : Nat) (rising : Bool) : (s.markEdge m rising).sq = s.sq := by
  unfold State.markEdge; dsimp only; (repeat' split) <;> simp

@[simp] theorem State.markEdge_pe (m : Nat) (rising : Bool) : (s.markEdge m rising).pe = s.pe := by
  unfold State.markEdge; dsimp only; (repeat' split) <;> simp

@[simp] theorem State.markEdge_dcu (m : Nat) (rising : Bool) : (s.markEdge m rising).dcu = s.dcu := by
  unfold State.markEdge; dsimp only; (repeat' split) <;> simp

@[simp] theorem State.markEdge_cpc (m : Nat) (rising : Bool) : (s.markEdge m rising).cpc = s.cpc := by
  unfold State.markEdge; dsimp only; (repeat' split) <;> simp

@[simp] theorem State.markEdge_lm (m : Nat) (rising : Bool) : (s.markEdge m rising).lm = s.lm := by
  unfold State.markEdge; dsimp only; (repeat' split) <;> simp

@[simp] theorem State.markEdge_rcu (m : Nat) (rising : Bool) : (s.markEdge m rising).rcu = s.rcu := by
  unfold State.markEdge; dsimp only; (repeat' split) <;> simp

@[simp] theorem State.markEdge_clock (m : Nat) (rising : Bool) : (s.markEdge m rising).clock = s.clock := by
  unfold State.markEdge; dsimp only; (repeat' split) <;> simp

@[simp] theorem State.markEdge_pending (m : Nat) (rising : Bool) : (s.markEdge m rising).pending = s.pending := by
  unfold State.markEdge; dsimp only; (repeat' split) <;> simp

/-! ### markCompare -/

@[simp] theorem State.markCompare_cs (p : PlayPosition) (m : Nat) : (State.markCompare p s m).cs = s.cs := by
  unfold State.markCompare; dsimp only; (repeat' split) <;> simp

@[simp] theorem State.markCompare_sq (p : PlayPosition) (m : Nat) : (State.markCompare p s m).sq = s.sq := by
  unfold State.markCompare; dsimp only; (repeat' split) <;> simp

@[simp] theorem State.markCompare_dcu (p : PlayPosition) (m : Nat) : (State.markCompare p s m).dcu = s.dcu := by
  unfold State.markCompare; dsimp only; (repeat' split) <;> simp

@[simp] theorem State.markCompare_cpc (p : PlayPosition) (m : Nat) : (State.markCompare p s m).cpc = s.cpc := by
  unfold State.markCompare; dsimp only; (repeat' split) <;> simp

@[simp] theorem State.markCompare_lm (p : PlayPosition) (m : Nat) : (State.markCompare p s m).lm = s.lm := by
  unfold State.markCompare; dsimp only; (repeat' split) <;> simp

@[simp] theorem State.markCompare_rcu (p : PlayPosition) (m : Nat) : (State.markCompare p s m).rcu = s.rcu := by
  unfold State.markCompare; dsimp only; (repeat' split) <;> simp

@[simp] theorem State.markCompare_clock (p : PlayPosition) (m : Nat) : (State.markCompare p s m).clock = s.clock := by
  unfold State.markCompare; dsimp only; (repeat' split) <;> simp

@[simp] theorem State.markCompare_pending (p : PlayPosition) (m : Nat) : (State.markCompare p s m).pending = s.pending := by
  unfold State.markCompare; dsimp only; (repeat' split) <;> simp

/-! ### markStage -/

@[simp] theorem State.markStage_cs : (s.markStage).cs = s.cs := by
  unfold State.markStage; split
  · rfl
  · exact foldl_keeps (fun t => t.cs) _ (fun t m => State.markCompare_cs t _ m) _ s

@[simp] theorem State.markStage_sq : (s.markStage).sq = s.sq := by
  unfold State.markStage; split
  · rfl
  · exact foldl_keeps (fun t => t.sq) _ (fun t m => State.markCompare_sq t _ m) _ s

@[simp] theorem State.markStage_dcu : (s.markStage).dcu = s.dcu := by
  unfold State.markStage; split
  · rfl
  · exact foldl_keeps (fun t => t.dcu) _ (fun t m => State.markCompare_dcu t _ m) _ s

@[simp] theorem State.markStage_cpc : (s.markStage).cpc = s.cpc := by
  unfold State.markStage; split
  · rfl
  · exact foldl_keeps (fun t => t.cpc) _ (fun t m => State.markCompare_cpc t _ m) _ s

@[simp] theorem State.markStage_lm : (s.markStage).lm = s.lm := by
  unfold State.markStage; split
  · rfl
  · exact foldl_keeps (fun t => t.lm) _ (fun t m => State.markCompare_lm t _ m) _ s

@[simp] theorem State.markStage_rcu : (s.markStage).rcu = s.rcu := by
  unfold State.markStage; split
  · rfl
  · exact foldl_keeps (fun t => t.rcu) _ (fun t m => State.markCompare_rcu t _ m) _ s

@[simp] theorem State.markStage_clock : (s.markStage).clock = s.clock := by
  unfold State.markStage; split
  · rfl
  · exact foldl_keeps (fun t => t.clock) _ (fun t m => State.markCompare_clock t _ m) _ s

@[simp] theorem State.markStage_pending : (s.markStage).pending = s.pending := by
  unfold State.markStage; split
  · rfl
  · exact foldl_keeps (fun t => t.pending) _ (fun t m => State.markCompare_pending t _ m) _ s

/-! ### completeCapture -/

@[simp] theorem State.completeCapture_cs (h : Header) : (s.completeCapture h).cs = s.cs := by
  simp [State.completeCapture]

@[simp] theorem State.completeCapture_sq (h : Header) : (s.completeCapture h).sq = s.sq := by
  simp [State.completeCapture]

@[simp] theorem State.completeCapture_pe (h : Header) : (s.completeCapture h).pe = s.pe := by
  simp [State.completeCapture]

@[simp] theorem State.completeCapture_dcu (h : Header) : (s.completeCapture h).dcu = s.dcu := by
  simp [State.completeCapture]

@[simp] theorem State.completeCapture_cpc (h : Header) : (s.completeCapture h).cpc = s.cpc := by
  simp [State.completeCapture]

@[simp] theorem State.completeCapture_lm (h : Header) : (s.completeCapture h).lm = s.lm := by
  simp [State.completeCapture]

@[simp] theorem State.completeCapture_mu (h : Header) : (s.completeCapture h).mu = s.mu := by
  simp [State.completeCapture]

@[simp] theorem State.completeCapture_clock (h : Header) : (s.completeCapture h).clock = s.clock := by
  simp [State.completeCapture]

@[simp] theorem State.completeCapture_pending (h : Header) : (s.completeCapture h).pending = s.pending := by
  simp [State.completeCapture]

/-! ### takeRecord -/

@[simp] theorem State.takeRecord_cs (h : Header) (pos : Option Position) : (s.takeRecord h pos).cs = s.cs := by
  unfold State.takeRecord; dsimp only; split <;> simp

@[simp] theorem State.takeRecord_sq (h : Header) (pos : Option Position) : (s.takeRecord h pos).sq = s.sq := by
  unfold State.takeRecord; dsimp only; split <;> simp

@[simp] theorem State.takeRecord_pe (h : Header) (pos : Option Position) : (s.takeRecord h pos).pe = s.pe := by
  unfold State.takeRecord; dsimp only; split <;> simp

@[simp] theorem State.takeRecord_dcu (h : Header) (pos : Option Position) : (s.takeRecord h pos).dcu = s.dcu := by
  unfold State.takeRecord; dsimp only; split <;> simp

@[simp] theorem State.takeRecord_cpc (h : Header) (pos : Option Position) : (s.takeRecord h pos).cpc = s.cpc := by
  unfold State.takeRecord; dsimp only; split <;> simp

@[simp] theorem State.takeRecord_lm (h : Header) (pos : Option Position) : (s.takeRecord h pos).lm = s.lm := by
  unfold State.takeRecord; dsimp only; split <;> simp

@[simp] theorem State.takeRecord_mu (h : Header) (pos : Option Position) : (s.takeRecord h pos).mu = s.mu := by
  unfold State.takeRecord; dsimp only; split <;> simp

@[simp] theorem State.takeRecord_clock (h : Header) (pos : Option Position) : (s.takeRecord h pos).clock = s.clock := by
  unfold State.takeRecord; dsimp only; split <;> simp

@[simp] theorem State.takeRecord_pending (h : Header) (pos : Option Position) : (s.takeRecord h pos).pending = s.pending := by
  unfold State.takeRecord; dsimp only; split <;> simp

/-! ### captureUpdate -/

@[simp] theorem State.captureUpdate_cs (pos : Option Position) : (s.captureUpdate pos).cs = s.cs := by
  unfold State.captureUpdate; (repeat' split) <;> simp

@[simp] theorem State.captureUpdate_sq (pos : Option Position) : (s.captureUpdate pos).sq = s.sq := by
  unfold State.captureUpdate; (repeat' split) <;> simp

@[simp] theorem State.captureUpdate_pe (pos : Option Position) : (s.captureUpdate pos).pe = s.pe := by
  unfold State.captureUpdate; (repeat' split) <;> simp

@[simp] theorem State.captureUpdate_dcu (pos : Option Position) : (s.captureUpdate pos).dcu = s.dcu := by
  unfold State.captureUpdate; (repeat' split) <;> simp

@[simp] theorem State.captureUpdate_cpc (pos : Option Position) : (s.captureUpdate pos).cpc = s.cpc := by
  unfold State.captureUpdate; (repeat' split) <;> simp

@[simp] theorem State.captureUpdate_lm (pos : Option Position) : (s.captureUpdate pos).lm = s.lm := by
  unfold State.captureUpdate; (repeat' split) <;> simp

@[simp] theorem State.captureUpdate_mu (pos : Option Position) : (s.captureUpdate pos).mu = s.mu := by
  unfold State.captureUpdate; (repeat' split) <;> simp

@[simp] theorem State.captureUpdate_clock (pos : Option Position) : (s.captureUpdate pos).clock = s.clock := by
  unfold State.captureUpdate; (repeat' split) <;> simp

@[simp] theorem State.captureUpdate_pending (pos : Option Position) : (s.captureUpdate pos).pending = s.pending := by
  unfold State.captureUpdate; (repeat' split) <;> simp

/-! ### captureTrigger -/

@[simp] theorem State.captureTrigger_cs (t : Trigger) : (s.captureTrigger t).cs = s.cs := by
  unfold State.captureTrigger; split <;> simp

@[simp] theorem State.captureTrigger_sq (t : Trigger) : (s.captureTrigger t).sq = s.sq := by
  unfold State.captureTrigger; split <;> simp

@[simp] theorem State.captureTrigger_pe (t : Trigger) : (s.captureTrigger t).pe = s.pe := by
  unfold State.captureTrigger; split <;> simp

@[simp] theorem State.captureTrigger_dcu (t : Trigger) : (s.captureTrigger t).dcu = s.dcu := by
  unfold State.captureTrigger; split <;> simp

@[simp] theorem State.captureTrigger_cpc (t : Trigger) : (s.captureTrigger t).cpc = s.cpc := by
  unfold State.captureTrigger; split <;> simp

@[simp] theorem State.captureTrigger_lm (t : Trigger) : (s.captureTrigger t).lm = s.lm := by
  unfold State.captureTrigger; split <;> simp

@[simp] theorem State.captureTrigger_mu (t : Trigger) : (s.captureTrigger t).mu = s.mu := by
  unfold State.captureTrigger; split <;> simp

@[simp] theorem State.captureTrigger_eu (t : Trigger) : (s.captureTrigger t).eu = s.eu := by
  unfold State.captureTrigger; split <;> simp

@[simp] theorem State.captureTrigger_sli (t : Trigger) : (s.captureTrigger t).sli = s.sli := by
  unfold State.captureTrigger; split <;> simp

@[simp] theorem State.captureTrigger_clock (t : Trigger) : (s.captureTrigger t).clock = s.clock := by
  unfold State.captureTrigger; split <;> simp

@[simp] theorem State.captureTrigger_pending (t : Trigger) : (s.captureTrigger t).pending = s.pending := by
  unfold State.captureTrigger; split <;> simp

/-! ### lateTrigger -/

@[simp] theorem State.lateTrigger_cs (pos : Option Position) (t : Trigger) : (s.lateTrigger pos t).cs = s.cs := by
  unfold State.lateTrigger; dsimp only; split <;> simp

@[simp] theorem State.lateTrigger_sq (pos : Option Position) (t : Trigger) : (s.lateTrigger pos t).sq = s.sq := by
  unfold State.lateTrigger; dsimp only; split <;> simp

@[simp] theorem State.lateTrigger_pe (pos : Option Position) (t : Trigger) : (s.lateTrigger pos t).pe = s.pe := by
  unfold State.lateTrigger; dsimp only; split <;> simp

@[simp] theorem State.lateTrigger_dcu (pos : Option Position) (t : Trigger) : (s.lateTrigger pos t).dcu = s.dcu := by
  unfold State.lateTrigger; dsimp only; split <;> simp

@[simp] theorem State.lateTrigger_cpc (pos : Option Position) (t : Trigger) : (s.lateTrigger pos t).cpc = s.cpc := by
  unfold State.lateTrigger; dsimp only; split <;> simp

@[simp] theorem State.lateTrigger_lm (pos : Option Position) (t : Trigger) : (s.lateTrigger pos t).lm = s.lm := by
  unfold State.lateTrigger; dsimp only; split <;> simp

@[simp] theorem State.lateTrigger_mu (pos : Option Position) (t : Trigger) : (s.lateTrigger pos t).mu = s.mu := by
  unfold State.lateTrigger; dsimp only; split <;> simp

@[simp] theorem State.lateTrigger_clock (pos : Option Position) (t : Trigger) : (s.lateTrigger pos t).clock = s.clock := by
  unfold State.lateTrigger; dsimp only; split <;> simp

@[simp] theorem State.lateTrigger_pending (pos : Option Position) (t : Trigger) : (s.lateTrigger pos t).pending = s.pending := by
  unfold State.lateTrigger; dsimp only; split <;> simp

/-! ### captureSplit -/

@[simp] theorem State.captureSplit_cs (before after : List Trigger) (pos : Option Position) :
    (s.captureSplit before after pos).cs = s.cs := by
  rw [State.captureSplit, foldl_keeps (fun t => t.cs) (State.lateTrigger pos) (fun t x => State.lateTrigger_cs t pos x),
    State.captureUpdate_cs, foldl_keeps (fun t => t.cs) State.captureTrigger (fun t x => State.captureTrigger_cs t x)]

@[simp] theorem State.captureSplit_sq (before after : List Trigger) (pos : Option Position) :
    (s.captureSplit before after pos).sq = s.sq := by
  rw [State.captureSplit, foldl_keeps (fun t => t.sq) (State.lateTrigger pos) (fun t x => State.lateTrigger_sq t pos x),
    State.captureUpdate_sq, foldl_keeps (fun t => t.sq) State.captureTrigger (fun t x => State.captureTrigger_sq t x)]

@[simp] theorem State.captureSplit_pe (before after : List Trigger) (pos : Option Position) :
    (s.captureSplit before after pos).pe = s.pe := by
  rw [State.captureSplit, foldl_keeps (fun t => t.pe) (State.lateTrigger pos) (fun t x => State.lateTrigger_pe t pos x),
    State.captureUpdate_pe, foldl_keeps (fun t => t.pe) State.captureTrigger (fun t x => State.captureTrigger_pe t x)]

@[simp] theorem State.captureSplit_dcu (before after : List Trigger) (pos : Option Position) :
    (s.captureSplit before after pos).dcu = s.dcu := by
  rw [State.captureSplit, foldl_keeps (fun t => t.dcu) (State.lateTrigger pos) (fun t x => State.lateTrigger_dcu t pos x),
    State.captureUpdate_dcu, foldl_keeps (fun t => t.dcu) State.captureTrigger (fun t x => State.captureTrigger_dcu t x)]

@[simp] theorem State.captureSplit_cpc (before after : List Trigger) (pos : Option Position) :
    (s.captureSplit before after pos).cpc = s.cpc := by
  rw [State.captureSplit, foldl_keeps (fun t => t.cpc) (State.lateTrigger pos) (fun t x => State.lateTrigger_cpc t pos x),
    State.captureUpdate_cpc, foldl_keeps (fun t => t.cpc) State.captureTrigger (fun t x => State.captureTrigger_cpc t x)]

@[simp] theorem State.captureSplit_lm (before after : List Trigger) (pos : Option Position) :
    (s.captureSplit before after pos).lm = s.lm := by
  rw [State.captureSplit, foldl_keeps (fun t => t.lm) (State.lateTrigger pos) (fun t x => State.lateTrigger_lm t pos x),
    State.captureUpdate_lm, foldl_keeps (fun t => t.lm) State.captureTrigger (fun t x => State.captureTrigger_lm t x)]

@[simp] theorem State.captureSplit_mu (before after : List Trigger) (pos : Option Position) :
    (s.captureSplit before after pos).mu = s.mu := by
  rw [State.captureSplit, foldl_keeps (fun t => t.mu) (State.lateTrigger pos) (fun t x => State.lateTrigger_mu t pos x),
    State.captureUpdate_mu, foldl_keeps (fun t => t.mu) State.captureTrigger (fun t x => State.captureTrigger_mu t x)]

@[simp] theorem State.captureSplit_clock (before after : List Trigger) (pos : Option Position) :
    (s.captureSplit before after pos).clock = s.clock := by
  rw [State.captureSplit, foldl_keeps (fun t => t.clock) (State.lateTrigger pos) (fun t x => State.lateTrigger_clock t pos x),
    State.captureUpdate_clock, foldl_keeps (fun t => t.clock) State.captureTrigger (fun t x => State.captureTrigger_clock t x)]

@[simp] theorem State.captureSplit_pending (before after : List Trigger) (pos : Option Position) :
    (s.captureSplit before after pos).pending = s.pending := by
  rw [State.captureSplit, foldl_keeps (fun t => t.pending) (State.lateTrigger pos) (fun t x => State.lateTrigger_pending t pos x),
    State.captureUpdate_pending, foldl_keeps (fun t => t.pending) State.captureTrigger (fun t x => State.captureTrigger_pending t x)]

/-! ### captureStage -/

@[simp] theorem State.captureStage_cs (ts : List Trigger) (pos : Option Position) : (s.captureStage ts pos).cs = s.cs := by
  unfold State.captureStage; split
  · simp
  · rw [State.captureUpdate_cs, foldl_keeps (fun t => t.cs) State.captureTrigger (fun t x => State.captureTrigger_cs t x)]

@[simp] theorem State.captureStage_sq (ts : List Trigger) (pos : Option Position) : (s.captureStage ts pos).sq = s.sq := by
  unfold State.captureStage; split
  · simp
  · rw [State.captureUpdate_sq, foldl_keeps (fun t => t.sq) State.captureTrigger (fun t x => State.captureTrigger_sq t x)]

@[simp] theorem State.captureStage_pe (ts : List Trigger) (pos : Option Position) : (s.captureStage ts pos).pe = s.pe := by
  unfold State.captureStage; split
  · simp
  · rw [State.captureUpdate_pe, foldl_keeps (fun t => t.pe) State.captureTrigger (fun t x => State.captureTrigger_pe t x)]

@[simp] theorem State.captureStage_dcu (ts : List Trigger) (pos : Option Position) : (s.captureStage ts pos).dcu = s.dcu := by
  unfold State.captureStage; split
  · simp
  · rw [State.captureUpdate_dcu, foldl_keeps (fun t => t.dcu) State.captureTrigger (fun t x => State.captureTrigger_dcu t x)]

@[simp] theorem State.captureStage_cpc (ts : List Trigger) (pos : Option Position) : (s.captureStage ts pos).cpc = s.cpc := by
  unfold State.captureStage; split
  · simp
  · rw [State.captureUpdate_cpc, foldl_keeps (fun t => t.cpc) State.captureTrigger (fun t x => State.captureTrigger_cpc t x)]

@[simp] theorem State.captureStage_lm (ts : List Trigger) (pos : Option Position) : (s.captureStage ts pos).lm = s.lm := by
  unfold State.captureStage; split
  · simp
  · rw [State.captureUpdate_lm, foldl_keeps (fun t => t.lm) State.captureTrigger (fun t x => State.captureTrigger_lm t x)]

@[simp] theorem State.captureStage_mu (ts : List Trigger) (pos : Option Position) : (s.captureStage ts pos).mu = s.mu := by
  unfold State.captureStage; split
  · simp
  · rw [State.captureUpdate_mu, foldl_keeps (fun t => t.mu) State.captureTrigger (fun t x => State.captureTrigger_mu t x)]

@[simp] theorem State.captureStage_clock (ts : List Trigger) (pos : Option Position) : (s.captureStage ts pos).clock = s.clock := by
  unfold State.captureStage; split
  · simp
  · rw [State.captureUpdate_clock, foldl_keeps (fun t => t.clock) State.captureTrigger (fun t x => State.captureTrigger_clock t x)]

@[simp] theorem State.captureStage_pending (ts : List Trigger) (pos : Option Position) : (s.captureStage ts pos).pending = s.pending := by
  unfold State.captureStage; split
  · simp
  · rw [State.captureUpdate_pending, foldl_keeps (fun t => t.pending) State.captureTrigger (fun t x => State.captureTrigger_pending t x)]

/-! ### stampFirst -/

@[simp] theorem State.stampFirst_cs : (s.stampFirst).cs = s.cs := by
  unfold State.stampFirst; (repeat' split) <;> simp

@[simp] theorem State.stampFirst_dcu : (s.stampFirst).dcu = s.dcu := by
  unfold State.stampFirst; (repeat' split) <;> simp

@[simp] theorem State.stampFirst_cpc : (s.stampFirst).cpc = s.cpc := by
  unfold State.stampFirst; (repeat' split) <;> simp

@[simp] theorem State.stampFirst_lm : (s.stampFirst).lm = s.lm := by
  unfold State.stampFirst; (repeat' split) <;> simp

@[simp] theorem State.stampFirst_mu : (s.stampFirst).mu = s.mu := by
  unfold State.stampFirst; (repeat' split) <;> simp

@[simp] theorem State.stampFirst_rcu : (s.stampFirst).rcu = s.rcu := by
  unfold State.stampFirst; (repeat' split) <;> simp

@[simp] theorem State.stampFirst_eu : (s.stampFirst).eu = s.eu := by
  unfold State.stampFirst; (repeat' split) <;> simp

@[simp] theorem State.stampFirst_sli : (s.stampFirst).sli = s.sli := by
  unfold State.stampFirst; (repeat' split) <;> simp

@[simp] theorem State.stampFirst_clock : (s.stampFirst).clock = s.clock := by
  unfold State.stampFirst; (repeat' split) <;> simp

@[simp] theorem State.stampFirst_pending : (s.stampFirst).pending = s.pending := by
  unfold State.stampFirst; (repeat' split) <;> simp

/-! ### dropCaptureDue -/

@[simp] theorem State.dropCaptureDue_cs : (s.dropCaptureDue).cs = s.cs := by
  simp [State.dropCaptureDue]

@[simp] theorem State.dropCaptureDue_sq : (s.dropCaptureDue).sq = s.sq := by
  simp [State.dropCaptureDue]

@[simp] theorem State.dropCaptureDue_dcu : (s.dropCaptureDue).dcu = s.dcu := by
  simp [State.dropCaptureDue]

@[simp] theorem State.dropCaptureDue_cpc : (s.dropCaptureDue).cpc = s.cpc := by
  simp [State.dropCaptureDue]

@[simp] theorem State.dropCaptureDue_lm : (s.dropCaptureDue).lm = s.lm := by
  simp [State.dropCaptureDue]

@[simp] theorem State.dropCaptureDue_mu : (s.dropCaptureDue).mu = s.mu := by
  simp [State.dropCaptureDue]

@[simp] theorem State.dropCaptureDue_rcu : (s.dropCaptureDue).rcu = s.rcu := by
  simp [State.dropCaptureDue]

@[simp] theorem State.dropCaptureDue_eu : (s.dropCaptureDue).eu = s.eu := by
  simp [State.dropCaptureDue]

@[simp] theorem State.dropCaptureDue_sli : (s.dropCaptureDue).sli = s.sli := by
  simp [State.dropCaptureDue]

@[simp] theorem State.dropCaptureDue_clock : (s.dropCaptureDue).clock = s.clock := by
  simp [State.dropCaptureDue]

@[simp] theorem State.dropCaptureDue_pending : (s.dropCaptureDue).pending = s.pending := by
  simp [State.dropCaptureDue]

/-! ### stampLast -/

@[simp] theorem State.stampLast_cs : (s.stampLast).cs = s.cs := by
  simp [State.stampLast]

@[simp] theorem State.stampLast_sq : (s.stampLast).sq = s.sq := by
  simp [State.stampLast]

@[simp] theorem State.stampLast_dcu : (s.stampLast).dcu = s.dcu := by
  simp [State.stampLast]

@[simp] theorem State.stampLast_cpc : (s.stampLast).cpc = s.cpc := by
  simp [State.stampLast]

@[simp] theorem State.stampLast_lm : (s.stampLast).lm = s.lm := by
  simp [State.stampLast]

@[simp] theorem State.stampLast_mu : (s.stampLast).mu = s.mu := by
  simp [State.stampLast]

@[simp] theorem State.stampLast_rcu : (s.stampLast).rcu = s.rcu := by
  simp [State.stampLast]

@[simp] theorem State.stampLast_eu : (s.stampLast).eu = s.eu := by
  simp [State.stampLast]

@[simp] theorem State.stampLast_sli : (s.stampLast).sli = s.sli := by
  simp [State.stampLast]

@[simp] theorem State.stampLast_clock : (s.stampLast).clock = s.clock := by
  simp [State.stampLast]

@[simp] theorem State.stampLast_pending : (s.stampLast).pending = s.pending := by
  simp [State.stampLast]

/-! ### countUpdate -/

@[simp] theorem State.countUpdate_cs : (s.countUpdate).cs = s.cs := by
  simp [State.countUpdate]

@[simp] theorem State.countUpdate_sq : (s.countUpdate).sq = s.sq := by
  simp [State.countUpdate]

@[simp] theorem State.countUpdate_dcu : (s.countUpdate).dcu = s.dcu := by
  simp [State.countUpdate]

@[simp] theorem State.countUpdate_cpc : (s.countUpdate).cpc = s.cpc := by
  simp [State.countUpdate]

@[simp] theorem State.countUpdate_lm : (s.countUpdate).lm = s.lm := by
  simp [State.countUpdate]

@[simp] theorem State.countUpdate_mu : (s.countUpdate).mu = s.mu := by
  simp [State.countUpdate]

@[simp] theorem State.countUpdate_rcu : (s.countUpdate).rcu = s.rcu := by
  simp [State.countUpdate]

@[simp] theorem State.countUpdate_eu : (s.countUpdate).eu = s.eu := by
  simp [State.countUpdate]

@[simp] theorem State.countUpdate_sli : (s.countUpdate).sli = s.sli := by
  simp [State.countUpdate]

@[simp] theorem State.countUpdate_clock : (s.countUpdate).clock = s.clock := by
  simp [State.countUpdate]

@[simp] theorem State.countUpdate_pending : (s.countUpdate).pending = s.pending := by
  simp [State.countUpdate]

/-! ### handOn -/

@[simp] theorem State.handOn_cpc (cr : Nat × DriveResult) : (s.handOn cr).cpc = s.cpc := by
  unfold State.handOn; dsimp only; (repeat' split) <;> simp

@[simp] theorem State.handOn_mu (cr : Nat × DriveResult) : (s.handOn cr).mu = s.mu := by
  unfold State.handOn; dsimp only; (repeat' split) <;> simp

@[simp] theorem State.handOn_rcu (cr : Nat × DriveResult) : (s.handOn cr).rcu = s.rcu := by
  unfold State.handOn; dsimp only; (repeat' split) <;> simp

@[simp] theorem State.handOn_clock (cr : Nat × DriveResult) : (s.handOn cr).clock = s.clock := by
  unfold State.handOn; dsimp only; (repeat' split) <;> simp

@[simp] theorem State.handOn_pending (cr : Nat × DriveResult) : (s.handOn cr).pending = s.pending := by
  unfold State.handOn; dsimp only; (repeat' split) <;> simp

/-! ### recordCommand, recordHistory -/

@[simp] theorem State.recordCommand_cs (ch : Nat) : (s.recordCommand ch).cs = s.cs := by
  unfold State.recordCommand; split <;> simp

@[simp] theorem State.recordCommand_sq (ch : Nat) : (s.recordCommand ch).sq = s.sq := by
  unfold State.recordCommand; split <;> simp

@[simp] theorem State.recordCommand_pe (ch : Nat) : (s.recordCommand ch).pe = s.pe := by
  unfold State.recordCommand; split <;> simp

@[simp] theorem State.recordCommand_dcu (ch : Nat) : (s.recordCommand ch).dcu = s.dcu := by
  unfold State.recordCommand; split <;> simp

@[simp] theorem State.recordCommand_cpc (ch : Nat) : (s.recordCommand ch).cpc = s.cpc := by
  unfold State.recordCommand; split <;> simp

@[simp] theorem State.recordCommand_mu (ch : Nat) : (s.recordCommand ch).mu = s.mu := by
  unfold State.recordCommand; split <;> simp

@[simp] theorem State.recordCommand_rcu (ch : Nat) : (s.recordCommand ch).rcu = s.rcu := by
  unfold State.recordCommand; split <;> simp

@[simp] theorem State.recordCommand_eu (ch : Nat) : (s.recordCommand ch).eu = s.eu := by
  unfold State.recordCommand; split <;> simp

@[simp] theorem State.recordCommand_sli (ch : Nat) : (s.recordCommand ch).sli = s.sli := by
  unfold State.recordCommand; split <;> simp

@[simp] theorem State.recordCommand_clock (ch : Nat) : (s.recordCommand ch).clock = s.clock := by
  unfold State.recordCommand; split <;> simp

@[simp] theorem State.recordCommand_pending (ch : Nat) : (s.recordCommand ch).pending = s.pending := by
  unfold State.recordCommand; split <;> simp

@[simp] theorem State.recordHistory_cs : (s.recordHistory).cs = s.cs := by
  exact foldl_keeps (fun t => t.cs) _ (fun t ch => State.recordCommand_cs t ch) _ s

@[simp] theorem State.recordHistory_sq : (s.recordHistory).sq = s.sq := by
  exact foldl_keeps (fun t => t.sq) _ (fun t ch => State.recordCommand_sq t ch) _ s

@[simp] theorem State.recordHistory_pe : (s.recordHistory).pe = s.pe := by
  exact foldl_keeps (fun t => t.pe) _ (fun t ch => State.recordCommand_pe t ch) _ s

@[simp] theorem State.recordHistory_dcu : (s.recordHistory).dcu = s.dcu := by
  exact foldl_keeps (fun t => t.dcu) _ (fun t ch => State.recordCommand_dcu t ch) _ s

@[simp] theorem State.recordHistory_cpc : (s.recordHistory).cpc = s.cpc := by
  exact foldl_keeps (fun t => t.cpc) _ (fun t ch => State.recordCommand_cpc t ch) _ s

@[simp] theorem State.recordHistory_mu : (s.recordHistory).mu = s.mu := by
  exact foldl_keeps (fun t => t.mu) _ (fun t ch => State.recordCommand_mu t ch) _ s

@[simp] theorem State.recordHistory_rcu : (s.recordHistory).rcu = s.rcu := by
  exact foldl_keeps (fun t => t.rcu) _ (fun t ch => State.recordCommand_rcu t ch) _ s

@[simp] theorem State.recordHistory_eu : (s.recordHistory).eu = s.eu := by
  exact foldl_keeps (fun t => t.eu) _ (fun t ch => State.recordCommand_eu t ch) _ s

@[simp] theorem State.recordHistory_sli : (s.recordHistory).sli = s.sli := by
  exact foldl_keeps (fun t => t.sli) _ (fun t ch => State.recordCommand_sli t ch) _ s

@[simp] theorem State.recordHistory_clock : (s.recordHistory).clock = s.clock := by
  exact foldl_keeps (fun t => t.clock) _ (fun t ch => State.recordCommand_clock t ch) _ s

@[simp] theorem State.recordHistory_pending : (s.recordHistory).pending = s.pending := by
  exact foldl_keeps (fun t => t.pending) _ (fun t ch => State.recordCommand_pending t ch) _ s

/-! ### advanceStage -/

@[simp] theorem State.advanceStage_cpc : (s.advanceStage).cpc = s.cpc := by
  unfold State.advanceStage; (repeat' split) <;> simp

@[simp] theorem State.advanceStage_mu : (s.advanceStage).mu = s.mu := by
  unfold State.advanceStage; (repeat' split) <;> simp

@[simp] theorem State.advanceStage_rcu : (s.advanceStage).rcu = s.rcu := by
  unfold State.advanceStage; (repeat' split) <;> simp

@[simp] theorem State.advanceStage_clock : (s.advanceStage).clock = s.clock := by
  unfold State.advanceStage; (repeat' split) <;> simp

@[simp] theorem State.advanceStage_pending : (s.advanceStage).pending = s.pending := by
  unfold State.advanceStage; (repeat' split) <;> simp

/-! ### replaceEntry -/

@[simp] theorem State.replaceEntry_cs (pos : Nat) (old new : Entry) : (s.replaceEntry pos old new).cs = s.cs := by
  unfold State.replaceEntry; dsimp only; (repeat' split) <;> simp

@[simp] theorem State.replaceEntry_dcu (pos : Nat) (old new : Entry) : (s.replaceEntry pos old new).dcu = s.dcu := by
  unfold State.replaceEntry; dsimp only; (repeat' split) <;> simp

@[simp] theorem State.replaceEntry_cpc (pos : Nat) (old new : Entry) : (s.replaceEntry pos old new).cpc = s.cpc := by
  unfold State.replaceEntry; dsimp only; (repeat' split) <;> simp

@[simp] theorem State.replaceEntry_lm (pos : Nat) (old new : Entry) : (s.replaceEntry pos old new).lm = s.lm := by
  unfold State.replaceEntry; dsimp only; (repeat' split) <;> simp

@[simp] theorem State.replaceEntry_mu (pos : Nat) (old new : Entry) : (s.replaceEntry pos old new).mu = s.mu := by
  unfold State.replaceEntry; dsimp only; (repeat' split) <;> simp

@[simp] theorem State.replaceEntry_rcu (pos : Nat) (old new : Entry) : (s.replaceEntry pos old new).rcu = s.rcu := by
  unfold State.replaceEntry; dsimp only; (repeat' split) <;> simp

@[simp] theorem State.replaceEntry_eu (pos : Nat) (old new : Entry) : (s.replaceEntry pos old new).eu = s.eu := by
  unfold State.replaceEntry; dsimp only; (repeat' split) <;> simp

@[simp] theorem State.replaceEntry_sli (pos : Nat) (old new : Entry) : (s.replaceEntry pos old new).sli = s.sli := by
  unfold State.replaceEntry; dsimp only; (repeat' split) <;> simp

@[simp] theorem State.replaceEntry_clock (pos : Nat) (old new : Entry) : (s.replaceEntry pos old new).clock = s.clock := by
  unfold State.replaceEntry; dsimp only; (repeat' split) <;> simp

@[simp] theorem State.replaceEntry_pending (pos : Nat) (old new : Entry) : (s.replaceEntry pos old new).pending = s.pending := by
  unfold State.replaceEntry; dsimp only; (repeat' split) <;> simp

/-! ### placeEntry -/

@[simp] theorem State.placeEntry_pe (e : Entry) : (s.placeEntry e).pe = s.pe := by
  unfold State.placeEntry; dsimp only; split <;> simp

@[simp] theorem State.placeEntry_dcu (e : Entry) : (s.placeEntry e).dcu = s.dcu := by
  unfold State.placeEntry; dsimp only; split <;> simp

@[simp] theorem State.placeEntry_cpc (e : Entry) : (s.placeEntry e).cpc = s.cpc := by
  unfold State.placeEntry; dsimp only; split <;> simp

@[simp] theorem State.placeEntry_lm (e : Entry) : (s.placeEntry e).lm = s.lm := by
  unfold State.placeEntry; dsimp only; split <;> simp

@[simp] theorem State.placeEntry_mu (e : Entry) : (s.placeEntry e).mu = s.mu := by
  unfold State.placeEntry; dsimp only; split <;> simp

@[simp] theorem State.placeEntry_rcu (e : Entry) : (s.placeEntry e).rcu = s.rcu := by
  unfold State.placeEntry; dsimp only; split <;> simp

@[simp] theorem State.placeEntry_eu (e : Entry) : (s.placeEntry e).eu = s.eu := by
  unfold State.placeEntry; dsimp only; split <;> simp

@[simp] theorem State.placeEntry_sli (e : Entry) : (s.placeEntry e).sli = s.sli := by
  unfold State.placeEntry; dsimp only; split <;> simp

@[simp] theorem State.placeEntry_clock (e : Entry) : (s.placeEntry e).clock = s.clock := by
  unfold State.placeEntry; dsimp only; split <;> simp

@[simp] theorem State.placeEntry_pending (e : Entry) : (s.placeEntry e).pending = s.pending := by
  unfold State.placeEntry; dsimp only; split <;> simp

/-! ### clearCause -/

@[simp] theorem State.clearCause_cs (c : Cause) : (s.clearCause c).cs = s.cs := by
  unfold State.clearCause; dsimp only; split <;> simp

@[simp] theorem State.clearCause_sq (c : Cause) : (s.clearCause c).sq = s.sq := by
  unfold State.clearCause; dsimp only; split <;> simp

@[simp] theorem State.clearCause_pe (c : Cause) : (s.clearCause c).pe = s.pe := by
  unfold State.clearCause; dsimp only; split <;> simp

@[simp] theorem State.clearCause_dcu (c : Cause) : (s.clearCause c).dcu = s.dcu := by
  unfold State.clearCause; dsimp only; split <;> simp

@[simp] theorem State.clearCause_cpc (c : Cause) : (s.clearCause c).cpc = s.cpc := by
  unfold State.clearCause; dsimp only; split <;> simp

@[simp] theorem State.clearCause_lm (c : Cause) : (s.clearCause c).lm = s.lm := by
  unfold State.clearCause; dsimp only; split <;> simp

@[simp] theorem State.clearCause_mu (c : Cause) : (s.clearCause c).mu = s.mu := by
  unfold State.clearCause; dsimp only; split <;> simp

@[simp] theorem State.clearCause_rcu (c : Cause) : (s.clearCause c).rcu = s.rcu := by
  unfold State.clearCause; dsimp only; split <;> simp

@[simp] theorem State.clearCause_sli (c : Cause) : (s.clearCause c).sli = s.sli := by
  unfold State.clearCause; dsimp only; split <;> simp

@[simp] theorem State.clearCause_clock (c : Cause) : (s.clearCause c).clock = s.clock := by
  unfold State.clearCause; dsimp only; split <;> simp

@[simp] theorem State.clearCause_pending (c : Cause) : (s.clearCause c).pending = s.pending := by
  unfold State.clearCause; dsimp only; split <;> simp

/-! ### restartTimer -/

@[simp] theorem State.restartTimer_cs : (s.restartTimer).cs = s.cs := by
  unfold State.restartTimer; split <;> simp

@[simp] theorem State.restartTimer_sq : (s.restartTimer).sq = s.sq := by
  unfold State.restartTimer; split <;> simp

@[simp] theorem State.restartTimer_pe : (s.restartTimer).pe = s.pe := by
  unfold State.restartTimer; split <;> simp

@[simp] theorem State.restartTimer_dcu : (s.restartTimer).dcu = s.dcu := by
  unfold State.restartTimer; split <;> simp

@[simp] theorem State.restartTimer_cpc : (s.restartTimer).cpc = s.cpc := by
  unfold State.restartTimer; split <;> simp

@[simp] theorem State.restartTimer_lm : (s.restartTimer).lm = s.lm := by
  unfold State.restartTimer; split <;> simp

@[simp] theorem State.restartTimer_mu : (s.restartTimer).mu = s.mu := by
  unfold State.restartTimer; split <;> simp

@[simp] theorem State.restartTimer_rcu : (s.restartTimer).rcu = s.rcu := by
  unfold State.restartTimer; split <;> simp

@[simp] theorem State.restartTimer_eu : (s.restartTimer).eu = s.eu := by
  unfold State.restartTimer; split <;> simp

@[simp] theorem State.restartTimer_clock : (s.restartTimer).clock = s.clock := by
  unfold State.restartTimer; split <;> simp

@[simp] theorem State.restartTimer_pending : (s.restartTimer).pending = s.pending := by
  unfold State.restartTimer; split <;> simp

/-! ### setReceiver -/

@[simp] theorem State.setReceiver_cs (r : Receiver) : (s.setReceiver r).cs = s.cs := by
  simp [State.setReceiver]

@[simp] theorem State.setReceiver_sq (r : Receiver) : (s.setReceiver r).sq = s.sq := by
  simp [State.setReceiver]

@[simp] theorem State.setReceiver_pe (r : Receiver) : (s.setReceiver r).pe = s.pe := by
  simp [State.setReceiver]

@[simp] theorem State.setReceiver_dcu (r : Receiver) : (s.setReceiver r).dcu = s.dcu := by
  simp [State.setReceiver]

@[simp] theorem State.setReceiver_cpc (r : Receiver) : (s.setReceiver r).cpc = s.cpc := by
  simp [State.setReceiver]

@[simp] theorem State.setReceiver_lm (r : Receiver) : (s.setReceiver r).lm = s.lm := by
  simp [State.setReceiver]

@[simp] theorem State.setReceiver_mu (r : Receiver) : (s.setReceiver r).mu = s.mu := by
  simp [State.setReceiver]

@[simp] theorem State.setReceiver_rcu (r : Receiver) : (s.setReceiver r).rcu = s.rcu := by
  simp [State.setReceiver]

@[simp] theorem State.setReceiver_eu (r : Receiver) : (s.setReceiver r).eu = s.eu := by
  simp [State.setReceiver]

@[simp] theorem State.setReceiver_clock (r : Receiver) : (s.setReceiver r).clock = s.clock := by
  simp [State.setReceiver]

@[simp] theorem State.setReceiver_pending (r : Receiver) : (s.setReceiver r).pending = s.pending := by
  simp [State.setReceiver]

/-! ### mapCounters -/

@[simp] theorem State.mapCounters_cs (f : LinkCounters → LinkCounters) : (s.mapCounters f).cs = s.cs := by
  simp [State.mapCounters]

@[simp] theorem State.mapCounters_sq (f : LinkCounters → LinkCounters) : (s.mapCounters f).sq = s.sq := by
  simp [State.mapCounters]

@[simp] theorem State.mapCounters_pe (f : LinkCounters → LinkCounters) : (s.mapCounters f).pe = s.pe := by
  simp [State.mapCounters]

@[simp] theorem State.mapCounters_dcu (f : LinkCounters → LinkCounters) : (s.mapCounters f).dcu = s.dcu := by
  simp [State.mapCounters]

@[simp] theorem State.mapCounters_cpc (f : LinkCounters → LinkCounters) : (s.mapCounters f).cpc = s.cpc := by
  simp [State.mapCounters]

@[simp] theorem State.mapCounters_lm (f : LinkCounters → LinkCounters) : (s.mapCounters f).lm = s.lm := by
  simp [State.mapCounters]

@[simp] theorem State.mapCounters_mu (f : LinkCounters → LinkCounters) : (s.mapCounters f).mu = s.mu := by
  simp [State.mapCounters]

@[simp] theorem State.mapCounters_rcu (f : LinkCounters → LinkCounters) : (s.mapCounters f).rcu = s.rcu := by
  simp [State.mapCounters]

@[simp] theorem State.mapCounters_eu (f : LinkCounters → LinkCounters) : (s.mapCounters f).eu = s.eu := by
  simp [State.mapCounters]

@[simp] theorem State.mapCounters_clock (f : LinkCounters → LinkCounters) : (s.mapCounters f).clock = s.clock := by
  simp [State.mapCounters]

@[simp] theorem State.mapCounters_pending (f : LinkCounters → LinkCounters) : (s.mapCounters f).pending = s.pending := by
  simp [State.mapCounters]

end Sys2Proof.Machine
end

