-- ==== Sys2Proof/Laws/Memory.lean ====
section
/-! SUPPORT. The word memory: reading what was written, leaving other words alone, and keeping the canonical form. -/

namespace Sys2Proof.Machine

open Sys2Proof

/-! ### Reading and writing one word -/

theorem ramAbove_mono {low low' : Nat} (h : low' ≤ low) : ∀ {m : Ram}, ramAbove low m = true → ramAbove low' m = true
  | [], _ => rfl
  | (b, w) :: rest, hm => by
    simp only [ramAbove, Bool.and_eq_true, decide_eq_true_eq] at hm ⊢
    exact ⟨⟨le_trans h hm.1.1, hm.1.2⟩, hm.2⟩

/-- Below its lowest address a canonical memory reads as 0. -/
theorem ramRead_below {low a : Nat} (h : a < low) : ∀ {m : Ram}, ramAbove low m = true → ramRead m a = 0
  | [], _ => rfl
  | (b, w) :: rest, hm => by
    simp only [ramAbove, Bool.and_eq_true, decide_eq_true_eq] at hm
    have hb : a ≠ b := by omega
    simpa [ramRead, hb] using ramRead_below (by omega : a < b + 1) hm.2

/-- Reading a word just written gives the value written. -/
theorem ramRead_ramWrite_same {a : Nat} {v : Point} :
    ∀ {low : Nat} {m : Ram}, ramAbove low m = true → ramRead (ramWrite m a v) a = v
  | _, [], _ => by
    unfold ramWrite
    split <;> simp_all [ramRead]
  | low, (b, w) :: rest, hm => by
    have hm' := hm
    simp only [ramAbove, Bool.and_eq_true, decide_eq_true_eq] at hm
    unfold ramWrite
    split
    · next hlt =>
      split
      · next hv =>
        subst hv
        have hb : a ≠ b := by omega
        simpa [ramRead, hb] using ramRead_below (by omega : a < b + 1) hm.2
      · simp [ramRead]
    · split
      · next hab =>
        split
        · next hv =>
          subst hv; subst hab
          exact ramRead_below (by omega) hm.2
        · subst hab; simp [ramRead]
      · next hab =>
        have hb : a ≠ b := hab
        simpa [ramRead, hb] using ramRead_ramWrite_same (v := v) hm.2

/-- A write leaves every other word alone. -/
theorem ramRead_ramWrite_other {a c : Nat} (h : c ≠ a) (v : Point) :
    ∀ m : Ram, ramRead (ramWrite m a v) c = ramRead m c
  | [] => by
    unfold ramWrite
    split <;> simp [ramRead, h]
  | (b, w) :: rest => by
    unfold ramWrite
    split
    · split <;> simp [ramRead, h]
    · split
      · next hab =>
        subst hab
        split <;> simp [ramRead, h]
      · simp only [ramRead, ramRead_ramWrite_other h v rest]

/-- A write keeps a bound below both the memory and the address written. -/
theorem ramAbove_ramWrite {a : Nat} {v : Point} :
    ∀ {low : Nat} {m : Ram}, low ≤ a → ramAbove low m = true → ramAbove low (ramWrite m a v) = true
  | low, [], h, _ => by
    unfold ramWrite
    split <;> simp_all [ramAbove]
  | low, (b, w) :: rest, h, hm => by
    have hm' := hm
    simp only [ramAbove, Bool.and_eq_true, decide_eq_true_eq, bne_iff_ne] at hm
    obtain ⟨⟨hlb, hw⟩, hr⟩ := hm
    unfold ramWrite
    split
    · next hlt =>
      split
      · exact hm'
      · next hv =>
        simp only [ramAbove, Bool.and_eq_true, decide_eq_true_eq, bne_iff_ne]
        exact ⟨⟨h, hv⟩, ⟨by omega, hw⟩, hr⟩
    · next hge =>
      split
      · next hab =>
        subst hab
        split
        · exact ramAbove_mono (by omega) hr
        · next hv =>
          simp only [ramAbove, Bool.and_eq_true, decide_eq_true_eq, bne_iff_ne]
          exact ⟨⟨hlb, hv⟩, hr⟩
      · next hab =>
        simp only [ramAbove, Bool.and_eq_true, decide_eq_true_eq, bne_iff_ne]
        exact ⟨⟨hlb, hw⟩, ramAbove_ramWrite (v := v) (by omega : b + 1 ≤ a) hr⟩

/-- A write keeps the canonical form. -/
theorem ramWf_ramWrite {m : Ram} (h : ramWf m = true) (a : Nat) (v : Point) : ramWf (ramWrite m a v) = true :=
  ramAbove_ramWrite (Nat.zero_le a) h

/-! ### Storing points -/

/-- Storing points keeps the canonical form. -/
theorem ramWf_storePoints (l : ClipLoad) :
    ∀ (points : List Point) (i : Nat) {m : Ram}, ramWf m = true → ramWf (storePoints m l i points) = true
  | [], _, _, h => h
  | p :: rest, i, _, h => ramWf_storePoints l rest (i + 1) (ramWf_ramWrite h (pointAddress l i) p)

/-- Storing points leaves alone every word that is none of their places. -/
theorem ramRead_storePoints_other (l : ClipLoad) {a : Nat} :
    ∀ (points : List Point) (i : Nat) (m : Ram), (∀ k, k < points.length → pointAddress l (i + k) ≠ a) →
      ramRead (storePoints m l i points) a = ramRead m a
  | [], _, _, _ => rfl
  | p :: rest, i, m, h => by
    have hrest : ∀ k, k < rest.length → pointAddress l (i + 1 + k) ≠ a := fun k hk => by
      have := h (k + 1) (by simpa using hk)
      rwa [show i + 1 + k = i + (k + 1) by omega]
    have hfirst : a ≠ pointAddress l i := fun e => h 0 (by simp) (by simpa using e.symm)
    simp only [storePoints, ramRead_storePoints_other l rest (i + 1) _ hrest, ramRead_ramWrite_other hfirst]

/-- The memory right after reset has its canonical form. -/
theorem ramWf_reset : ramWf State.reset.cs.points = true := rfl

end Sys2Proof.Machine
end

