-- ==== Sys2Proof/Laws/Store.lean ====
section
/-! SUPPORT. Frames inside the Clip Store: no shared operation but the storing of points changes a point, and the operations
of playback change nothing of the store but reference counts. -/

namespace Sys2Proof.Machine

open Sys2Proof

variable (s : State)

/-! ### Point memory -/

@[simp] theorem State.addRef_points (id : Nat) : (s.addRef id).cs.points = s.cs.points := by
  simp [State.addRef, State.setClip]

@[simp] theorem State.dropRef_points (id : Nat) : (s.dropRef id).cs.points = s.cs.points := by
  simp [State.dropRef, State.setClip]

@[simp] theorem State.freeClip_points (id : Nat) : (s.freeClip id).cs.points = s.cs.points := by
  simp [State.freeClip, State.setClip]

@[simp] theorem State.leaveOrder_points (id : Nat) : (s.leaveOrder id).cs.points = s.cs.points := by
  simp [State.leaveOrder]

@[simp] theorem State.completeVerification_points (id : Nat) (l : ClipLoad) : (s.completeVerification id l).cs.points = s.cs.points := by
  simp [State.completeVerification, State.setClip]

@[simp] theorem State.leaveEntry_points (flushed : Bool) (e : Entry) : (s.leaveEntry flushed e).cs.points = s.cs.points := by
  unfold State.leaveEntry; split <;> simp

@[simp] theorem State.retire_points (n : Nat) : (s.retire n).cs.points = s.cs.points := by
  induction n generalizing s with
  | zero => rfl
  | succ n ih => unfold State.retire; split <;> simp [ih]

@[simp] theorem State.realRun_points (start : Nat) : (s.realRun start).cs.points = s.cs.points := by
  simp [State.realRun]

@[simp] theorem State.beginVisit_points : (s.beginVisit).cs.points = s.cs.points := by
  unfold State.beginVisit; (repeat' split) <;> simp

@[simp] theorem State.dropContextRef_points (c : Context) : (s.dropContextRef c).cs.points = s.cs.points := by
  unfold State.dropContextRef; split <;> simp

@[simp] theorem State.endVisit_points (c : Context) : (s.endVisit c).cs.points = s.cs.points := by
  simp [State.endVisit]

@[simp] theorem State.interruptVisit_points (c : Context) : (s.interruptVisit c).cs.points = s.cs.points := by
  simp [State.interruptVisit]

@[simp] theorem State.releaseContext_points : (s.releaseContext).cs.points = s.cs.points := by
  unfold State.releaseContext; (repeat' split) <;> simp

@[simp] theorem State.passEndPlaying_points : (s.passEndPlaying).cs.points = s.cs.points := by
  unfold State.passEndPlaying; dsimp only; (repeat' split) <;> simp

@[simp] theorem State.endRampOut_points : (s.endRampOut).cs.points = s.cs.points := by
  unfold State.endRampOut; dsimp only; split <;> simp

@[simp] theorem State.actionEffect_points (a : Action) (cause : EngineCause) (ch : Option Nat) : (s.actionEffect a cause ch).cs.points = s.cs.points := by
  unfold State.actionEffect; (repeat' split) <;> simp

@[simp] theorem State.applyAction_points (a : Action) (cause : EngineCause) (ch : Option Nat) : (s.applyAction a cause ch).cs.points = s.cs.points := by
  unfold State.applyAction; dsimp only; split <;> simp

@[simp] theorem State.fireDetector_points (r : LimitRecord) : (s.fireDetector r).cs.points = s.cs.points := by
  unfold State.fireDetector; dsimp only; split <;> simp

@[simp] theorem State.evalEnvelope_points (ch : Nat) (f : Int) (stamp : Nat) : (s.evalEnvelope ch f stamp).cs.points = s.cs.points := by
  unfold State.evalEnvelope; dsimp only; (repeat' split) <;> simp

@[simp] theorem State.evalTracking_points (ch : Nat) (f : Int) (stamp : Nat) : (s.evalTracking ch f stamp).cs.points = s.cs.points := by
  unfold State.evalTracking; dsimp only; (repeat' split) <;> simp

@[simp] theorem State.evalClamp_points (ch : Nat) : (s.evalClamp ch).cs.points = s.cs.points := by
  unfold State.evalClamp; dsimp only; (repeat' split) <;> simp

@[simp] theorem State.limitFeedback_points (ch : Nat) (f : Int) (stamp : Nat) : (s.limitFeedback ch f stamp).cs.points = s.cs.points := by
  simp [State.limitFeedback]

@[simp] theorem State.faultChannel_points (ch : Nat) (cause : FaultCause) : (s.faultChannel ch cause).cs.points = s.cs.points := by
  unfold State.faultChannel; dsimp only; split <;> simp

@[simp] theorem State.closeWindow_points (ch : Nat) : (s.closeWindow ch).cs.points = s.cs.points := by
  unfold State.closeWindow; dsimp only; (repeat' split) <;> simp

@[simp] theorem State.closeWindows_points : (s.closeWindows).cs.points = s.cs.points := by
  exact foldl_keeps (fun t => t.cs.points) _ (fun t ch => State.closeWindow_points t ch) _ s

@[simp] theorem State.actOnStatus_points (ch : Nat) (f : Int) (st : ServoStatus) (stamp : Nat) : (s.actOnStatus ch f st stamp).cs.points = s.cs.points := by
  unfold State.actOnStatus; split <;> simp

@[simp] theorem State.takeResponse_points (ch : Nat) (w : Window) (f sp : Int) (st : ServoStatus) : (s.takeResponse ch w f sp st).cs.points = s.cs.points := by
  simp [State.takeResponse]

@[simp] theorem State.handOn_points (cr : Nat × DriveResult) : (s.handOn cr).cs.points = s.cs.points := by
  unfold State.handOn; dsimp only; (repeat' split) <;> simp

@[simp] theorem State.advanceStage_points : (s.advanceStage).cs.points = s.cs.points := by
  unfold State.advanceStage; (repeat' split) <;> simp

@[simp] theorem State.placeEntry_points (e : Entry) : (s.placeEntry e).cs.points = s.cs.points := by
  unfold State.placeEntry; dsimp only; split <;> simp

/-! ### The free page list -/

@[simp] theorem State.addRef_freePages (id : Nat) : (s.addRef id).cs.freePages = s.cs.freePages := by
  simp [State.addRef, State.setClip]

@[simp] theorem State.dropRef_freePages (id : Nat) : (s.dropRef id).cs.freePages = s.cs.freePages := by
  simp [State.dropRef, State.setClip]

@[simp] theorem State.leaveOrder_freePages (id : Nat) : (s.leaveOrder id).cs.freePages = s.cs.freePages := by
  simp [State.leaveOrder]

@[simp] theorem State.completeVerification_freePages (id : Nat) (l : ClipLoad) : (s.completeVerification id l).cs.freePages = s.cs.freePages := by
  simp [State.completeVerification, State.setClip]

@[simp] theorem State.leaveEntry_freePages (flushed : Bool) (e : Entry) : (s.leaveEntry flushed e).cs.freePages = s.cs.freePages := by
  unfold State.leaveEntry; split <;> simp

@[simp] theorem State.retire_freePages (n : Nat) : (s.retire n).cs.freePages = s.cs.freePages := by
  induction n generalizing s with
  | zero => rfl
  | succ n ih => unfold State.retire; split <;> simp [ih]

@[simp] theorem State.realRun_freePages (start : Nat) : (s.realRun start).cs.freePages = s.cs.freePages := by
  simp [State.realRun]

@[simp] theorem State.beginVisit_freePages : (s.beginVisit).cs.freePages = s.cs.freePages := by
  unfold State.beginVisit; (repeat' split) <;> simp

@[simp] theorem State.dropContextRef_freePages (c : Context) : (s.dropContextRef c).cs.freePages = s.cs.freePages := by
  unfold State.dropContextRef; split <;> simp

@[simp] theorem State.endVisit_freePages (c : Context) : (s.endVisit c).cs.freePages = s.cs.freePages := by
  simp [State.endVisit]

@[simp] theorem State.interruptVisit_freePages (c : Context) : (s.interruptVisit c).cs.freePages = s.cs.freePages := by
  simp [State.interruptVisit]

@[simp] theorem State.releaseContext_freePages : (s.releaseContext).cs.freePages = s.cs.freePages := by
  unfold State.releaseContext; (repeat' split) <;> simp

@[simp] theorem State.passEndPlaying_freePages : (s.passEndPlaying).cs.freePages = s.cs.freePages := by
  unfold State.passEndPlaying; dsimp only; (repeat' split) <;> simp

@[simp] theorem State.endRampOut_freePages : (s.endRampOut).cs.freePages = s.cs.freePages := by
  unfold State.endRampOut; dsimp only; split <;> simp

@[simp] theorem State.actionEffect_freePages (a : Action) (cause : EngineCause) (ch : Option Nat) : (s.actionEffect a cause ch).cs.freePages = s.cs.freePages := by
  unfold State.actionEffect; (repeat' split) <;> simp

@[simp] theorem State.applyAction_freePages (a : Action) (cause : EngineCause) (ch : Option Nat) : (s.applyAction a cause ch).cs.freePages = s.cs.freePages := by
  unfold State.applyAction; dsimp only; split <;> simp

@[simp] theorem State.fireDetector_freePages (r : LimitRecord) : (s.fireDetector r).cs.freePages = s.cs.freePages := by
  unfold State.fireDetector; dsimp only; split <;> simp

@[simp] theorem State.evalEnvelope_freePages (ch : Nat) (f : Int) (stamp : Nat) : (s.evalEnvelope ch f stamp).cs.freePages = s.cs.freePages := by
  unfold State.evalEnvelope; dsimp only; (repeat' split) <;> simp

@[simp] theorem State.evalTracking_freePages (ch : Nat) (f : Int) (stamp : Nat) : (s.evalTracking ch f stamp).cs.freePages = s.cs.freePages := by
  unfold State.evalTracking; dsimp only; (repeat' split) <;> simp

@[simp] theorem State.evalClamp_freePages (ch : Nat) : (s.evalClamp ch).cs.freePages = s.cs.freePages := by
  unfold State.evalClamp; dsimp only; (repeat' split) <;> simp

@[simp] theorem State.limitFeedback_freePages (ch : Nat) (f : Int) (stamp : Nat) : (s.limitFeedback ch f stamp).cs.freePages = s.cs.freePages := by
  simp [State.limitFeedback]

@[simp] theorem State.faultChannel_freePages (ch : Nat) (cause : FaultCause) : (s.faultChannel ch cause).cs.freePages = s.cs.freePages := by
  unfold State.faultChannel; dsimp only; split <;> simp

@[simp] theorem State.closeWindow_freePages (ch : Nat) : (s.closeWindow ch).cs.freePages = s.cs.freePages := by
  unfold State.closeWindow; dsimp only; (repeat' split) <;> simp

@[simp] theorem State.closeWindows_freePages : (s.closeWindows).cs.freePages = s.cs.freePages := by
  exact foldl_keeps (fun t => t.cs.freePages) _ (fun t ch => State.closeWindow_freePages t ch) _ s

@[simp] theorem State.actOnStatus_freePages (ch : Nat) (f : Int) (st : ServoStatus) (stamp : Nat) : (s.actOnStatus ch f st stamp).cs.freePages = s.cs.freePages := by
  unfold State.actOnStatus; split <;> simp

@[simp] theorem State.takeResponse_freePages (ch : Nat) (w : Window) (f sp : Int) (st : ServoStatus) : (s.takeResponse ch w f sp st).cs.freePages = s.cs.freePages := by
  simp [State.takeResponse]

@[simp] theorem State.handOn_freePages (cr : Nat × DriveResult) : (s.handOn cr).cs.freePages = s.cs.freePages := by
  unfold State.handOn; dsimp only; (repeat' split) <;> simp

@[simp] theorem State.advanceStage_freePages : (s.advanceStage).cs.freePages = s.cs.freePages := by
  unfold State.advanceStage; (repeat' split) <;> simp

@[simp] theorem State.placeEntry_freePages (e : Entry) : (s.placeEntry e).cs.freePages = s.cs.freePages := by
  unfold State.placeEntry; dsimp only; split <;> simp

/-! ### The verification order -/

@[simp] theorem State.addRef_order (id : Nat) : (s.addRef id).cs.order = s.cs.order := by
  simp [State.addRef, State.setClip]

@[simp] theorem State.dropRef_order (id : Nat) : (s.dropRef id).cs.order = s.cs.order := by
  simp [State.dropRef, State.setClip]

@[simp] theorem State.freeClip_order (id : Nat) : (s.freeClip id).cs.order = s.cs.order := by
  simp [State.freeClip, State.setClip]

@[simp] theorem State.leaveEntry_order (flushed : Bool) (e : Entry) : (s.leaveEntry flushed e).cs.order = s.cs.order := by
  unfold State.leaveEntry; split <;> simp

@[simp] theorem State.retire_order (n : Nat) : (s.retire n).cs.order = s.cs.order := by
  induction n generalizing s with
  | zero => rfl
  | succ n ih => unfold State.retire; split <;> simp [ih]

@[simp] theorem State.realRun_order (start : Nat) : (s.realRun start).cs.order = s.cs.order := by
  simp [State.realRun]

@[simp] theorem State.beginVisit_order : (s.beginVisit).cs.order = s.cs.order := by
  unfold State.beginVisit; (repeat' split) <;> simp

@[simp] theorem State.dropContextRef_order (c : Context) : (s.dropContextRef c).cs.order = s.cs.order := by
  unfold State.dropContextRef; split <;> simp

@[simp] theorem State.endVisit_order (c : Context) : (s.endVisit c).cs.order = s.cs.order := by
  simp [State.endVisit]

@[simp] theorem State.interruptVisit_order (c : Context) : (s.interruptVisit c).cs.order = s.cs.order := by
  simp [State.interruptVisit]

@[simp] theorem State.releaseContext_order : (s.releaseContext).cs.order = s.cs.order := by
  unfold State.releaseContext; (repeat' split) <;> simp

@[simp] theorem State.passEndPlaying_order : (s.passEndPlaying).cs.order = s.cs.order := by
  unfold State.passEndPlaying; dsimp only; (repeat' split) <;> simp

@[simp] theorem State.endRampOut_order : (s.endRampOut).cs.order = s.cs.order := by
  unfold State.endRampOut; dsimp only; split <;> simp

@[simp] theorem State.actionEffect_order (a : Action) (cause : EngineCause) (ch : Option Nat) : (s.actionEffect a cause ch).cs.order = s.cs.order := by
  unfold State.actionEffect; (repeat' split) <;> simp

@[simp] theorem State.applyAction_order (a : Action) (cause : EngineCause) (ch : Option Nat) : (s.applyAction a cause ch).cs.order = s.cs.order := by
  unfold State.applyAction; dsimp only; split <;> simp

@[simp] theorem State.fireDetector_order (r : LimitRecord) : (s.fireDetector r).cs.order = s.cs.order := by
  unfold State.fireDetector; dsimp only; split <;> simp

@[simp] theorem State.evalEnvelope_order (ch : Nat) (f : Int) (stamp : Nat) : (s.evalEnvelope ch f stamp).cs.order = s.cs.order := by
  unfold State.evalEnvelope; dsimp only; (repeat' split) <;> simp

@[simp] theorem State.evalTracking_order (ch : Nat) (f : Int) (stamp : Nat) : (s.evalTracking ch f stamp).cs.order = s.cs.order := by
  unfold State.evalTracking; dsimp only; (repeat' split) <;> simp

@[simp] theorem State.evalClamp_order (ch : Nat) : (s.evalClamp ch).cs.order = s.cs.order := by
  unfold State.evalClamp; dsimp only; (repeat' split) <;> simp

@[simp] theorem State.limitFeedback_order (ch : Nat) (f : Int) (stamp : Nat) : (s.limitFeedback ch f stamp).cs.order = s.cs.order := by
  simp [State.limitFeedback]

@[simp] theorem State.faultChannel_order (ch : Nat) (cause : FaultCause) : (s.faultChannel ch cause).cs.order = s.cs.order := by
  unfold State.faultChannel; dsimp only; split <;> simp

@[simp] theorem State.closeWindow_order (ch : Nat) : (s.closeWindow ch).cs.order = s.cs.order := by
  unfold State.closeWindow; dsimp only; (repeat' split) <;> simp

@[simp] theorem State.closeWindows_order : (s.closeWindows).cs.order = s.cs.order := by
  exact foldl_keeps (fun t => t.cs.order) _ (fun t ch => State.closeWindow_order t ch) _ s

@[simp] theorem State.actOnStatus_order (ch : Nat) (f : Int) (st : ServoStatus) (stamp : Nat) : (s.actOnStatus ch f st stamp).cs.order = s.cs.order := by
  unfold State.actOnStatus; split <;> simp

@[simp] theorem State.takeResponse_order (ch : Nat) (w : Window) (f sp : Int) (st : ServoStatus) : (s.takeResponse ch w f sp st).cs.order = s.cs.order := by
  simp [State.takeResponse]

@[simp] theorem State.handOn_order (cr : Nat × DriveResult) : (s.handOn cr).cs.order = s.cs.order := by
  unfold State.handOn; dsimp only; (repeat' split) <;> simp

@[simp] theorem State.advanceStage_order : (s.advanceStage).cs.order = s.cs.order := by
  unfold State.advanceStage; (repeat' split) <;> simp

@[simp] theorem State.placeEntry_order (e : Entry) : (s.placeEntry e).cs.order = s.cs.order := by
  unfold State.placeEntry; dsimp only; split <;> simp

/-! ### A clip is read through the operations of other blocks -/

@[simp] theorem State.tick_clip (at' : Nat) (j : Nat) : (s.tick at').clip j = s.clip j := State.clip_congr j (State.tick_cs s at')
@[simp] theorem State.setDrive_clip (ch : Nat) (d : DriveRecord) (j : Nat) : (s.setDrive ch d).clip j = s.clip j := State.clip_congr j (State.setDrive_cs s ch d)
@[simp] theorem State.setGainSet_clip (g : Nat) (v : GainSet) (j : Nat) : (s.setGainSet g v).clip j = s.clip j := State.clip_congr j (State.setGainSet_cs s g v)
@[simp] theorem State.setPort_clip (ch : Nat) (p : Port) (j : Nat) : (s.setPort ch p).clip j = s.clip j := State.clip_congr j (State.setPort_cs s ch p)
@[simp] theorem State.setLimits_clip (ch : Nat) (l : ChannelLimits) (j : Nat) : (s.setLimits ch l).clip j = s.clip j := State.clip_congr j (State.setLimits_cs s ch l)
@[simp] theorem State.setMark_clip (m : Nat) (u : MarkUnit) (j : Nat) : (s.setMark m u).clip j = s.clip j := State.clip_congr j (State.setMark_cs s m u)
@[simp] theorem State.setCause_clip (c : Cause) (v : CauseState) (j : Nat) : (s.setCause c v).clip j = s.clip j := State.clip_congr j (State.setCause_cs s c v)
@[simp] theorem State.setPe_clip (e : Engine) (j : Nat) : (s.setPe e).clip j = s.clip j := State.clip_congr j (State.setPe_cs s e)
@[simp] theorem State.setCtx_clip (c : Option Context) (j : Nat) : (s.setCtx c).clip j = s.clip j := State.clip_congr j (State.setCtx_cs s c)
@[simp] theorem State.setSq_clip (q : SegmentQueue) (j : Nat) : (s.setSq q).clip j = s.clip j := State.clip_congr j (State.setSq_cs s q)
@[simp] theorem State.setRcu_clip (r : CaptureUnit) (j : Nat) : (s.setRcu r).clip j = s.clip j := State.clip_congr j (State.setRcu_cs s r)
@[simp] theorem State.setSli_clip (l : LinkUnit) (j : Nat) : (s.setSli l).clip j = s.clip j := State.clip_congr j (State.setSli_cs s l)
@[simp] theorem State.placeFrame_clip (f : Frame) (j : Nat) : (s.placeFrame f).clip j = s.clip j := State.clip_congr j (State.placeFrame_cs s f)
@[simp] theorem State.placeNotice_clip (c : Cause) (n : Nat) (j : Nat) : (s.placeNotice c n).clip j = s.clip j := State.clip_congr j (State.placeNotice_cs s c n)
@[simp] theorem State.raise_clip (c : Cause) (d : Option Detail) (j : Nat) : (s.raise c d).clip j = s.clip j := State.clip_congr j (State.raise_cs s c d)
@[simp] theorem State.raiseMark_clip (unit stamp : Nat) (j : Nat) : (s.raiseMark unit stamp).clip j = s.clip j := State.clip_congr j (State.raiseMark_cs s unit stamp)
@[simp] theorem State.bufferRequest_clip (f : RequestFrame) (j : Nat) : (s.bufferRequest f).clip j = s.clip j := State.clip_congr j (State.bufferRequest_cs s f)
@[simp] theorem State.mapEntry_clip (pos : Nat) (f : Entry → Entry) (j : Nat) : (s.mapEntry pos f).clip j = s.clip j := State.clip_congr j (State.mapEntry_cs s pos f)
@[simp] theorem State.mapHeld_clip (f : Runtime → Runtime) (j : Nat) : (s.mapHeld f).clip j = s.clip j := State.clip_congr j (State.mapHeld_cs s f)
@[simp] theorem State.addDone_clip (tag : Nat) (kind : PlayKind) (flushed notify : Bool) (r : Runtime) (j : Nat) : (s.addDone tag kind flushed notify r).clip j = s.clip j := State.clip_congr j (State.addDone_cs s tag kind flushed notify r)
@[simp] theorem State.fireWatch_clip (j : Nat) : (s.fireWatch).clip j = s.clip j := State.clip_congr j (State.fireWatch_cs s)
@[simp] theorem State.enterState_clip (new : EngineState) (cause : Option EngineCause) (j : Nat) : (s.enterState new cause).clip j = s.clip j := State.clip_congr j (State.enterState_cs s new cause)
@[simp] theorem State.enterStopped_clip (new : EngineState) (cause : Option EngineCause) (j : Nat) : (s.enterStopped new cause).clip j = s.clip j := State.clip_congr j (State.enterStopped_cs s new cause)
@[simp] theorem State.enterRampOut_clip (target : Target) (cause : EngineCause) (j : Nat) : (s.enterRampOut target cause).clip j = s.clip j := State.clip_congr j (State.enterRampOut_cs s target cause)
@[simp] theorem State.passStart_clip (j : Nat) : (s.passStart).clip j = s.clip j := State.clip_congr j (State.passStart_cs s)
@[simp] theorem State.latchPending_clip (g : Nat) (j : Nat) : (s.latchPending g).clip j = s.clip j := State.clip_congr j (State.latchPending_cs s g)
@[simp] theorem State.reloadPoint_clip (j : Nat) : (s.reloadPoint).clip j = s.clip j := State.clip_congr j (State.reloadPoint_cs s)
@[simp] theorem State.countPass_clip (c : Context) (j : Nat) : (s.countPass c).clip j = s.clip j := State.clip_congr j (State.countPass_cs s c)
@[simp] theorem State.overrunOut_clip (c : Context) (cause : EngineCause) (j : Nat) : (s.overrunOut c cause).clip j = s.clip j := State.clip_congr j (State.overrunOut_cs s c cause)
@[simp] theorem State.passEndRampOut_clip (j : Nat) : (s.passEndRampOut).clip j = s.clip j := State.clip_congr j (State.passEndRampOut_cs s)
@[simp] theorem State.rampStep_clip (j : Nat) : (s.rampStep).clip j = s.clip j := State.clip_congr j (State.rampStep_cs s)
@[simp] theorem State.enterTripped_clip (cause : EngineCause) (ch : Option Nat) (j : Nat) : (s.enterTripped cause ch).clip j = s.clip j := State.clip_congr j (State.enterTripped_cs s cause ch)
@[simp] theorem State.setCut_clip (j : Nat) : (s.setCut).clip j = s.clip j := State.clip_congr j (State.setCut_cs s)
@[simp] theorem State.markCut_clip (j : Nat) : (s.markCut).clip j = s.clip j := State.clip_congr j (State.markCut_cs s)
@[simp] theorem State.mapStat_clip (ch : Nat) (f : StatRecord → StatRecord) (j : Nat) : (s.mapStat ch f).clip j = s.clip j := State.clip_congr j (State.mapStat_cs s ch f)
@[simp] theorem State.takeFeedback_clip (ch : Nat) (f : Int) (j : Nat) : (s.takeFeedback ch f).clip j = s.clip j := State.clip_congr j (State.takeFeedback_cs s ch f)
@[simp] theorem State.flagChange_clip (ch : Nat) (j : Nat) : (s.flagChange ch).clip j = s.clip j := State.clip_congr j (State.flagChange_cs s ch)
@[simp] theorem State.sendRecord_clip (ch : Nat) (j : Nat) : (s.sendRecord ch).clip j = s.clip j := State.clip_congr j (State.sendRecord_cs s ch)
@[simp] theorem State.recordHistory_clip (j : Nat) : (s.recordHistory).clip j = s.clip j := State.clip_congr j (State.recordHistory_cs s)
@[simp] theorem State.sendRecords_clip (j : Nat) : (s.sendRecords).clip j = s.clip j := State.clip_congr j (State.sendRecords_cs s)
@[simp] theorem State.engageChannel_clip (ch : Nat) (j : Nat) : (s.engageChannel ch).clip j = s.clip j := State.clip_congr j (State.engageChannel_cs s ch)
@[simp] theorem State.markCapture_clip (m : Nat) (u : MarkUnit) (j : Nat) : (s.markCapture m u).clip j = s.clip j := State.clip_congr j (State.markCapture_cs s m u)
@[simp] theorem State.markEdge_clip (m : Nat) (rising : Bool) (j : Nat) : (s.markEdge m rising).clip j = s.clip j := State.clip_congr j (State.markEdge_cs s m rising)
@[simp] theorem State.markStage_clip (j : Nat) : (s.markStage).clip j = s.clip j := State.clip_congr j (State.markStage_cs s)
@[simp] theorem State.completeCapture_clip (h : Header) (j : Nat) : (s.completeCapture h).clip j = s.clip j := State.clip_congr j (State.completeCapture_cs s h)
@[simp] theorem State.takeRecord_clip (h : Header) (pos : Option Position) (j : Nat) : (s.takeRecord h pos).clip j = s.clip j := State.clip_congr j (State.takeRecord_cs s h pos)
@[simp] theorem State.captureUpdate_clip (pos : Option Position) (j : Nat) : (s.captureUpdate pos).clip j = s.clip j := State.clip_congr j (State.captureUpdate_cs s pos)
@[simp] theorem State.captureTrigger_clip (t : Trigger) (j : Nat) : (s.captureTrigger t).clip j = s.clip j := State.clip_congr j (State.captureTrigger_cs s t)
@[simp] theorem State.lateTrigger_clip (pos : Option Position) (t : Trigger) (j : Nat) : (s.lateTrigger pos t).clip j = s.clip j := State.clip_congr j (State.lateTrigger_cs s pos t)
@[simp] theorem State.captureStage_clip (ts : List Trigger) (pos : Option Position) (j : Nat) : (s.captureStage ts pos).clip j = s.clip j := State.clip_congr j (State.captureStage_cs s ts pos)
@[simp] theorem State.stampFirst_clip (j : Nat) : (s.stampFirst).clip j = s.clip j := State.clip_congr j (State.stampFirst_cs s)
@[simp] theorem State.dropCaptureDue_clip (j : Nat) : (s.dropCaptureDue).clip j = s.clip j := State.clip_congr j (State.dropCaptureDue_cs s)
@[simp] theorem State.stampLast_clip (j : Nat) : (s.stampLast).clip j = s.clip j := State.clip_congr j (State.stampLast_cs s)
@[simp] theorem State.countUpdate_clip (j : Nat) : (s.countUpdate).clip j = s.clip j := State.clip_congr j (State.countUpdate_cs s)
@[simp] theorem State.replaceEntry_clip (pos : Nat) (old new : Entry) (j : Nat) : (s.replaceEntry pos old new).clip j = s.clip j := State.clip_congr j (State.replaceEntry_cs s pos old new)
@[simp] theorem State.clearCause_clip (c : Cause) (j : Nat) : (s.clearCause c).clip j = s.clip j := State.clip_congr j (State.clearCause_cs s c)
@[simp] theorem State.restartTimer_clip (j : Nat) : (s.restartTimer).clip j = s.clip j := State.clip_congr j (State.restartTimer_cs s)
@[simp] theorem State.setReceiver_clip (r : Receiver) (j : Nat) : (s.setReceiver r).clip j = s.clip j := State.clip_congr j (State.setReceiver_cs s r)
@[simp] theorem State.mapCounters_clip (f : LinkCounters → LinkCounters) (j : Nat) : (s.mapCounters f).clip j = s.clip j := State.clip_congr j (State.mapCounters_cs s f)

/-! ### Pages and states of the clips -/

theorem State.clip_setClip_load (id j : Nat) (c : Clip) (h : c.load = (s.clip id).load) : ((s.setClip id c).clip j).load = (s.clip j).load := by
  by_cases hj : j = id
  · subst hj
    by_cases hb : j < 64
    · rw [State.clip_setClip_same s j c hb, h]
    · simp [State.clip, State.setClip, hb]
  · rw [State.clip_setClip_other s id j c hj]

@[simp] theorem State.addRef_clip_load (id : Nat) (j : Nat) : ((s.addRef id).clip j).load = (s.clip j).load := by
  exact State.clip_setClip_load s id j _ rfl

@[simp] theorem State.dropRef_clip_load (id : Nat) (j : Nat) : ((s.dropRef id).clip j).load = (s.clip j).load := by
  exact State.clip_setClip_load s id j _ rfl

@[simp] theorem State.leaveOrder_clip_load (id : Nat) (j : Nat) : ((s.leaveOrder id).clip j).load = (s.clip j).load := by
  simp [State.leaveOrder, State.clip]

@[simp] theorem State.completeVerification_clip_load (id : Nat) (l : ClipLoad) (j : Nat) : ((s.completeVerification id l).clip j).load = (s.clip j).load := by
  exact (congrArg Clip.load (State.clip_congr j (State.raise_cs _ _ _))).trans ((State.leaveOrder_clip_load _ _ _).trans (State.clip_setClip_load s id j _ rfl))

@[simp] theorem State.leaveEntry_clip_load (flushed : Bool) (e : Entry) (j : Nat) : ((s.leaveEntry flushed e).clip j).load = (s.clip j).load := by
  unfold State.leaveEntry; split <;> simp

@[simp] theorem State.retire_clip_load (n : Nat) (j : Nat) : ((s.retire n).clip j).load = (s.clip j).load := by
  induction n generalizing s with
  | zero => rfl
  | succ n ih => unfold State.retire; split <;> simp [ih]

@[simp] theorem State.realRun_clip_load (start : Nat) (j : Nat) : ((s.realRun start).clip j).load = (s.clip j).load := by
  simp [State.realRun]

@[simp] theorem State.beginVisit_clip_load (j : Nat) : ((s.beginVisit).clip j).load = (s.clip j).load := by
  unfold State.beginVisit; (repeat' split) <;> simp

@[simp] theorem State.dropContextRef_clip_load (c : Context) (j : Nat) : ((s.dropContextRef c).clip j).load = (s.clip j).load := by
  unfold State.dropContextRef; split <;> simp

@[simp] theorem State.endVisit_clip_load (c : Context) (j : Nat) : ((s.endVisit c).clip j).load = (s.clip j).load := by
  simp [State.endVisit]

@[simp] theorem State.interruptVisit_clip_load (c : Context) (j : Nat) : ((s.interruptVisit c).clip j).load = (s.clip j).load := by
  simp [State.interruptVisit]

@[simp] theorem State.releaseContext_clip_load (j : Nat) : ((s.releaseContext).clip j).load = (s.clip j).load := by
  unfold State.releaseContext; (repeat' split) <;> simp

@[simp] theorem State.passEndPlaying_clip_load (j : Nat) : ((s.passEndPlaying).clip j).load = (s.clip j).load := by
  unfold State.passEndPlaying; dsimp only; (repeat' split) <;> simp

@[simp] theorem State.endRampOut_clip_load (j : Nat) : ((s.endRampOut).clip j).load = (s.clip j).load := by
  unfold State.endRampOut; dsimp only; split <;> simp

@[simp] theorem State.actionEffect_clip_load (a : Action) (cause : EngineCause) (ch : Option Nat) (j : Nat) : ((s.actionEffect a cause ch).clip j).load = (s.clip j).load := by
  unfold State.actionEffect; (repeat' split) <;> simp

@[simp] theorem State.applyAction_clip_load (a : Action) (cause : EngineCause) (ch : Option Nat) (j : Nat) : ((s.applyAction a cause ch).clip j).load = (s.clip j).load := by
  unfold State.applyAction; dsimp only; split <;> simp

@[simp] theorem State.fireDetector_clip_load (r : LimitRecord) (j : Nat) : ((s.fireDetector r).clip j).load = (s.clip j).load := by
  unfold State.fireDetector; dsimp only; split <;> simp

@[simp] theorem State.evalEnvelope_clip_load (ch : Nat) (f : Int) (stamp : Nat) (j : Nat) : ((s.evalEnvelope ch f stamp).clip j).load = (s.clip j).load := by
  unfold State.evalEnvelope; dsimp only; (repeat' split) <;> simp

@[simp] theorem State.evalTracking_clip_load (ch : Nat) (f : Int) (stamp : Nat) (j : Nat) : ((s.evalTracking ch f stamp).clip j).load = (s.clip j).load := by
  unfold State.evalTracking; dsimp only; (repeat' split) <;> simp

@[simp] theorem State.evalClamp_clip_load (ch : Nat) (j : Nat) : ((s.evalClamp ch).clip j).load = (s.clip j).load := by
  unfold State.evalClamp; dsimp only; (repeat' split) <;> simp

@[simp] theorem State.limitFeedback_clip_load (ch : Nat) (f : Int) (stamp : Nat) (j : Nat) : ((s.limitFeedback ch f stamp).clip j).load = (s.clip j).load := by
  simp [State.limitFeedback]

@[simp] theorem State.faultChannel_clip_load (ch : Nat) (cause : FaultCause) (j : Nat) : ((s.faultChannel ch cause).clip j).load = (s.clip j).load := by
  unfold State.faultChannel; dsimp only; split <;> simp

@[simp] theorem State.closeWindow_clip_load (ch : Nat) (j : Nat) : ((s.closeWindow ch).clip j).load = (s.clip j).load := by
  unfold State.closeWindow; dsimp only; (repeat' split) <;> simp

@[simp] theorem State.closeWindows_clip_load (j : Nat) : ((s.closeWindows).clip j).load = (s.clip j).load := by
  exact foldl_keeps (fun t => (t.clip j).load) _ (fun t ch => State.closeWindow_clip_load t ch j) _ s

@[simp] theorem State.actOnStatus_clip_load (ch : Nat) (f : Int) (st : ServoStatus) (stamp : Nat) (j : Nat) : ((s.actOnStatus ch f st stamp).clip j).load = (s.clip j).load := by
  unfold State.actOnStatus; split <;> simp

@[simp] theorem State.takeResponse_clip_load (ch : Nat) (w : Window) (f sp : Int) (st : ServoStatus) (j : Nat) : ((s.takeResponse ch w f sp st).clip j).load = (s.clip j).load := by
  simp [State.takeResponse]

@[simp] theorem State.handOn_clip_load (cr : Nat × DriveResult) (j : Nat) : ((s.handOn cr).clip j).load = (s.clip j).load := by
  unfold State.handOn; dsimp only; (repeat' split) <;> simp

@[simp] theorem State.advanceStage_clip_load (j : Nat) : ((s.advanceStage).clip j).load = (s.clip j).load := by
  unfold State.advanceStage; (repeat' split) <;> simp

@[simp] theorem State.placeEntry_clip_load (e : Entry) (j : Nat) : ((s.placeEntry e).clip j).load = (s.clip j).load := by
  unfold State.placeEntry; dsimp only; split <;> simp

theorem State.clip_setClip_state (id j : Nat) (c : Clip) (h : c.state = (s.clip id).state) : ((s.setClip id c).clip j).state = (s.clip j).state := by
  by_cases hj : j = id
  · subst hj
    by_cases hb : j < 64
    · rw [State.clip_setClip_same s j c hb, h]
    · simp [State.clip, State.setClip, hb]
  · rw [State.clip_setClip_other s id j c hj]

@[simp] theorem State.addRef_clip_state (id : Nat) (j : Nat) : ((s.addRef id).clip j).state = (s.clip j).state := by
  exact State.clip_setClip_state s id j _ rfl

@[simp] theorem State.dropRef_clip_state (id : Nat) (j : Nat) : ((s.dropRef id).clip j).state = (s.clip j).state := by
  exact State.clip_setClip_state s id j _ rfl

@[simp] theorem State.leaveOrder_clip_state (id : Nat) (j : Nat) : ((s.leaveOrder id).clip j).state = (s.clip j).state := by
  simp [State.leaveOrder, State.clip]

@[simp] theorem State.leaveEntry_clip_state (flushed : Bool) (e : Entry) (j : Nat) : ((s.leaveEntry flushed e).clip j).state = (s.clip j).state := by
  unfold State.leaveEntry; split <;> simp

@[simp] theorem State.retire_clip_state (n : Nat) (j : Nat) : ((s.retire n).clip j).state = (s.clip j).state := by
  induction n generalizing s with
  | zero => rfl
  | succ n ih => unfold State.retire; split <;> simp [ih]

@[simp] theorem State.realRun_clip_state (start : Nat) (j : Nat) : ((s.realRun start).clip j).state = (s.clip j).state := by
  simp [State.realRun]

@[simp] theorem State.beginVisit_clip_state (j : Nat) : ((s.beginVisit).clip j).state = (s.clip j).state := by
  unfold State.beginVisit; (repeat' split) <;> simp

@[simp] theorem State.dropContextRef_clip_state (c : Context) (j : Nat) : ((s.dropContextRef c).clip j).state = (s.clip j).state := by
  unfold State.dropContextRef; split <;> simp

@[simp] theorem State.endVisit_clip_state (c : Context) (j : Nat) : ((s.endVisit c).clip j).state = (s.clip j).state := by
  simp [State.endVisit]

@[simp] theorem State.interruptVisit_clip_state (c : Context) (j : Nat) : ((s.interruptVisit c).clip j).state = (s.clip j).state := by
  simp [State.interruptVisit]

@[simp] theorem State.releaseContext_clip_state (j : Nat) : ((s.releaseContext).clip j).state = (s.clip j).state := by
  unfold State.releaseContext; (repeat' split) <;> simp

@[simp] theorem State.passEndPlaying_clip_state (j : Nat) : ((s.passEndPlaying).clip j).state = (s.clip j).state := by
  unfold State.passEndPlaying; dsimp only; (repeat' split) <;> simp

@[simp] theorem State.endRampOut_clip_state (j : Nat) : ((s.endRampOut).clip j).state = (s.clip j).state := by
  unfold State.endRampOut; dsimp only; split <;> simp

@[simp] theorem State.actionEffect_clip_state (a : Action) (cause : EngineCause) (ch : Option Nat) (j : Nat) : ((s.actionEffect a cause ch).clip j).state = (s.clip j).state := by
  unfold State.actionEffect; (repeat' split) <;> simp

@[simp] theorem State.applyAction_clip_state (a : Action) (cause : EngineCause) (ch : Option Nat) (j : Nat) : ((s.applyAction a cause ch).clip j).state = (s.clip j).state := by
  unfold State.applyAction; dsimp only; split <;> simp

@[simp] theorem State.fireDetector_clip_state (r : LimitRecord) (j : Nat) : ((s.fireDetector r).clip j).state = (s.clip j).state := by
  unfold State.fireDetector; dsimp only; split <;> simp

@[simp] theorem State.evalEnvelope_clip_state (ch : Nat) (f : Int) (stamp : Nat) (j : Nat) : ((s.evalEnvelope ch f stamp).clip j).state = (s.clip j).state := by
  unfold State.evalEnvelope; dsimp only; (repeat' split) <;> simp

@[simp] theorem State.evalTracking_clip_state (ch : Nat) (f : Int) (stamp : Nat) (j : Nat) : ((s.evalTracking ch f stamp).clip j).state = (s.clip j).state := by
  unfold State.evalTracking; dsimp only; (repeat' split) <;> simp

@[simp] theorem State.evalClamp_clip_state (ch : Nat) (j : Nat) : ((s.evalClamp ch).clip j).state = (s.clip j).state := by
  unfold State.evalClamp; dsimp only; (repeat' split) <;> simp

@[simp] theorem State.limitFeedback_clip_state (ch : Nat) (f : Int) (stamp : Nat) (j : Nat) : ((s.limitFeedback ch f stamp).clip j).state = (s.clip j).state := by
  simp [State.limitFeedback]

@[simp] theorem State.faultChannel_clip_state (ch : Nat) (cause : FaultCause) (j : Nat) : ((s.faultChannel ch cause).clip j).state = (s.clip j).state := by
  unfold State.faultChannel; dsimp only; split <;> simp

@[simp] theorem State.closeWindow_clip_state (ch : Nat) (j : Nat) : ((s.closeWindow ch).clip j).state = (s.clip j).state := by
  unfold State.closeWindow; dsimp only; (repeat' split) <;> simp

@[simp] theorem State.closeWindows_clip_state (j : Nat) : ((s.closeWindows).clip j).state = (s.clip j).state := by
  exact foldl_keeps (fun t => (t.clip j).state) _ (fun t ch => State.closeWindow_clip_state t ch j) _ s

@[simp] theorem State.actOnStatus_clip_state (ch : Nat) (f : Int) (st : ServoStatus) (stamp : Nat) (j : Nat) : ((s.actOnStatus ch f st stamp).clip j).state = (s.clip j).state := by
  unfold State.actOnStatus; split <;> simp

@[simp] theorem State.takeResponse_clip_state (ch : Nat) (w : Window) (f sp : Int) (st : ServoStatus) (j : Nat) : ((s.takeResponse ch w f sp st).clip j).state = (s.clip j).state := by
  simp [State.takeResponse]

@[simp] theorem State.handOn_clip_state (cr : Nat × DriveResult) (j : Nat) : ((s.handOn cr).clip j).state = (s.clip j).state := by
  unfold State.handOn; dsimp only; (repeat' split) <;> simp

@[simp] theorem State.advanceStage_clip_state (j : Nat) : ((s.advanceStage).clip j).state = (s.clip j).state := by
  unfold State.advanceStage; (repeat' split) <;> simp

@[simp] theorem State.placeEntry_clip_state (e : Entry) (j : Nat) : ((s.placeEntry e).clip j).state = (s.clip j).state := by
  unfold State.placeEntry; dsimp only; split <;> simp

end Sys2Proof.Machine
end

