-- ==== Sys2Proof/Laws/Shared.lean ====
section
/-! SUPPORT. Everything the shared operations of the block can do, one lemma each: taking and answering a request, placing a frame,
the step, raising a cause, and what the engine's shared procedures leave of the engine. -/

namespace Sys2Proof.Machine

open Sys2Proof

/-- A taking is its block's state, answered with its block's reply (R189, R191). -/
theorem State.perform_eq_answered (s : State) (code tag : Nat) (act : Taking) :
    s.perform code tag act = (act s).1.answered code tag (act s).2.status (act s).2.fields := rfl

/-- A request's row with a reply place free: what its block does, answered (R189). -/
theorem State.takeOrWait_of_free {s : State} (h : s.repliesHeld < 2) (tag : Nat) (r : Request) (act : Taking) :
    s.takeOrWait tag r act = (act s).1.answered (requestCode r) tag (act s).2.status (act s).2.fields :=
  if_pos h

/-- A request's row whose taking is known, with a reply place free (R189). -/
theorem State.takeOrWait_of_taking {s t : State} {st : Status} {fields : List Byte} (h : s.repliesHeld < 2) (tag : Nat)
    (r : Request) (act : Taking) (ha : act s = (t, { status := st, fields := fields })) :
    s.takeOrWait tag r act = t.answered (requestCode r) tag st fields := by
  rw [State.takeOrWait_of_free h, ha]

/-- A request's row with no reply place free joins the request buffer's path (R190; log entry 7). -/
theorem State.takeOrWait_of_full {s : State} (h : ¬ s.repliesHeld < 2) (tag : Nat) (r : Request) (act : Taking) :
    s.takeOrWait tag r act = s.bufferRequest { code := requestCode r, tag := tag, payload := requestPayload r } :=
  if_neg h

/-- A placed frame is the last of the transmit queue (R190); in a queue that sends first, it is behind all others. -/
theorem State.queuedFrames_placeFrame {s : State} (h : s.sli.leaving = none → s.sli.waiting = []) (f : Frame) :
    (s.placeFrame f).queuedFrames = s.queuedFrames ++ [f] := by
  unfold State.placeFrame State.queuedFrames
  cases hl : s.sli.leaving with
  | none => simp [State.setSli, h hl]
  | some g => simp [State.setSli, hl]

/-! ### The step -/

/-- Everything a step can do: idle with nothing waiting, or carry out the front command on the rest. -/
theorem step_cases {s t : State} (h : step s = .next t) :
    (s.pending = [] ∧ t = s) ∨ ∃ c rest, s.pending = c :: rest ∧ exec c { s with pending := rest } = .next t := by
  unfold step at h
  split at h
  · next hp => exact .inl ⟨hp, by injection h with h; exact h.symm⟩
  · next c rest hp => exact .inr ⟨c, rest, hp, h⟩

/-! ### Raising (R174) -/

/-- Everything a raising does: the cause's record, and at most the transmit queue. -/
theorem State.raise_eq (s : State) (c : Cause) (d : Option Detail) :
    s.raise c d = { s with
      eu := (s.setCause c { s.cause c with count := min 255 ((s.cause c).count + 1), detail := d }).eu,
      sli := if (s.cause c).count = 0 ∧ (s.cause c).enable = true then (s.placeNotice c 1).sli else s.sli } := by
  unfold State.raise State.placeNotice State.placeFrame State.setCause State.setSli
  dsimp only
  by_cases h : (s.cause c).count = 0 ∧ (s.cause c).enable = true
  · simp only [if_pos h]
    split
    · rfl
    · cases s.sli.leaving <;> rfl
  · simp only [if_neg h]

/-- A raising reads and writes nothing of the engine, so a change of the engine passes through it. -/
theorem State.raise_setPe (s : State) (e : Engine) (c : Cause) (d : Option Detail) :
    (s.setPe e).raise c d = (s.raise c d).setPe e := by
  unfold State.raise State.placeNotice State.placeFrame State.setCause State.cause State.setPe State.setSli
  dsimp only
  split
  · split
    · rfl
    · cases s.sli.leaving <;> rfl
  · rfl

/-! ### The engine (R78, R85, R90, R95) -/

/-- A reload point changes the engine's context alone (R79). -/
theorem State.reloadPoint_pe (s : State) : ∃ ctx, s.reloadPoint.pe = { s.pe with ctx := ctx } := by
  unfold State.reloadPoint
  split
  · split
    · exact ⟨_, by simp [State.setCtx]; rfl⟩
    · exact ⟨s.pe.ctx, by simp⟩
  · exact ⟨s.pe.ctx, by simp⟩

/-- Beginning a visit changes the engine's context alone (R78). -/
theorem State.beginVisit_pe (s : State) : ∃ ctx, s.beginVisit.pe = { s.pe with ctx := ctx } := by
  unfold State.beginVisit
  split
  · split
    · exact ⟨s.pe.ctx, rfl⟩
    · obtain ⟨ctx, h⟩ := State.reloadPoint_pe _
      exact ⟨ctx, h.trans (by simp)⟩
  · obtain ⟨ctx, h⟩ := State.reloadPoint_pe _
    exact ⟨ctx, h.trans (by simp)⟩
  · exact ⟨s.pe.ctx, rfl⟩

/-- A context release leaves the engine without a context and changes nothing else of it (R90). -/
theorem State.releaseContext_pe (s : State) : s.releaseContext.pe = { s.pe with ctx := none } := by
  unfold State.releaseContext
  split
  · next h => simp [← h]
  · split
    · simp [State.endVisit, State.setCtx]
    · simp [State.interruptVisit, State.setCtx]

/-- An action that does not apply is recorded only (R85). -/
theorem State.applyAction_recorded {s : State} {a : Action} (h : s.actionApplies a = false) (cause : EngineCause)
    (channel : Option Nat) :
    s.applyAction a cause channel = s.setPe { s.pe with
      lastAction := some { action := a, cause := cause, channel := channel, stamp := s.pe.counter, applied := false } } := by
  simp [State.applyAction, h]

/-- An action that applies is recorded and has its effect (R85). -/
theorem State.applyAction_applied {s : State} {a : Action} (h : s.actionApplies a = true) (cause : EngineCause)
    (channel : Option Nat) :
    s.applyAction a cause channel
      = (s.setPe { s.pe with
          lastAction := some { action := a, cause := cause, channel := channel, stamp := s.pe.counter, applied := true } }
        ).actionEffect a cause channel := by
  simp [State.applyAction, h]

/-- A TRIP that applies leaves the engine TRIPPED with λ 0 and the trip's cause (R95). -/
theorem State.enterTripped_pe (s : State) (cause : EngineCause) (channel : Option Nat) :
    (s.enterTripped cause channel).pe = { s.pe with
      state := .tripped, lam := 0, tripCause := some cause, tripChannel := channel, target := none,
      stopCause := if s.pe.state = .rampOut then none else s.pe.stopCause } := by
  simp [State.enterTripped, State.enterState, State.setPe]

end Sys2Proof.Machine
end

