-- ==== Sys2Proof/Tests/Slice0.lean ====
section
/-! SUPPORT. Tests of the model, each one step or one operation on a small state. The expected values of `test_…` are the
manual's worked examples and tables, or arithmetic by hand from its rules; the docstrings say which. Each `witness_…` shows a
concrete state and operands that meet all the hypotheses of the statement it is named after, clause by clause. -/

set_option maxRecDepth 20000

namespace Sys2Proof.Tests

open Sys2Proof Sys2Proof.Machine

/-! ### Small states -/

/-- A part with thirteen free pages, Rig Ready asserted, and nothing on the line. -/
def base : State :=
  { State.reset with
    cs := { ClipStore.reset with freePages := [0, 1, 2, 3, 4, 5, 6, 7, 8, 9, 10, 11, 12] }
    cpc := { PortUnit.reset with rigReady := true }
    sli := { LinkUnit.reset .powerOn with leaving := none } }

/-- The state an answer gives. -/
def after (a : Answer) : State :=
  match a with
  | .next t => t
  | .fault _ => State.reset
  | .refused _ => State.reset

/-- The payload of the leaving frame: the status and the fields of a reply, when the line was idle. -/
def reply (s : State) : List Byte := (s.sli.leaving.map (·.payload)).getD []

/-- The engine in another state, with a context. -/
def inState (s : State) (e : EngineState) (c : Option Context) : State := { s with pe := { s.pe with state := e, ctx := c } }

/-- A clip of channels 2 and 3 at U = 2 with three point-frames in page 0. -/
def smallLoad : ClipLoad := { chans := [2, 3], upsample := 2, length := 3, pages := [0], expected := 0, received := 6 }

/-- The clip in one of its states. -/
def smallClip (st : ClipState) (refs : Nat) : Clip :=
  { state := st, load := if st = .free then none else some smallLoad, computed := none, failReason := none, refs := refs }

/-- `base` with the clip under id 0. -/
def withClip (st : ClipState) (refs : Nat) : State := base.setClip 0 (smallClip st refs)

/-- A port in one of its states, its last record open since the update stamped 12. -/
def livePort (st : PortState) : Port :=
  { Port.reset with
    state := st, owner := .replay, enable := true, setpoint := some 412, feedback := some 409,
    window := some { stamp := 12, exchange := 12, engaged := st == .engaged, command := 0, answered := false } }

/-- A PLAY entry of the clip. -/
def playFields : PlayFields :=
  { clip := 0, window := none, passes := 2, gainSet := 0, skip := false, notify := true, captureAtStart := false }

/-- A PLAY entry with tag 5. -/
def playEntry (passes visits : Nat) : Entry :=
  { tag := 5, body := .play { playFields with passes := passes } { Runtime.fresh with visits := visits } }

/-- A DWELL entry of three updates. -/
def dwellEntry (tag : Nat) : Entry :=
  { tag := tag, body := .dwell { length := 3, skip := false, notify := false } Runtime.fresh }

/-- The PLAY context of tag 5 at update-in-pass `u`. -/
def playCtx (u counted : Nat) : Context :=
  { tag := 5,
    body := .play { clip := 0, chans := [2, 3], upsample := 2, first := 0, count := 3, gainSet := 0, u := u,
                    stats := freshStats [2, 3] },
    counted := counted, overrun := false, cut := false, firstUpdate := some 10, lastUpdate := some 12, captureDue := false }

/-- The context's PLAY part. -/
def playPart (u : Nat) : PlayContext :=
  { clip := 0, chans := [2, 3], upsample := 2, first := 0, count := 3, gainSet := 0, u := u, stats := freshStats [2, 3] }

/-- A rig that plays tag 5 in engine state `e`: channels 2 and 3 ENGAGED, the clip READY with points 400, 903 and −1200 for
channel 2, gain set 0 at full gain. -/
def rig (e : EngineState) (u counted : Nat) : State :=
  { withClip .ready 2 with
    cs := { (withClip .ready 2).cs with points := [(0, 400#16), (2, 903#16), (4, 64336#16)] }
    sq := { SegmentQueue.reset with entries := [playEntry 2 1, dwellEntry 6] }
    pe := { Engine.reset with
      state := e, ctx := some (playCtx u counted), lam := if e = .running then 65536 else 0, counter := 12,
      target := if e = .rampOut then some .paused else none }
    dcu := { DriveUnit.reset with
      gains := DriveUnit.reset.gains.setIfInBounds 0
        { active := Vector.replicate 16 16384, pending := Vector.replicate 16 16384, flag := false } }
    cpc := { base.cpc with
      rigMode := .replay,
      ports := (base.cpc.ports.setIfInBounds 2 (livePort .engaged)).setIfInBounds 3 (livePort .engaged) } }

/-! ### The smoke test of well-formedness: each check refuses an ill-formed term -/

/-- Requests with one field that no frame can carry, one or more for each check. -/
def illFormedRequests : List Request :=
  [.openClip 256 1 1 1 0, .openClip 0 65536 1 1 0, .openClip 0 1 256 1 0, .openClip 0 1 1 4294967296 0,
   .openClip 0 1 1 1 4294967296, .clipData 256 0 [], .clipData 0 4294967296 [], .clipData 0 0 (List.replicate 509 0),
   .closeClip 256, .freeClip 256, .clipInfo 256 0, .clipInfo 0 65536,
   .appendEntry (.play 65536 0 0 0 0 0 0), .appendEntry (.play 0 256 0 0 0 0 0), .appendEntry (.play 0 0 256 0 0 0 0),
   .appendEntry (.play 0 0 0 256 0 0 0), .appendEntry (.play 0 0 0 0 65536 0 0), .appendEntry (.play 0 0 0 0 0 4294967296 0),
   .appendEntry (.play 0 0 0 0 0 0 4294967296), .appendEntry (.dwell 65536 0 0), .appendEntry (.dwell 0 256 0),
   .appendEntry (.dwell 0 0 4294967296), .appendEntry (.loopOpen 65536 0), .appendEntry (.loopOpen 0 65536),
   .appendEntry (.loopClose 65536), .appendEntry (.unknown 3 [0, 0]), .appendEntry (.unknown 256 [0, 0]),
   .appendEntry (.unknown 4 [0]), .appendEntry (.unknown 4 (List.replicate 16 0)),
   .modifyEntry 65536 [], .modifyEntry 0 (List.replicate 205 { field := 1, value := 1 }), .modifyEntry 0 [{ field := 256, value := 0 }],
   .modifyEntry 0 [{ field := 1, value := 4294967296 }], .readQueue 256 0, .readQueue 0 256, .readDone 4294967296,
   .setRamp 65536 1, .setRamp 1 65536, .setTimebase 65536 0, .setTimebase 1024 256,
   .configureChannel 256 0 0 0 1, .configureChannel 0 32768 0 0 1, .configureChannel 0 0 (-32769) 0 1,
   .configureChannel 0 0 0 32768 1, .configureChannel 0 0 0 0 65536, .writeGainSet 256 (List.replicate 16 0),
   .writeGainSet 0 (List.replicate 15 0), .writeGainSet 0 (List.replicate 16 65536), .readGainSet 256,
   .channelPowerOn 256, .channelPowerOff 256, .setRigMode 256, .setChannelOwner 256 0, .setChannelOwner 0 256, .engage 256,
   .release 256, .acknowledgeChannels 65536, .readChannel 256, .configureMark (.off 256), .configureMark (.compare 0 256 0 0 0),
   .configureMark (.compare 0 0 4294967296 0 0), .configureMark (.compare 0 0 0 256 0), .configureMark (.compare 0 0 0 0 256),
   .configureMark (.capture 0 256 1 0), .configureMark (.capture 0 0 256 0), .configureMark (.capture 0 0 1 256),
   .configureMark (.unknown 0 2 []), .configureMark (.unknown 0 3 (List.replicate 8 0)), .setMarkOutput 256 0,
   .setMarkOutput 0 256, .readMark 256 0, .readMark 0 256, .configureCapture 65536 0 1 1 0, .configureCapture 1 256 1 1 0,
   .configureCapture 1 0 256 1 0, .configureCapture 1 0 1 4294967296 0, .configureCapture 1 0 1 1 256,
   .readCapture 4294967296 0 1, .readCapture 0 4294967296 1, .readCapture 0 0 65536, .enableEvents 65536,
   .setSupervision 65536, .queryStatus 256]

/-- Configure Limits payloads with one field that no frame can carry. -/
def illFormedLimits : List LimitFields :=
  let ok : LimitFields :=
    { fMin := 0, fMax := 0, eMax := 0, delay := 0, envPersist := 1, trkPersist := 1, kc := 1, envAction := 0, envEnable := 0,
      trkAction := 0, trkEnable := 0, clampAction := 0, clampEnable := 0 }
  [{ ok with fMin := -32769 }, { ok with fMax := 32768 }, { ok with eMax := 65536 }, { ok with delay := 256 },
   { ok with envPersist := 256 }, { ok with trkPersist := 256 }, { ok with kc := 65536 }, { ok with envAction := 256 },
   { ok with envEnable := 256 }, { ok with trkAction := 256 }, { ok with trkEnable := 256 }, { ok with clampAction := 256 },
   { ok with clampEnable := 256 }]

/-- Events that name no code, channel, unit or value of the part. -/
def illFormedEvents : List Instr :=
  [.start 65536, .unknownRequest 256 0, .unknownRequest 0x10 0, .unknownRequest 0xF0 65536, .requestArrival 256 0 0 [] 0 0,
   .requestArrival 1 256 0 [] 0 0, .requestArrival 1 0 65536 [] 0 0, .requestArrival 1 0 0 [] 65536 0,
   .servoResponse 16 true 0 0 0 .ok, .servoResponse 0 true 256 0 0 .ok, .servoResponse 0 true 0 32768 0 .ok,
   .servoResponse 0 true 0 0 (-32769) .ok, .detectorFire 16 .envelope 0, .detectorFire 0 .tracking 32768, .linkLost 16,
   .linkingTimeout 16, .markInputEdge 6 true]

theorem test_requests_refused : illFormedRequests.all (fun r => !r.wf) = true := by decide
theorem test_limits_refused : illFormedLimits.all (fun l => !l.wf) = true := by decide
theorem test_events_refused : illFormedEvents.all (fun i => !i.wf) = true := by decide

/-! ### The line's encoding (chapters 10 and 11) -/

/-- The check value of R199. -/
theorem test_crc_check_value : crc16 [0x31, 0x32, 0x33, 0x34, 0x35, 0x36, 0x37, 0x38, 0x39] = 0x29B1 := by decide

/-- A Set Ramp of Ri 100 and Ro 2048, written out byte by byte from section 11.2: sync pair, kind, code, tag 7, length 4,
fields; the two CRC bytes are those of the model's own CRC. -/
theorem test_request_bytes :
    (requestBytes 0x35 7 (requestPayload (.setRamp 100 2048))).take 12
      = [0x5A, 0xC3, 0x01, 0x35, 0x00, 0x07, 0x00, 0x04, 0x00, 0x64, 0x08, 0x00] := by decide

/-- Payloads written out from sections 11.4 and R200, and read back: a PLAY append, an unknown kind, a Configure Mark in
COMPARE for ANY clip, a Modify Entry of two changes, a Configure Channel with a negative offset. -/
theorem test_payloads_read :
    parseRequest 0x20 [0, 0x01, 0x02, 12, 0x0E, 3, 0x00, 0x05, 0, 0, 0, 9, 0, 0, 1, 0]
        = .request (.appendEntry (.play 0x0102 12 0x0E 3 5 9 256))
    ∧ parseRequest 0x20 [4, 0, 0] = .request (.appendEntry (.unknown 4 [0, 0])) ∧ parseRequest 0x20 [4, 0] = .badLength
    ∧ parseRequest 0x70 [2, 1, 0xFF, 0, 0, 0x0F, 0xFF, 0, 4] = .request (.configureMark (.compare 2 255 4095 0 4))
    ∧ parseRequest 0x21 [0, 51, 2, 2, 0, 0, 0, 2, 4, 0, 0, 0, 1]
        = .request (.modifyEntry 51 [{ field := 2, value := 2 }, { field := 4, value := 1 }])
    ∧ parseRequest 0x40 [7, 0xFF, 0xFE, 0x80, 0x00, 0x7F, 0xFF, 0, 50] = .request (.configureChannel 7 (-2) (-32768) 32767 50)
    ∧ parseRequest 0xF0 [] = .unknownCode ∧ parseRequest 0x30 [0] = .badLength := by decide

/-- The widths of section 11.7 and of R102's record: a header of sixteen channels takes 181 bytes, a position 11. -/
theorem test_record_widths :
    (positionBytes { tag := 1, pass := 65536, value := 2, overrun := true, dwell := false }).length = 11
    ∧ (contextBytes 0 { playCtx 0 0 with body := .dwell 0 }).length = contextWidth
    ∧ (headerBytes 0 none
        { sequence := some 1, kind := .request, unit := none, stamp := some 1, position := none, chans := List.range 16,
          withCommand := false, decimation := 1, records := 1, taken := 1, missed := false,
          figures := List.replicate 16 { span := none, absentCount := 0 } }).length = 181 := by decide

/-! ### Drive computation (chapter 1) -/

/-- The worked interpolation across the window end, and its short case. -/
theorem test_interpolation :
    (List.range 12).map (fun u => interpolate (([400, 903, -1200] : List Int).getD (u / 4) 0)
        (([400, 903, -1200] : List Int).getD ((u / 4 + 1) % 3) 0) (u % 4) 4)
      = [400, 525, 651, 777, 903, 377, -149, -675, -1200, -800, -400, 0]
    ∧ interpolate 10 7 1 2 = 8 := by decide

theorem witness_InterpolationLaw :
    -32768 ≤ (-32768 : Int) ∧ (-32768 : Int) ≤ 32767 ∧ -32768 ≤ (32767 : Int) ∧ (32767 : Int) ≤ 32767 ∧ (8 = 8 ∧ 7 < 8)
      ∧ (1 = 1 ∧ 0 < 1) := by decide

theorem witness_DynamicPartLaw :
    (-32768 ≤ (-32768 : Int) ∧ (-32768 : Int) ≤ 32767 ∧ 32767 ≤ 32767) ∧ |16384 * dynamicPart 1 8192 - 1 * 8192| = 8192 := by
  decide

/-- A channel record with clamp range −10 to 10 and slew limit 5, last output 0: a target of 5 is within reach, one of 6 is
not. -/
theorem witness_CommandLaw :
    ((-10 : Int) ≤ 10 ∧ (5 : Int) = max (-10) (min 10 (0 + 5)) ∧ ((5 : Int) - 0).natAbs ≤ 5)
    ∧ ((-10 : Int) ≤ 10 ∧ (6 : Int) = max (-10) (min 10 (0 + 6)) ∧ 5 < ((6 : Int) - 0).natAbs) := by decide

/-- The product table of R10 and the effective gains of R9. -/
theorem test_products :
    ([(1, 8192), (-1, 8192), (3, 8192), (-3, 8192), (5, 5000), (-200, 9840), (32767, 32767), (-32768, 32767)]
        : List (Int × Nat)).map (fun (v, q) => dynamicPart v q) = [1, -1, 2, -2, 2, -120, 65532, -65534]
    ∧ effectiveGain 32767 65535 = 32766 ∧ effectiveGain 24576 26240 = 9840 := by decide

/-- The mid-ramp and the full-scale cases of section 1.9. -/
theorem test_commands :
    driveResult { offset := 2500, clampMin := -20000, clampMax := 20000, slew := 50, lastOutput := 2300 } true (-120)
        = { command := 2350, target := 2380, dynamic := true, clamped := false, limited := true }
    ∧ driveResult { offset := -5000, clampMin := -30000, clampMax := 30000, slew := 1000, lastOutput := -29800 } true (-65534)
        = { command := -30000, target := -30000, dynamic := true, clamped := true, limited := false } := by decide

/-- A Configure Channel whose clamp range is empty is refused (R2); one that is not keeps the last output. -/
theorem test_configure_channel :
    reply (after (exec (.configureChannel 1 3 0 5 4 1) base)) = [3]
    ∧ (after (exec (.configureChannel 1 3 7 (-9) 9 400) base)).drive 3
        = { offset := 7, clampMin := -9, clampMax := 9, slew := 400, lastOutput := 0 } := by decide

/-- A Write Gain Set of the set that the playing visit uses stays pending; in PAUSED it is latched (R21). -/
theorem test_write_gain_set :
    (let t := after (exec (.writeGainSet 1 0 (List.replicate 16 5)) (rig .running 0 0))
     (reply t, ((t.gainSet 0).active)[2]?, ((t.gainSet 0).pending)[2]?, (t.gainSet 0).flag))
      = ([0, 1], some 16384, some 5, true)
    ∧ reply (after (exec (.writeGainSet 1 0 (List.replicate 16 5)) (rig .paused 0 0))) = [0, 0] := by decide

theorem witness_DriveRequestsResult :
    base.repliesHeld < 2 ∧ (15 < 16 ∧ (-32768 : Int) ≤ -32768 ∧ 1 ≤ 1) ∧ (15 < 16 ∨ (5 : Int) < 4 ∨ 1 = 0)
    ∧ (7 < 8 ∧ List.replicate 16 32767 = (Vector.replicate 16 32767).toList ∧ (∀ g ∈ List.replicate 16 32767, g ≤ 32767)
        ∧ base.pe.state = .idle)
    ∧ ((rig .running 0 0).repliesHeld < 2 ∧ 0 < 8 ∧ List.replicate 16 32767 = (Vector.replicate 16 32767).toList
        ∧ (rig .running 0 0).pe.state = .running ∧ (rig .running 0 0).pe.ctx = some (playCtx 0 0)
        ∧ (playCtx 0 0).body = .play (playPart 0) ∧ (playPart 0).gainSet = 0) := by decide

/-! ### Clip Store (chapter 2) -/

/-- The worked page allocation, its last request: clip 20 takes the five pages that clip 3 gave back and three more. -/
theorem test_open_clip_takes_lowest_pages :
    (let s : State := { base with cs := { base.cs with freePages := [0, 1, 2, 3, 4, 9, 10, 11, 12] } }
     let t := after (exec (.openClip 1 20 0x30F 1 5000 0) s)
     (t.clipPages 20, t.cs.freePages, reply t)) = ([0, 1, 2, 3, 4, 9, 10, 11], [12], [0, 0, 8]) := by decide

/-- Its Free Clip: the pages of clip 3 merge back in ascending order. -/
theorem test_free_clip_merges_pages :
    (let l : ClipLoad := { chans := [0, 1, 2, 3], upsample := 1, length := 4100, pages := [0, 1, 2, 3, 4], expected := 0, received := 0 }
     let s : State := { base with cs := { base.cs with freePages := [9, 10, 11, 12] } }
     (after (exec (.freeClip 1 3) (s.setClip 3 { Clip.reset with state := .ready, load := some l }))).cs.freePages)
      = [0, 1, 2, 3, 4, 9, 10, 11, 12] := by decide

/-- The storage example of section 2.3: storage index 24004 of clip 20 is page-list place 5, which is page 9, offset 3524. -/
theorem test_storage_index :
    pointAddress { chans := [0, 1, 2, 3, 8, 9], upsample := 1, length := 5000, pages := [0, 1, 2, 3, 4, 9, 10, 11], expected := 0,
                   received := 0 } (4000 * 6 + 4) = 9 * 4096 + 3524 := by decide

/-- The worked checksums, and the one that wraps both sums. -/
theorem test_checksums :
    checksumOf [1000#16, 64936#16, 3#16] = 118161811 ∧ checksumOf [3#16, 64936#16, 1000#16] = 4282450323
    ∧ checksumOf [65535#16, 65535#16, 65535#16] = 4294639613 := by decide

/-- `withClip` while clip 0 is LOADING with four of its six points. -/
def loading : State :=
  base.setClip 0 { state := .loading, load := some { smallLoad with received := 4 }, computed := none, failReason := none, refs := 0 }

/-- The worked loading exchange in small: a repeat is OUT_OF_ORDER with the points received, an overrun is INVALID_VALUE with
them, the rest is OK and stored. -/
theorem test_clip_data :
    reply (after (exec (.clipData 1 0 2 [1, 2]) loading)) = [0x12, 0, 0, 0, 4]
    ∧ reply (after (exec (.clipData 1 0 4 [1, 2, 3]) loading)) = [3, 0, 0, 0, 4]
    ∧ (let t := after (exec (.clipData 1 0 4 [7, 8]) loading)
       (reply t, t.cs.points, ((t.clip 0).load.map (·.received)))) = ([0, 0, 0, 0, 6], [(4, 7), (5, 8)], some 6) := by decide

/-- Close Clip: an incomplete clip FAILS INCOMPLETE, a complete one is VERIFYING (R32). -/
theorem test_close_clip :
    (let t := after (exec (.closeClip 1 0) loading); (reply t, (t.clip 0).failReason, (t.cause .clip).detail))
      = ([0, 4], some .incomplete, some (.clip 0 .incomplete))
    ∧ (let t := after (exec (.closeClip 1 0) (base.setClip 0 (smallClip .loading 0))); (reply t, (t.clip 0).state, t.cs.order))
      = ([0, 2], .verifying, [0]) := by decide

/-- The worked verification order: clip 5 of 2,097,152 points takes 2 seconds from its close at time 0, so it stands at
524,288 points at 0.5 s; 1/1,048,576 second a point (R33). -/
theorem test_verification_rate :
    2097152 * Config.verifyPoint = 2 * Config.second ∧ (Config.second / 2) / Config.verifyPoint = 524288
    ∧ 4096 * Config.verifyPoint = Config.second / 256 := by decide

/-- Clip 0 at the front of the verification order, under an expected checksum. -/
def verifying (expected : Nat) : State :=
  let s := base.setClip 0 { smallClip .verifying 0 with load := some { smallLoad with expected := expected } }
  { s with cs := { s.cs with points := [(0, 1000#16), (1, 64936#16), (2, 3#16)], order := [0] } }

/-- A clip whose points are 1000, −600, 3, 0, 0, 0 under its checksum becomes READY, and under another FAILED CHECKSUM; the
sums are those of the worked example carried on by hand: A stays 403, B gains 403 three times, 3012. -/
theorem test_verification_complete :
    (let t := after (exec (.verificationComplete 18750) (verifying (3012 * 65536 + 403)))
     ((t.clip 0).state, t.cs.order)) = (.ready, [])
    ∧ (after (exec (.verificationComplete 18750) (verifying 0))).cause .clip
      = { count := 1, enable := false, detail := some (.clip 0 .checksum) } := by decide +kernel

/-- Clip Info of a FREE clip: presence 0 and both page counts 0 (section 11.6); Store Info with the lowest free page. -/
theorem test_clip_info_free :
    reply (after (exec (.clipInfo 1 5 0) base)) = 0 :: 5 :: List.replicate 32 0
    ∧ (reply (after (exec (.storeInfo 1) base))).take 6 = [0, 1, 0, 13, 0, 0] := by decide

theorem witness_OpenClipResult :
    (base.repliesHeld < 2 ∧ 63 < 64 ∧ (base.clip 63).state = .free ∧ [0] = maskChannels 1 ∧ [0] ≠ ([] : List Nat)
      ∧ (1 = 1 ∨ 1 = 2 ∨ 1 = 4 ∨ 1 = 8) ∧ 1 ≤ 53248 ∧ 53248 * [0].length ≤ 8388608 ∧ 13 = (53248 * [0].length + 4095) / 4096
      ∧ 13 ≤ base.cs.freePages.length) := by decide

theorem witness_ClipDataResult :
    loading.repliesHeld < 2 ∧ ramWf loading.cs.points = true ∧ 0 < 64 ∧ 1 ≤ [7#16, 8#16].length ∧ [7#16, 8#16].length ≤ 500
    ∧ (loading.clip 0).state = .loading ∧ (loading.clip 0).load = some { smallLoad with received := 4 }
    ∧ 4 + [7#16, 8#16].length ≤ smallLoad.length * smallLoad.chans.length ∧ smallLoad.pages.Nodup
    ∧ smallLoad.length * smallLoad.chans.length ≤ smallLoad.pages.length * 4096 := by decide

theorem witness_CloseClipResult :
    (loading.repliesHeld < 2 ∧ (loading.clip 0).state = .loading ∧ (loading.clip 0).load = some { smallLoad with received := 4 }
      ∧ 4 < smallLoad.length * smallLoad.chans.length)
    ∧ ((withClip .loading 0).repliesHeld < 2 ∧ ((withClip .loading 0).clip 0).state = .loading
      ∧ ((withClip .loading 0).clip 0).load = some smallLoad ∧ smallLoad.length * smallLoad.chans.length ≤ smallLoad.received) := by
  decide

theorem witness_FreeClipResult :
    ((withClip .ready 1).repliesHeld < 2 ∧ 0 < ((withClip .ready 1).clip 0).refs)
    ∧ ((withClip .free 0).repliesHeld < 2 ∧ ((withClip .free 0).clip 0).refs = 0 ∧ ((withClip .free 0).clip 0).state = .free)
    ∧ ((withClip .verifying 0).repliesHeld < 2 ∧ ((withClip .verifying 0).clip 0).refs = 0
      ∧ ((withClip .verifying 0).clip 0).state ≠ .free
      ∧ [0, 0] = mergePages [0] [0] ∧ (withClip .verifying 0).clipPages 0 = [0]) := by decide

/-- Six points take 18,750 quanta: the completion is due at that moment and not one quantum before. -/
theorem witness_VerificationCompleteResult :
    (let s : State := { withClip .verifying 0 with cs := { (withClip .verifying 0).cs with order := [0] } }
     s.cs.order = 0 :: [] ∧ (s.clip 0).load = some smallLoad
      ∧ s.cs.verifierSince + smallLoad.length * smallLoad.chans.length * 3125 ≤ max s.clock 18750
      ∧ max s.clock 18749 < s.cs.verifierSince + smallLoad.length * smallLoad.chans.length * 3125) := by decide

/-! ### Segment Queue (chapter 3) -/

/-- The queue of the worked advance through nested loops. -/
def nested : List Entry :=
  let play (tag passes : Nat) : Entry := { tag := tag, body := .play { playFields with passes := passes } Runtime.fresh }
  [{ tag := 10, body := .loopOpen 2 }, play 11 1, { tag := 12, body := .loopOpen 3 }, play 13 2, { tag := 14, body := .loopClose },
   dwellEntry 15, { tag := 16, body := .loopClose }, play 17 1]

/-- The worked advance through nested loops: Start, the end of 11's visit, the three ends of 13's, the two ends of 15's. -/
theorem test_advance_nested :
    scan nested 18 0 [] = (1, [{ tag := 10, count := 2, iterations := 0 }])
    ∧ scan nested 18 2 [{ tag := 10, count := 2, iterations := 0 }]
        = (3, [{ tag := 12, count := 3, iterations := 0 }, { tag := 10, count := 2, iterations := 0 }])
    ∧ scan nested 18 4 [{ tag := 12, count := 3, iterations := 1 }, { tag := 10, count := 2, iterations := 0 }]
        = (3, [{ tag := 12, count := 3, iterations := 2 }, { tag := 10, count := 2, iterations := 0 }])
    ∧ scan nested 18 4 [{ tag := 12, count := 3, iterations := 2 }, { tag := 10, count := 2, iterations := 0 }]
        = (5, [{ tag := 10, count := 2, iterations := 0 }])
    ∧ scan nested 18 6 [{ tag := 10, count := 2, iterations := 0 }] = (1, [{ tag := 10, count := 2, iterations := 1 }])
    ∧ scan nested 18 6 [{ tag := 10, count := 2, iterations := 1 }] = (7, []) := by decide

/-- The worked empty-body exit: with skip set on the body's one entry the frame 30/0/57 is popped; and with the count changed to
40 the loop ends at the next examination as well. -/
theorem test_empty_body_exit :
    (let q (skip : Bool) : List Entry :=
      [{ tag := 30, body := .loopOpen 0 }, { tag := 31, body := .play { playFields with skip := skip } Runtime.fresh },
       { tag := 32, body := .loopClose }, { tag := 33, body := .play playFields Runtime.fresh }]
     scan (q true) 10 2 [{ tag := 30, count := 0, iterations := 57 }] = (3, [])
      ∧ scan (q false) 10 2 [{ tag := 30, count := 40, iterations := 57 }] = (3, [])
      ∧ scan (q false) 10 2 [{ tag := 30, count := 0, iterations := 57 }] = (1, [{ tag := 30, count := 0, iterations := 58 }])) := by
  decide

/-- The worked reading with a gap: the ring holds 44 to 75, and s = 40 answers 44 to 47; s = 76 and a number ahead answer
none. -/
theorem test_read_done_gap :
    (let record (n : Nat) : DoneRecord :=
      { sequence := n, tag := 0, kind := .dwell, status := .complete, visits := 1, passes := 1, firstStamp := none,
        lastStamp := none, stats := none }
     let q : SegmentQueue := { SegmentQueue.reset with doneRing := (List.range' 44 32).map record, nextSeq := 76 }
     ((doneFrom q 40).map (·.sequence), (doneFrom q 48).map (·.sequence), doneFrom q 76, doneFrom q 77))
      = ([44, 45, 46, 47], [48, 49, 50, 51], [], []) := by decide

/-- A DWELL append of length 0 is refused, a PLAY append of a FREE clip is refused CLIP_STATE, a LOOP_CLOSE with no open loop
UNBALANCED; a PLAY append takes a reference (R55, R36). -/
theorem test_append_entry :
    reply (after (exec (.appendEntry 1 (.dwell 9 0 0)) base)) = [3]
    ∧ reply (after (exec (.appendEntry 1 (.play 9 0 0 0 1 0 0)) base)) = [0x0E]
    ∧ reply (after (exec (.appendEntry 1 (.loopClose 9)) base)) = [0x0C]
    ∧ (let t := after (exec (.appendEntry 1 (.play 9 0 9 7 65535 1 2)) (withClip .loading 0))
       (reply t, (t.clip 0).refs, t.sq.entries)) = ([0, 0], 1,
        [{ tag := 9, body := .play { clip := 0, window := some (1, 2), passes := 65535, gainSet := 7, skip := true,
                                     notify := false, captureAtStart := false } Runtime.fresh }]) := by decide

/-- The worked edit ahead of the cursor, on the entry the model's rig plays: gain set 2 and notify replaced together. -/
theorem test_modify_entry :
    (let t := after (exec (.modifyEntry 1 5 [{ field := 2, value := 2 }, { field := 4, value := 0 }]) (rig .running 0 0))
     (reply t, (t.sq.entries.head?.map (·.body))))
      = ([0], some (.play { playFields with gainSet := 2, notify := false } { Runtime.fresh with visits := 1 }))
    ∧ reply (after (exec (.modifyEntry 1 5 []) (rig .running 0 0))) = [3]
    ∧ reply (after (exec (.modifyEntry 1 99 [{ field := 1, value := 1 }]) (rig .running 0 0))) = [7] := by decide

/-- Setting skip on a DWELL the context holds is a cut; on an entry that holds an interrupted visit no context holds, it records
the cut in the entry (R67). -/
theorem test_modify_skip :
    (let s : State := { rig .running 0 0 with
       sq := { SegmentQueue.reset with entries := [dwellEntry 6] }
       pe := { (rig .running 0 0).pe with ctx := some { playCtx 0 0 with tag := 6, body := .dwell 1 } } }
     (after (exec (.modifyEntry 1 6 [{ field := 3, value := 1 }]) s)).pe.ctx.map (·.cut)) = some true
    ∧ (let s : State := { inState base .idle none with sq := { SegmentQueue.reset with entries :=
         [{ tag := 5, body := .play playFields { Runtime.fresh with visits := 1, interrupted := some 1 } }] } }
       (after (exec (.modifyEntry 1 5 [{ field := 3, value := 1 }]) s)).sq.entries)
      = [{ tag := 5, body := .play { playFields with skip := true } { Runtime.fresh with visits := 1, cutSeen := true } }] := by
  decide

/-- An Advance Watch is armed while the engine plays and fires at once in IDLE (R71). -/
theorem test_advance_watch :
    (let t := after (exec (.advanceWatch 1) (rig .running 0 0)); (reply t, t.sq.watch)) = ([0, 0], true)
    ∧ (let t := after (exec (.advanceWatch 1) base); (reply t, (t.cause .advance).count)) = ([0, 1], 1) := by decide

/-- A Read Queue reply of one DWELL entry: 7 fixed bytes with the status, position, the entry's 8 bytes, 24 runtime bytes. -/
theorem test_read_queue_width :
    (reply (after (exec (.readQueue 1 1 1) (rig .running 0 0)))).length = 7 + 1 + 8 + 24
    ∧ (reply (after (exec (.readDone 1 0) base))) = [0, 0, 0, 0, 0, 0, 0, 0, 0, 0, 0] := by decide

theorem witness_AppendEntryResult :
    ((withClip .loading 0).repliesHeld < 2 ∧ (withClip .loading 0).sq.entries.length < 64
      ∧ (∀ e ∈ (withClip .loading 0).sq.entries, e.tag ≠ 9))
    ∧ (0 < 64 ∧ 15 < 16 ∧ 7 < 8 ∧ 1 ≤ 65535 ∧ 65535 ≤ 65535 ∧ ((withClip .loading 0).clip 0).load = some smallLoad
      ∧ ((withClip .loading 0).clip 0).state ≠ .free ∧ ((withClip .loading 0).clip 0).state ≠ .failed
      ∧ (Nat.testBit 15 3 = true → 1 ≤ 2 ∧ 1 + 2 ≤ smallLoad.length))
    ∧ (3 < 4 ∧ 1 ≤ 16777215 ∧ 16777215 ≤ 16777215) ∧ 65535 ≤ 65535 := by decide

/-- The rig with tag 5 held, and with nothing held; its DWELL, tag 6, in both cases; each with skip set and with an interrupted
visit; a LOOP_OPEN and a LOOP_CLOSE; values at the ends of their ranges. -/
theorem witness_ModifyEntryResult :
    (let s := rig .running 0 0
     s.repliesHeld < 2 ∧ findTag s.sq.entries 5 = some 0 ∧ s.sq.entries[0]? = some (playEntry 2 1)
      ∧ playEntry 2 1 = { tag := 5, body := .play playFields { Runtime.fresh with visits := 1 } } ∧ playFields.skip = false
      ∧ s.pe.ctx = some (playCtx 0 0) ∧ (playCtx 0 0).tag = 5 ∧ findTag s.sq.entries 6 = some 1
      ∧ s.sq.entries[1]? = some (dwellEntry 6) ∧ (playCtx 0 0).tag ≠ 6 ∧ findTag s.sq.entries 99 = none
      ∧ (∀ c ∈ [({ field := 3, value := 1 } : FieldChange)], c.field = 3 ∨ c.field = 4 ∨ c.field = 5 → c.value ≤ 1)
      ∧ (∃ c ∈ [({ field := 4, value := 2 } : FieldChange)], (c.field = 3 ∨ c.field = 4 ∨ c.field = 5) ∧ 1 < c.value))
    ∧ (let s := inState (rig .idle 0 0) .idle none
       let skipped (r : Runtime) : Entry := { tag := 5, body := .play { playFields with skip := true } r }
       let held : State := { s with
         sq := { s.sq with entries := [dwellEntry 6] }
         pe := { s.pe with state := .running, ctx := some { playCtx 0 0 with tag := 6, body := .dwell 1 } } }
       (∀ c, s.pe.ctx = some c → c.tag ≠ 5) ∧ held.pe.ctx.map (·.tag) = some 6 ∧ findTag held.sq.entries 6 = some 0
        ∧ findTag [skipped { Runtime.fresh with interrupted := some 1 }] 5 = some 0)
    ∧ (let entries : List Entry := [{ tag := 5, body := .loopOpen 2 }, { tag := 6, body := .loopClose }]
       findTag entries 5 = some 0 ∧ findTag entries 6 = some 1 ∧ entries[1]? = some { tag := 6, body := .loopClose })
    ∧ (1 ≤ 65535 ∧ 65535 ≤ 65535 ∧ 7 < 8 ∧ 1 ≤ 16777215 ∧ 16777215 ≤ 16777215 ∧ 65535 < 65536 ∧ 6 ∉ [1, 2, 3, 4, 5]
      ∧ 5 ∉ [3, 4, 6]) := by
  refine ⟨by decide, ⟨?_, by decide, by decide, by decide⟩, by decide, by decide⟩
  intro c h
  exact absurd h (by simp [inState])

/-- A ring of 32 records, the last before the wrap. -/
def fullRing : State :=
  { base with sq := { base.sq with
      entries := [playEntry 2 0, { tag := 1, body := .loopOpen 0 }, dwellEntry 6], nextSeq := 4294967295,
      doneRing := (List.range' 4294967263 32).map fun n =>
        { sequence := n, tag := 1, kind := .dwell, status := .skipped, visits := 0, passes := 0, firstStamp := none,
          lastStamp := none, stats := none } } }

/-- A Flush Queue in IDLE makes a record of each entry but the markers (R69), with status FLUSHED and the next sequence numbers,
which wrap; of a full ring the newest 32 stay (R60), and the PLAY's notify raises SEGMENT (R58). -/
theorem test_flush_queue :
    (let t := after (exec (.flushQueue 1) fullRing)
     reply t = [0, 2] ∧ t.sq.entries = [] ∧ t.sq.doneRing.length = 32
      ∧ (t.sq.doneRing.drop 29).map (fun r => (r.sequence, r.tag, r.status))
        = [(4294967294, 1, .skipped), (4294967295, 5, .flushed), (0, 6, .flushed)]
      ∧ t.cause .segment = { count := 1, enable := false, detail := some (.segment 4294967295) }) := by decide +kernel

theorem witness_FlushAndWatchResult :
    (fullRing.repliesHeld < 2 ∧ fullRing.pe.state = .idle ∧ fullRing.sq.nextSeq < 4294967296
      ∧ fullRing.sq.doneRing.length ≤ 32)
    ∧ ((rig .rampIn 0 0).repliesHeld < 2 ∧ (rig .rampIn 0 0).pe.state ≠ .idle ∧ (rig .rampIn 0 0).pe.state = .rampIn)
    ∧ ((rig .paused 0 0).repliesHeld < 2 ∧ (rig .paused 0 0).pe.state = .paused) := by decide

/-- A committed capture of sequence 7: two records of channel 2. -/
def captured : State :=
  { base with rcu := { CaptureUnit.reset with
      bank1 := { role := .committed, words := [1500, -2] }, sequence := 7,
      committed := some
        { sequence := some 7, kind := .request, unit := none, stamp := some 3, position := none, chans := [2],
          withCommand := false, decimation := 1, records := 2, taken := 2, missed := false,
          figures := [{ span := some (-2, 1500), absentCount := 0 }] } } }

theorem witness_ReadRequestsChangeNothing :
    captured.repliesHeld < 2 ∧ 63 < 64 ∧ 2047 < 2048 ∧ (63 < 64 ∧ 1 < 2) ∧ 7 < 8 ∧ 15 < 16
    ∧ (∃ h, captured.rcu.committed = some h ∧ h.sequence = some 7 ∧ 1 ≤ 2 ∧ 2 ≤ 500
      ∧ 0 + 2 ≤ h.records * h.chans.length * (if h.withCommand then 2 else 1)) :=
  ⟨by decide, by decide, by decide, by decide, by decide, by decide, _, rfl, by decide⟩

/-! ### Playback Engine (chapter 4) -/

/-- The worked ramps: steps 656 and 21846; the last steps of both. -/
theorem test_ramp_steps :
    rampStepOf 100 = 656 ∧ rampStepOf 3 = 21846 ∧ rampStepOf 2048 = 32 ∧ rampUp 64944 100 = 65536 ∧ rampDown 65536 3 = 43690
    ∧ rampDown 21844 3 = 0 := by decide

/-- A Start in IDLE with an empty queue is refused QUEUE_EMPTY, with Rig Ready deasserted NOT_READY (R81). -/
theorem test_start_refused :
    reply (after (exec (.start 1) base)) = [0x11]
    ∧ reply (after (exec (.start 1) { base with cpc := { base.cpc with rigReady := false } })) = [0x0A] := by decide

/-- A Start on the rig's queue: RAMP_IN at tag 5, pass 1, a second visit, and the context's clip reference (R78, R81). -/
theorem test_start :
    (let t := after (exec (.start 1) (inState (rig .idle 0 0) .idle none))
     (reply t, t.pe.state, (t.clip 0).refs, (t.cause .engine).detail))
      = ([0, 0, 5, 0, 0, 0, 1], .rampIn, 3, some (.engine .idle .rampIn none)) := by decide

/-- Pause and Stop in RUNNING ramp out, toward PAUSED and IDLE; a Resume in RAMP_OUT toward PAUSED returns to RAMP_IN at
the λ it has (R74, R82 to R84). -/
theorem test_pause_stop_resume :
    (let t := after (exec (.pause 1) (rig .running 0 0)); (reply t, t.pe.target, t.pe.stopCause, t.pe.lam))
      = ([0, 3], some .paused, some .hostPause, 65536)
    ∧ (let t := after (exec (.stop 1) (rig .running 0 0)); (t.pe.target, t.pe.stopCause)) = (some .idle, some .hostStop)
    ∧ (let s := rig .rampOut 0 0
       let t := after (exec (.resume 1) { s with pe := { s.pe with lam := 19840 } }); (t.pe.state, t.pe.lam))
        = (.rampIn, 19840) := by decide

/-- The worked pause, stop and reinstatement: the Stop in PAUSED interrupts the visit, which counts nothing for the pass it
was in; the entry's last-update stamp is the context's. -/
theorem test_stop_in_paused :
    (let t := after (exec (.stop 1) (rig .paused 3 1))
     (t.pe.state, t.pe.ctx, (t.clip 0).refs, t.sq.entries.head?.bind (fun e => e.runtime.map fun r => (r.interrupted, r.lastStamp))))
      = (.idle, none, 1, some (some 1, some 12)) := by decide

/-- Clear Trip in TRIPPED enters RETURN and drops the context; it is refused with Rig Ready deasserted (R96). -/
theorem test_clear_trip :
    (let t := after (exec (.clearTrip 1) (rig .tripped 0 0)); (reply t, t.pe.state, t.pe.ctx)) = ([0], .returning, none)
    ∧ reply (after (exec (.clearTrip 1) { rig .tripped 0 0 with cpc := PortUnit.reset })) = [0x0A] := by decide

/-- Set Ramp refuses a 0 (R76); Set Timebase refuses a rate that is none of the four, and any while a channel is ENGAGED
(R99). -/
theorem test_engine_settings :
    reply (after (exec (.setRamp 1 0 5) base)) = [3] ∧ reply (after (exec (.setTimebase 1 1000 0) base)) = [3]
    ∧ reply (after (exec (.setTimebase 1 512 0) (rig .idle 0 0))) = [4]
    ∧ (let t := after (exec (.setTimebase 1 4096 1) base); (reply t, t.pe.rate, t.pe.source)) = ([0], 4096, .externalSync) := by
  decide

/-- A Read Engine with a context in TRIPPED changes nothing but the line. -/
theorem test_read_engine :
    (reply (after (exec (.readEngine 1) (rig .tripped 0 0)))).head? = some 0
    ∧ (after (exec (.readEngine 1) (rig .tripped 0 0))).pe = (rig .tripped 0 0).pe := by decide

/-- A queue without loops, the engine idle, keeps the queue's laws. -/
theorem idle_rig_lawful : (inState (rig .idle 0 0) .idle none).ScheduleLawful :=
  ⟨by decide, by decide, by simp [inState, rig, SegmentQueue.reset], by simp [inState, rig, SegmentQueue.reset],
    by simp [inState], by simp [inState]⟩

theorem witness_StartResult :
    ((rig .running 0 0).repliesHeld < 2 ∧ (rig .running 0 0).pe.state ≠ .idle)
    ∧ (let s : State := { base with cpc := PortUnit.reset }; s.repliesHeld < 2 ∧ s.pe.state = .idle ∧ s.cpc.rigReady = false)
    ∧ (base.repliesHeld < 2 ∧ base.pe.state = .idle ∧ base.cpc.rigReady = true ∧ base.lookahead base.sq.cursor = none)
    ∧ (let s := inState { rig .idle 0 0 with cpc := base.cpc } .idle none
       s.repliesHeld < 2 ∧ s.pe.state = .idle ∧ s.cpc.rigReady = true ∧ s.lookahead s.sq.cursor = some (playEntry 2 1)
        ∧ s.startCheck (playEntry 2 1) = some .channelNotEngaged)
    ∧ (let s := inState (rig .idle 0 0) .idle none
       s.repliesHeld < 2 ∧ s.pe.state = .idle ∧ s.cpc.rigReady = true ∧ s.lookahead s.sq.cursor = some (playEntry 2 1)
        ∧ s.startCheck (playEntry 2 1) = none ∧ s.ScheduleLawful
        ∧ s.contextOf (playEntry 2 1) = some { playCtx 0 0 with firstUpdate := none, lastUpdate := none })
    ∧ (3 ≤ fullRing.sq.entries.length ∧ fullRing.sq.nextSeq < 4294967296 ∧ fullRing.sq.doneRing.length ≤ 32
        ∧ fullRing.advanceFrom 3 = (3, [])) :=
  ⟨by decide, by decide, by decide, by decide,
    ⟨by decide, by decide, by decide, by decide, by decide, idle_rig_lawful, by decide⟩, by decide⟩

theorem witness_StartDwellResult :
    (let s : State := { base with sq := { SegmentQueue.reset with entries := [dwellEntry 6] } }
     s.repliesHeld < 2 ∧ s.pe.state = .idle ∧ s.cpc.rigReady = true ∧ s.sq.entries = dwellEntry 6 :: [] ∧ s.sq.cursor = 0
      ∧ s.sq.stack = [] ∧ s.sq.watch = false ∧ (dwellEntry 6).playable = true
      ∧ (dwellEntry 6).runtime = some { Runtime.fresh with interrupted := none }) := by decide

theorem witness_PauseStopResumeResult :
    ([EngineState.rampIn, .running, .rampOut, .paused, .idle, .tripped, .returning].all fun e =>
      decide ((rig e 0 0).repliesHeld < 2) && (rig e 0 0).pe.state == e) = true
    ∧ (∀ ch ∈ (rig .paused 0 0).drivenChannels, ((rig .paused 0 0).port ch).state = .engaged)
    ∧ (∃ ch ∈ ({ rig .paused 0 0 with cpc := base.cpc } : State).drivenChannels,
        (({ rig .paused 0 0 with cpc := base.cpc } : State).port ch).state ≠ .engaged) := by decide

theorem witness_ReleasingRequestsResult :
    ((rig .paused 0 0).repliesHeld < 2 ∧ (rig .paused 0 0).pe.state = .paused ∧ (rig .paused 0 0).pe.ctx = some (playCtx 0 0)
      ∧ (rig .paused 0 0).cursorEntry = some (playEntry 2 1))
    ∧ ((rig .tripped 0 2).repliesHeld < 2 ∧ (rig .tripped 0 2).pe.state = .tripped ∧ (rig .tripped 0 2).cpc.rigReady = true
      ∧ (rig .tripped 0 2).pe.ctx = some (playCtx 0 2) ∧ (rig .tripped 0 2).cursorEntry = some (playEntry 2 1))
    ∧ (let s := inState (rig .tripped 0 0) .tripped none
       s.repliesHeld < 2 ∧ s.pe.state = .tripped ∧ s.cpc.rigReady = true ∧ s.pe.ctx = none)
    ∧ ({ rig .tripped 0 0 with cpc := PortUnit.reset } : State).cpc.rigReady = false
    ∧ (base.repliesHeld < 2 ∧ base.pe.state ≠ .tripped) := by decide

theorem witness_EngineSettingsResult :
    base.repliesHeld < 2 ∧ (1 ≤ 1 ∧ 1 ≤ 65535) ∧ (0 = 0 ∨ 5 = 0) ∧ (4096 = 512 ∨ 4096 = 1024 ∨ 4096 = 2048 ∨ 4096 = 4096)
    ∧ (∀ ch, ch < 16 → (base.port ch).state ≠ .engaged) ∧ ¬ (513 = 512 ∨ 513 = 1024 ∨ 513 = 2048 ∨ 513 = 4096) ∧ 1 < 2
    ∧ ((rig .running 0 0).repliesHeld < 2 ∧ 2 < 16 ∧ ((rig .running 0 0).port 2).state = .engaged) := by decide

/-- λ one quantum from its end in each direction, Ri = Ro = 2048, step 32; a pass of six updates at its last, u 5. -/
theorem witness_RampEventsResult :
    (let s : State := { rig .rampIn 0 0 with pe := { (rig .rampIn 0 0).pe with lam := 65504 } }
     s.pe.state = .rampIn ∧ 65536 ≤ s.pe.lam + (65536 + (s.pe.ri - 1)) / s.pe.ri)
    ∧ (let s : State := { rig .rampOut 5 0 with pe := { (rig .rampOut 5 0).pe with lam := 32 } }
       s.pe.state = .rampOut ∧ s.pe.lam ≤ (65536 + (s.pe.ro - 1)) / s.pe.ro ∧ s.sq.watch = false ∧ s.pe.target = some .paused
        ∧ s.pe.ctx = some (playCtx 5 0) ∧ (playCtx 5 0).body = .play (playPart 5)
        ∧ (playPart 5).count * (playPart 5).upsample ≤ (playPart 5).u + 1)
    ∧ (let s : State := { base with pe := { base.pe with state := .rampOut, lam := 32, target := some .idle } }
       s.pe.state = .rampOut ∧ s.pe.lam ≤ (65536 + (s.pe.ro - 1)) / s.pe.ro ∧ s.sq.watch = false ∧ s.pe.target = some .idle
        ∧ s.pe.ctx = none)
    ∧ (let s : State := { rig .rampOut 5 2 with pe := { (rig .rampOut 5 2).pe with lam := 32, target := some .idle } }
       s.pe.state = .rampOut ∧ s.pe.lam ≤ (65536 + (s.pe.ro - 1)) / s.pe.ro ∧ s.pe.target = some .idle
        ∧ s.pe.ctx = some (playCtx 5 2) ∧ s.cursorEntry = some (playEntry 2 1))
    ∧ (let s : State := { rig .rampOut 5 0 with
         pe := { (rig .rampOut 5 0).pe with lam := 32 }, sq := { (rig .rampOut 5 0).sq with watch := true } }
       s.sq.watch = true ∧ s.pe.target = some .paused ∧ s.pe.lam ≤ (65536 + (s.pe.ro - 1)) / s.pe.ro)
    ∧ (let s : State := { base with
         pe := { base.pe with state := .rampOut, lam := 32, target := some .idle }, sq := { base.sq with watch := true } }
       s.sq.watch = true ∧ s.pe.target = some .idle ∧ s.pe.ctx = none)
    ∧ (let s : State := { rig .rampOut 0 0 with
         pe := { (rig .rampOut 0 0).pe with ctx := some { playCtx 0 0 with tag := 6, body := .dwell 2 } }
         sq := { SegmentQueue.reset with entries := [dwellEntry 6] } }
       s.pe.state = .rampOut ∧ s.pe.ctx = some { playCtx 0 0 with tag := 6, body := .dwell 2 }
        ∧ s.cursorEntry = some { tag := 6, body := .dwell { length := 3, skip := false, notify := false } Runtime.fresh }
        ∧ 3 ≤ 2 + 1) := by decide

/-- The queue with a pass of its first entry counted. -/
def countedQueue (q : SegmentQueue) : SegmentQueue :=
  { q with entries := q.entries.modify q.cursor fun _ =>
      { tag := 5, body := .play { playFields with passes := 2 } { Runtime.fresh with visits := 1, passes := 1 } } }

/-- The rig in RUNNING keeps the queue's laws. -/
theorem running_rig_lawful : (rig .running 5 1).ScheduleLawful :=
  ⟨by decide, by decide, by simp [rig, SegmentQueue.reset], by simp [rig, SegmentQueue.reset],
    by intro c h; obtain rfl : playCtx 5 1 = c := Option.some.inj h; exact ⟨playEntry 2 1, rfl, rfl⟩, by simp [rig]⟩

/-- A pass of six updates at its last, u 5, of an entry of two passes: the first of them; the same with a write pending and the
watch armed; the second at the tail; the second before a DWELL, and before a PLAY whose channels are not ENGAGED; an overrun
pass. -/
theorem witness_PassEndResult :
    (let s := rig .running 5 0
     s.pe.state = .running ∧ s.pe.ctx = some (playCtx 5 0) ∧ (playCtx 5 0).body = .play (playPart 5)
      ∧ (playPart 5).count * (playPart 5).upsample ≤ (playPart 5).u + 1
      ∧ s.cursorEntry = some { tag := 5, body := .play { playFields with passes := 2 } { Runtime.fresh with visits := 1 } }
      ∧ (playCtx 5 0).overrun = false ∧ (playCtx 5 0).cut = false ∧ 0 + 1 < 2 ∧ (s.gainSet 0).flag = false
      ∧ s.sq.watch = false
      ∧ (countedQueue s.sq).entries
        = [{ tag := 5, body := .play { playFields with passes := 2 } { Runtime.fresh with visits := 1, passes := 1 } },
           dwellEntry 6])
    ∧ (let g : GainSet := { active := Vector.replicate 16 1, pending := Vector.replicate 16 2, flag := true }
       let s := ({ rig .rampIn 5 0 with sq := { (rig .rampIn 5 0).sq with watch := true } } : State).setGainSet 0 g
       s.pe.state = .rampIn ∧ s.pe.ctx = some (playCtx 5 0) ∧ (s.gainSet playFields.gainSet).flag = true ∧ s.sq.watch = true)
    ∧ (let s : State := { rig .running 5 1 with sq := { SegmentQueue.reset with entries := [playEntry 2 1] } }
       s.pe.state = .running ∧ s.pe.ctx = some (playCtx 5 1) ∧ (playCtx 5 1).overrun = false ∧ 2 ≤ (playCtx 5 1).counted + 1
        ∧ s.lookahead (s.sq.cursor + 1) = none
        ∧ s.cursorEntry = some { tag := 5, body := .play { playFields with passes := 2 } { Runtime.fresh with visits := 1 } })
    ∧ (let s : State := { rig .running 5 1 with
         cpc := base.cpc, sq := { SegmentQueue.reset with entries := [playEntry 2 1, { playEntry 1 0 with tag := 9 }] } }
       s.lookahead (s.sq.cursor + 1) = some { playEntry 1 0 with tag := 9 }
        ∧ s.startCheck { playEntry 1 0 with tag := 9 } = some .channelNotEngaged)
    ∧ (let s := rig .running 5 1
       s.ScheduleLawful ∧ s.startCheck (dwellEntry 6) = none ∧ (s.contextOf (dwellEntry 6)).isSome = true
        ∧ (let ended := State.queueEnded { s with sq := countedQueue s.sq } { playCtx 5 1 with counted := 2 } 2
           let q := (State.realRun { s with sq := ended } (s.sq.cursor + 1)).sq
           q.entries[q.cursor]? = some (dwellEntry 6)))
    ∧ ({ playCtx 5 1 with overrun := true } : Context).overrun = true :=
  ⟨by decide, by decide, by decide, by decide, ⟨running_rig_lawful, by decide, by decide, by decide⟩, by decide⟩

/-- The worked end of queue: the pass end of the last pass starts an overrun pass of a ramp-out toward IDLE with
QUEUE_EMPTY. -/
theorem test_pass_end_at_tail :
    (let t := after (exec .passEnd { rig .running 5 1 with sq := { SegmentQueue.reset with entries := [playEntry 2 1] } })
     (t.pe.state, t.pe.target, t.pe.stopCause, t.pe.ctx.map (fun c => (c.counted, c.overrun, c.elapsed))))
      = (.rampOut, some .idle, some .queueEmpty, some (2, true, 0)) := by decide

/-- A pass end at which the visit goes on: passes counted 1, u 0; and one in RAMP_OUT, which counts nothing and repeats the
pass (R88, R89). -/
theorem test_pass_ends :
    (after (exec .passEnd (rig .running 5 0))).pe.ctx.map (fun c => (c.counted, c.overrun, c.elapsed)) = some (1, false, 0)
    ∧ (after (exec .passEndInRampOut (rig .rampOut 5 0))).pe.ctx.map (fun c => (c.counted, c.overrun, c.elapsed))
      = some (0, false, 0)
    ∧ (after (exec .passEnd (rig .running 4 0))) = rig .running 4 0 := by decide

/-- RAMP_IN and RAMP_OUT end at their last steps, and not before (R75, R89). -/
theorem test_ramp_events :
    (let s (l : Nat) : State := { rig .rampIn 0 0 with pe := { (rig .rampIn 0 0).pe with lam := l } }
     ((after (exec .rampInComplete (s 65504))).pe.state, (after (exec .rampInComplete (s 65503))).pe.state)) = (.running, .rampIn)
    ∧ (let s (l : Nat) : State := { rig .rampOut 0 0 with pe := { (rig .rampOut 0 0).pe with lam := l } }
     ((after (exec .rampOutComplete (s 32))).pe.state, (after (exec .rampOutComplete (s 33))).pe.state)) = (.paused, .rampOut) := by
  decide

/-! ### Channel Port Controller (chapter 5) -/

/-- `base` with channel 7 in a port state, under offset 500 and slew limit 50. -/
def bringUp (st : PortState) : State :=
  (base.setPort 7 (livePort st)).setDrive 7 { DriveRecord.reset with offset := 500, slew := 50 }

/-- The worked bring-up: Power On, the response to the second record, Engage at setpoint 412. -/
theorem test_bring_up :
    (let t := after (exec (.channelPowerOn 1 7) base); (reply t, (t.port 7).linkCount, (t.port 7).enable)) = ([0, 1], some 0, true)
    ∧ (let t := after (exec (.servoResponse 7 true 12 409 412 .ok) (bringUp .linking))
       ((t.port 7).state, (t.port 7).changed, (t.port 7).setpoint, (t.cause .channel).count)) = (.standby, true, some 412, 1)
    ∧ (let t := after (exec (.engage 1 7) (bringUp .standby))
       (reply t, (t.drive 7).lastOutput, (t.limits 7).history.toList)) = ([0, 0x01, 0x9C], 412, List.replicate 16 412) := by decide

/-- The worked bring-up's commands: from 412 the first update steps the slew limit to 462, the next reaches 500. -/
theorem test_bring_up_commands :
    ((after (exec (.update 1) ((bringUp .engaged).setDrive 7 { (bringUp .engaged).drive 7 with lastOutput := 412 }))).drive 7).lastOutput
      = 462
    ∧ ((after (exec (.update 1) ((bringUp .engaged).setDrive 7 { (bringUp .engaged).drive 7 with lastOutput := 462 }))).drive 7).lastOutput
      = 500 := by decide

/-- The worked link loss: the third window that closes unanswered faults the channel and trips the engine that needs it; the
last feedback stays for reading (R115, R117). -/
theorem test_link_loss :
    (let s := rig .running 0 0
     let t := after (exec (.update 1) (s.setPort 3 { s.port 3 with missCount := 2 }))
     t.port 3 = { livePort .engaged with
        state := .fault, faultCause := some .linkLost, missCount := 3, setpoint := none, enable := false, window := none,
        changed := true }
      ∧ t.pe.state = .tripped ∧ t.pe.tripChannel = some 3 ∧ (t.cause .trip).count = 1) := by decide +kernel

/-- LINK_LOST and LINKING_TIMEOUT come at the third and at the 256th unanswered record, not before (R115, R116). -/
theorem test_link_faults :
    (let s (n : Nat) := base.setPort 4 { livePort .standby with missCount := n }
     (((after (exec (.linkLost 4) (s 2))).port 4).state, ((after (exec (.linkLost 4) (s 1))).port 4).state)) = (.fault, .standby)
    ∧ (let s (n : Nat) := base.setPort 4 { livePort .linking with linkCount := some n }
     (((after (exec (.linkingTimeout 4) (s 255))).port 4).faultCause, ((after (exec (.linkingTimeout 4) (s 254))).port 4).state))
      = (some .noLink, .linking) := by decide

/-- A Channel Power Off of a driven channel is refused IN_USE while the engine plays, taken in TRIPPED (R106). -/
theorem test_power_off :
    reply (after (exec (.channelPowerOff 1 2) (rig .running 0 0))) = [8]
    ∧ (let t := after (exec (.channelPowerOff 1 2) (rig .tripped 0 0)); (reply t, (t.port 2).state, (t.port 2).enable))
      = ([0, 0], .off, false) := by decide

/-- The worked handover's ports: 0 to 5 ENGAGED but 2, which its owner change made STANDBY; 6 STANDBY; the rest OFF. -/
def handover : State :=
  inState { base with cpc := { base.cpc with
    rigMode := .replay,
    ports := #v[livePort .engaged, livePort .engaged, { livePort .standby with owner := .local }, livePort .engaged,
      livePort .engaged, livePort .engaged, livePort .standby, { Port.reset with owner := .replay },
      { Port.reset with owner := .replay }, { Port.reset with owner := .replay }, { Port.reset with owner := .replay },
      { Port.reset with owner := .replay }, { Port.reset with owner := .replay }, { Port.reset with owner := .replay },
      { Port.reset with owner := .replay }, { Port.reset with owner := .replay }] } } .tripped none

/-- The worked handover: Set Rig Mode LOCAL raises CHANNEL fifteen times, leaves channel 2's flag clear and no channel
ENGAGED; Set Rig Mode REPLAY afterwards sets sixteen flags. -/
theorem test_rig_mode :
    (let t := after (exec (.setRigModeLocal 1) handover)
     ((t.cause .channel).count, t.changedMask, (t.port 0).state, (t.port 2).changed)) = (15, 65531, .standby, false)
    ∧ (after (exec (.setRigModeReplay 1) base)).changedMask = 65535 := by decide +kernel

/-- Set Channel Owner LOCAL in TRIPPED moves an ENGAGED channel to STANDBY without a flag; with rig mode LOCAL an owner
REPLAY is refused (R109). -/
theorem test_channel_owner :
    (let t := after (exec (.setChannelOwner 1 4 0) handover); (reply t, (t.port 4).state, (t.port 4).changed))
      = ([0, 0, 2], .standby, false)
    ∧ reply (after (exec (.setChannelOwner 1 4 1) base)) = [4] := by decide

/-- Release of a driven channel is refused IN_USE, of another ENGAGED one taken (R112); Engage in TRIPPED is refused
WRONG_STATE (R111). -/
theorem test_release_and_engage :
    reply (after (exec (.release 1 2) (rig .running 0 0))) = [8]
    ∧ (after (exec (.release 1 7) (bringUp .engaged))).port 7 = { livePort .engaged with state := .standby }
    ∧ reply (after (exec (.engage 1 6) handover)) = [4] := by decide

/-- Acknowledge Channels clears the flags of its set alone and replies the set still flagged (R119). -/
theorem test_acknowledge :
    (let s := (base.setPort 3 { Port.reset with changed := true }).setPort 9 { Port.reset with changed := true }
     let t := after (exec (.acknowledgeChannels 1 0x0208) s)
     let t' := after (exec (.acknowledgeChannels 1 0x0008) s)
     (reply t, reply t', (t'.port 3).changed, (t'.port 9).changed)) = ([0, 0, 0], [0, 2, 0], false, true) := by decide

/-- A Read Channel of a channel above 15 is refused; of channel 7 it changes nothing but the line. -/
theorem test_read_channel :
    reply (after (exec (.readChannel 1 16) base)) = [3]
    ∧ (after (exec (.readChannel 1 7) (bringUp .engaged))).cpc = (bringUp .engaged).cpc := by decide

/-- Rig Ready lost in RUNNING trips the engine with RIG_READY_LOST; its return changes the level alone (R120). -/
theorem test_rig_ready :
    (let t := after (exec .rigReadyDeasserted (rig .running 0 0)); (t.pe.state, t.pe.tripCause, t.pe.lam, t.cpc.rigReady))
      = (.tripped, some .rigReadyLost, 0, false)
    ∧ (after (exec .rigReadyReasserted State.reset)).cpc.rigReady = true := by decide

theorem witness_PowerResult :
    (base.repliesHeld < 2 ∧ 15 < 16 ∧ (base.port 15).state = .off)
    ∧ (let s := base.setPort 7 { Port.reset with state := .fault }; s.repliesHeld < 2 ∧ (s.port 7).state = .fault)
    ∧ ((bringUp .standby).repliesHeld < 2 ∧ ((bringUp .standby).port 7).state ≠ .off ∧ ((bringUp .standby).port 7).state ≠ .fault)
    ∧ (((bringUp .engaged).port 7).state ≠ .off ∧ 7 ∉ (bringUp .engaged).drivenChannels)
    ∧ ((rig .paused 0 0).repliesHeld < 2 ∧ ((rig .paused 0 0).port 2).state = .engaged ∧ 2 ∈ (rig .paused 0 0).drivenChannels
      ∧ (rig .paused 0 0).pe.state = .paused) := by decide

theorem witness_RigModeResult :
    (base.repliesHeld < 2 ∧ base.pe.state = .idle) ∧ (handover.repliesHeld < 2 ∧ handover.pe.state = .tripped)
    ∧ ((rig .running 0 0).repliesHeld < 2 ∧ (rig .running 0 0).pe.state ≠ .idle ∧ (rig .running 0 0).pe.state ≠ .tripped) := by
  decide

theorem witness_OwnerEngageReleaseResult :
    (handover.repliesHeld < 2 ∧ 15 < 16 ∧ handover.cpc.rigMode = .replay) ∧ (base.repliesHeld < 2 ∧ base.cpc.rigMode = .local)
    ∧ (4 ∉ handover.drivenChannels ∧ (handover.port 4).state = .engaged)
    ∧ ((bringUp .standby).repliesHeld < 2 ∧ ((bringUp .standby).port 7).state = .standby ∧ (bringUp .standby).pe.state ≠ .tripped
      ∧ ((bringUp .standby).port 7).owner = .replay ∧ (bringUp .standby).cpc.rigReady = true
      ∧ ((bringUp .standby).port 7).setpoint = some 412)
    ∧ ((bringUp .standby).port 7).state ≠ .engaged := by decide

theorem witness_AcknowledgeChannelsResult : base.repliesHeld < 2 := by decide

theorem witness_ServoResponseResult :
    (7 < 16 ∧ (base.port 7).window = none ∧ (base.port 7).state = .off)
    ∧ (((bringUp .standby).port 7).window
        = some { stamp := 12, exchange := 12, engaged := false, command := 0, answered := false }
      ∧ ((bringUp .standby).port 7).state = .standby ∧ (bringUp .standby).pe.state = .idle)
    ∧ (((bringUp .linking).port 7).window
        = some { stamp := 12, exchange := 12, engaged := false, command := 0, answered := false }
      ∧ ((bringUp .linking).port 7).state = .linking ∧ 7 ∉ (bringUp .linking).drivenChannels)
    ∧ (((bringUp .engaged).port 7).window
        = some { stamp := 12, exchange := 12, engaged := true, command := 0, answered := false }
      ∧ ((bringUp .engaged).port 7).state = .engaged ∧ (bringUp .engaged).pe.state ≠ .paused
      ∧ 7 ∉ (bringUp .engaged).drivenChannels
      ∧ (inState (bringUp .engaged) .returning none).pe.state = .returning)
    ∧ (let s := rig .running 0 0
       (s.port 2).window = some { stamp := 12, exchange := 12, engaged := true, command := 0, answered := false }
        ∧ (s.port 2).state = .engaged ∧ s.pe.state = .running ∧ s.pe.ctx = some (playCtx 0 0)
        ∧ (playCtx 0 0).body = .play (playPart 0) ∧ 2 ∈ (playPart 0).chans ∧ 2 ∈ s.drivenChannels) := by decide

theorem witness_LinkFaultsResult :
    (let s := base.setPort 4 { livePort .standby with missCount := 2 }
     (s.port 4).window = some { stamp := 12, exchange := 12, engaged := false, command := 0, answered := false }
      ∧ (s.port 4).state = .standby ∧ (s.port 4).missCount = 2 ∧ 4 ∉ s.drivenChannels ∧ s.pe.state ≠ .returning)
    ∧ (let s := base.setPort 4 { livePort .linking with linkCount := some 255 }
     (s.port 4).window = some { stamp := 12, exchange := 12, engaged := false, command := 0, answered := false }
      ∧ (s.port 4).state = .linking ∧ (s.port 4).linkCount = some 255 ∧ 4 ∉ s.drivenChannels)
    ∧ (let s := (rig .running 0 0).setPort 3 { livePort .engaged with missCount := 2 }
       (s.port 3).window = some { stamp := 12, exchange := 12, engaged := true, command := 0, answered := false }
        ∧ (s.port 3).state = .engaged ∧ (s.port 3).missCount = 2 ∧ s.pe.state = .running ∧ 3 ∈ s.drivenChannels) := by decide

theorem witness_RigReadyResult : (rig .running 0 0).pe.state ≠ .tripped ∧ (rig .tripped 0 0).pe.state = .tripped := by decide

/-! ### Limit Monitor (chapter 6) -/

/-- The worked envelope excursion: the responses that were evaluated, in order, persistence 3, band −6000 to 6000. -/
theorem test_envelope_excursion :
    (let c : LimitConfig := { LimitConfig.reset with fMin := -6000, fMax := 6000, envPersist := 3 }
     let run := [5900, 6040, 6100, 5990, 6010, 6050, 6080, 6200, 5800].scanl
       (fun (d : Detector) (f : Int) => d.evaluate c.envPersist (envelopeOver c f)) Detector.cleared
     run.tail.map fun d => (d.state, d.count))
      = [(.clear, 0), (.counting, 1), (.counting, 2), (.clear, 0), (.counting, 1), (.counting, 2), (.triggered, 3), (.triggered, 3),
         (.clear, 0)] := by decide

/-- The worked tracking excursion: with D 2 the error is taken against the command three places older than the newest. -/
theorem test_tracking_errors :
    (let h (newest : Int) : Vector Int 16 := Vector.ofFn fun i => newest - 100 * i.val
     let l (newest : Int) : ChannelLimits :=
       { ChannelLimits.reset with config := { LimitConfig.reset with delay := 2 }, history := h newest }
     [trackingError (l 1300) 1050, trackingError (l 1400) 1420, trackingError (l 1500) 1560, trackingError (l 1600) 1650])
      = [50, 320, 360, 350] := by decide

/-- The worked clamp rate: Kc 3, the third clamped update triggers, the fourth is counted on; a history takes its newest
command first (R127, R129). -/
theorem test_clamp_rate :
    (let d1 := Detector.cleared.countClamp 3
     let d2 := d1.countClamp 3
     let d3 := d2.countClamp 3
     [d1, d2, d3, d3.countClamp 3].map fun d => (d.state, d.count))
      = [(.counting, 1), (.counting, 2), (.triggered, 3), (.triggered, 4)]
    ∧ (pushHistory (Vector.ofFn fun i => (i.val : Int)) 99).toList = [99, 0, 1, 2, 3, 4, 5, 6, 7, 8, 9, 10, 11, 12, 13, 14] := by
  decide

/-- The worked statistics across an interruption: the visit's figures added to the entry's, and a visit without a feedback. -/
theorem test_statistics_added :
    addStats (some [{ channel := 2, span := some (2100, -1800), clamped := 4, limited := 10 },
        { channel := 9, span := some (900, -950), clamped := 0, limited := 3 }])
      [{ channel := 2, span := some (2300, -1500), clamped := 1, limited := 7 },
        { channel := 9, span := some (880, -1010), clamped := 0, limited := 2 }]
      = some [{ channel := 2, span := some (2300, -1800), clamped := 5, limited := 17 },
        { channel := 9, span := some (900, -1010), clamped := 0, limited := 5 }]
    ∧ addStats (some [{ channel := 2, span := some (2300, -1800), clamped := 5, limited := 17 }])
      [{ channel := 2, span := none, clamped := 0, limited := 1 }]
      = some [{ channel := 2, span := some (2300, -1800), clamped := 5, limited := 18 }] := by decide

/-- The fields of a Configure Limits that enables ENVELOPE with persistence 1 and an action byte. -/
def limitFields (envAction : Nat) : LimitFields :=
  { fMin := -6000, fMax := 6000, eMax := 300, delay := 14, envPersist := 1, trkPersist := 255, kc := 3, envAction := envAction,
    envEnable := 1, trkAction := 1, trkEnable := 0, clampAction := 3, clampEnable := 1 }

/-- A Configure Limits with an action byte that has no meaning is refused; a lag of 15 as well (R134, R198). -/
theorem test_configure_limits :
    reply (after (exec (.configureLimits 1 4 (limitFields 4)) base)) = [3]
    ∧ reply (after (exec (.configureLimits 1 4 { limitFields 0 with delay := 15 }) base)) = [3]
    ∧ (let t := after (exec (.configureLimits 1 4 (limitFields 2)) base); (reply t, (t.limits 4).config.env))
      = ([0], { action := .stop, enable := true }) := by decide

/-- The rig with channel 2's ENVELOPE enabled, band −6000 to 6000, persistence 1, under an action. -/
def watched (a : Action) : State :=
  (rig .running 0 0).setLimits 2
    { ChannelLimits.reset with config :=
        { LimitConfig.reset with fMin := -6000, fMax := 6000, env := { action := a, enable := true } } }

/-- A feedback of 6001 fires ENVELOPE: LIMIT with the record's stamp, and the STOP ramps out with LIMIT_STOP; 6000 is
in-limit (R126, R131). -/
theorem test_detector_fire :
    (let t := after (exec (.detectorFire 2 .envelope 6001) (watched .stop))
     ((t.cause .limit).detail, t.pe.state, t.pe.stopCause, (t.pe.lastAction.map (·.applied))))
      = (some (.limit { channel := 2, detector := .envelope, action := .stop, stamp := 12, measured := 6001 }), .rampOut,
          some .limitStop, some true)
    ∧ (after (exec (.detectorFire 2 .envelope 6000) (watched .stop))) = watched .stop := by decide

/-- A response of an ENGAGED channel that the engine drives joins peak and valley of the visit statistics (R136). -/
theorem test_statistics_feedback :
    (let t := after (exec (.servoResponse 2 true 12 700 0 .ok) (rig .running 0 0))
     (t.port 2).feedback = some 700 ∧ (t.visitStat 2).map (·.span) = some (some (700, 700))
      ∧ (t.visitStat 3).map (·.span) = some none) := by decide

/-- The rig with channel 2's detectors enabled: TRACKING at its last evaluation but one of persistence 255, CLAMP_RATE one short
of Kc 65535, error limit 300, lag 14, every command of the history 0. -/
def counting (e : EngineState) : State :=
  (rig e 0 0).setLimits 2
    { ChannelLimits.reset with
      config :=
        { LimitConfig.reset with
          eMax := 300, delay := 14, trkPersist := 255, env := { action := .stop, enable := true },
          trk := { action := .pause, enable := true }, clamp := { action := .trip, enable := true } },
      trk := { state := .counting, count := 254 }, clamp := { state := .counting, count := 65534 } }

theorem witness_LimitMonitorResult :
    (base.repliesHeld < 2 ∧ (limitFields 0).fMin ≤ (limitFields 0).fMax ∧ (limitFields 0).delay ≤ 14
      ∧ 1 ≤ (limitFields 0).envPersist ∧ (limitFields 0).envPersist ≤ 255 ∧ 1 ≤ (limitFields 0).trkPersist
      ∧ (limitFields 0).trkPersist ≤ 255 ∧ 1 ≤ (limitFields 0).kc ∧ (limitFields 0).envAction = Action.note.code
      ∧ (limitFields 0).trkAction = Action.pause.code ∧ (limitFields 0).clampAction = Action.trip.code
      ∧ (limitFields 0).envEnable < 2 ∧ (limitFields 0).trkEnable < 2 ∧ (limitFields 0).clampEnable < 2)
    ∧ (((watched .note).port 2).state = .engaged
      ∧ ((watched .note).port 2).window = some { stamp := 12, exchange := 12, engaged := true, command := 0, answered := false }
      ∧ ((watched .note).limits 2).config.env = { action := .note, enable := true }
      ∧ ((watched .note).limits 2).config.envPersist = 1 ∧ ((watched .note).limits 2).env.state = .clear
      ∧ ((watched .note).limits 2).config.fMax < 6001 ∧ (-6001 : Int) < ((watched .note).limits 2).config.fMin)
    ∧ (((watched .stop).limits 2).config.env.enable = true ∧ ((watched .stop).limits 2).env.state = .clear
      ∧ ((watched .stop).limits 2).env.count = 0 ∧ ((watched .stop).limits 2).config.envPersist = 1)
    ∧ (let l := (counting .running).limits 2
       l.config.trk.enable = true ∧ l.trk.state = .counting ∧ l.config.trkPersist ≤ l.trk.count + 1
        ∧ 301 = (l.history[l.config.delay + 1]?.getD 0 - (-301 : Int)).natAbs ∧ l.config.eMax < 301
        ∧ l.config.clamp.enable = true ∧ l.clamp.state ≠ .triggered ∧ l.config.kc ≤ min 65535 (l.clamp.count + 1)
        ∧ 2 ∈ (counting .running).drivenChannels ∧ (counting .running).pe.state = .running)
    ∧ ((counting .paused).pe.state = .paused ∧ (counting .paused).pe.ctx = some (playCtx 0 0)
      ∧ (counting .paused).cursorEntry = some (playEntry 2 1))
    ∧ ((counting .rampOut).pe.state = .rampOut ∧ (counting .rampOut).pe.target = some .paused)
    ∧ (counting .tripped).pe.state = .tripped := by decide

/-- TRACKING and CLAMP_RATE fire at the evaluation that reaches the persistence: a PAUSE ramps out with LIMIT_PAUSE, a TRIP enters
TRIPPED; in PAUSED no update is dynamic and CLAMP_RATE does not move (R128, R129, R131). -/
theorem test_tracking_and_clamp_rate_fire :
    (let t := after (exec (.detectorFire 2 .tracking (-301)) (counting .running))
     ((t.cause .limit).detail, t.pe.state, t.pe.stopCause))
      = (some (.limit { channel := 2, detector := .tracking, action := .pause, stamp := 12, measured := 301 }), .rampOut,
          some .limitPause)
    ∧ (let t := after (exec (.detectorFire 2 .clampRate 0) (counting .running)); (t.pe.state, t.pe.tripCause, t.pe.tripChannel))
      = (.tripped, some .limitTrip, none)
    ∧ after (exec (.detectorFire 2 .clampRate 0) (counting .paused)) = counting .paused := by decide

theorem witness_PersistenceLaw : (1 ≤ 3 ∧ 1 ≤ 2 ∧ 2 < 3) ∧ (1 ≤ 3 ∧ 3 ≤ 3) := by decide

/-! ### Mark units (chapter 7) -/

/-- The output modes' table of R147: the level after a match and after a pass start, from low and from high. -/
theorem test_output_modes :
    [OutputMode.level, .set, .clear, .toggle, .setClear, .clearSet, .toggleClear, .toggleSet].map
        (fun o => (matchLevel o false, matchLevel o true, passStartLevel o false, passStartLevel o true))
      = [(false, true, false, true), (true, true, false, true), (false, false, false, true), (true, false, false, true),
         (true, true, false, false), (false, false, true, true), (true, false, false, false), (true, false, true, true)] := by
  decide

/-- The table of R148: an update that is both a pass start and a match, from low and from high. -/
theorem test_pass_start_and_match :
    [OutputMode.level, .set, .setClear, .clear, .clearSet, .toggle, .toggleClear, .toggleSet].map
        (fun o => let m (l : Bool) : MarkUnit := { MarkUnit.reset with mode := .compare, outputMode := o, output := l }
                  ((m false).levelAfter { clip := 12, u := 0 }, (m true).levelAfter { clip := 12, u := 0 }))
      = [(false, true), (true, true), (true, true), (false, false), (false, false), (true, false), (true, true), (false, false)] := by
  decide

/-- Configure Mark refuses a unit above 5, a clip selector of 64, a prescale of 2, a trigger bit 3 (R143, R198), and keeps the
output level. -/
theorem test_configure_mark :
    [MarkFields.off 6, .compare 0 64 0 0 0, .compare 0 255 67108864 0 0, .compare 0 255 0 8 0, .compare 0 255 0 0 8,
      .capture 0 3 1 0, .capture 0 0 2 0, .unknown 0 3 []].map (fun f => reply (after (exec (.configureMark 1 f) base)))
      = List.replicate 8 [3]
    ∧ (let s := base.setMark 2 { MarkUnit.reset with output := true, counter := 3 }
       (after (exec (.configureMark 1 (.compare 2 255 4095 0 4)) s)).mark 2)
      = { MarkUnit.reset with mode := .compare, compareAt := 4095, trigCut := true, output := true } := by decide

/-- Set Mark Output in OFF (R144). -/
theorem test_set_mark_output :
    ((after (exec (.setMarkOutput 1 5 1) base)).mark 5).output = true
    ∧ reply (after (exec (.setMarkOutput 1 0 2) base)) = [3] := by decide

/-- Unit 4 of the worked capture: edge BOTH, prescale 4, notify, three edges counted, a record unread or not. -/
def markRig (unread : Bool) : State :=
  ({ rig .running 3 1 with pe := { (rig .running 3 1).pe with counter := 3120 } } : State).setMark 4
    { MarkUnit.reset with
      mode := .capture, edge := .both, prescale := 4, captureNotify := true, counter := 3, unread := unread, input := true }

/-- The worked capture: the fourth edge writes stamp, level and position, sets unread, raises MARK; with the old record unread
it sets overflow. -/
theorem test_mark_capture :
    (let t := after (exec (.markInputEdge 4 false) (markRig true))
     (t.mark 4).record = some
        { stamp := 3120, level := false,
          position := some { tag := 5, pass := 2, value := 3, overrun := false, dwell := false } }
      ∧ (t.mark 4).unread = true ∧ (t.mark 4).overflow = true ∧ (t.mark 4).counter = 0
      ∧ (t.cause .mark).detail = some (.mark 4 3120) ∧ t.eu.markSet = 16#6)
    ∧ ((after (exec (.markInputEdge 4 false) (markRig false))).mark 4).overflow = false := by decide

/-- Read Mark replies the overflow it clears, and clears unread (R157). -/
theorem test_read_mark :
    (let s := base.setMark 4 { MarkUnit.reset with unread := true, overflow := true }
     let t := after (exec (.readMark 1 4 1) s)
     ((reply t).drop ((reply t).length - 2), (t.mark 4).unread, (t.mark 4).overflow)) = ([1, 1], false, false)
    ∧ reply (after (exec (.readMark 1 6 0) base)) = [3] := by decide

/-- The worked cut at a pass end: a match with CUT in RUNNING sets cut pending, in RAMP_OUT it does not (R151). -/
theorem test_mark_cut :
    (let s (e : EngineState) := (rig e 5 0).setMark 2
        { MarkUnit.reset with mode := .compare, compareAt := 5, trigCut := true, trigNotify := true }
     let t := (s .running).markStage
     (t.pe.ctx.map (·.cut), (t.cause .mark).count, ((s .rampOut).markStage).pe.ctx.map (·.cut)))
      = (some true, 1, some false) := by decide

theorem witness_MarkRequestsResult :
    base.repliesHeld < 2 ∧ 5 < 6 ∧ (63 < 64 ∧ 67108863 ≤ 67108863 ∧ 7 < 8) ∧ ((16 = 1 ∨ 16 = 4 ∨ 16 = 16) ∧ 1 < 2) := by decide

theorem witness_MarkInputEdgeResult :
    (5 < 6 ∧ (base.mark 5).qualifies true = false)
    ∧ ((((markRig false).setMark 4 { (markRig false).mark 4 with counter := 2 }).mark 4).qualifies true = true
      ∧ 2 + 1 < ((markRig false).mark 4).prescale)
    ∧ (((markRig true).mark 4).qualifies false = true ∧ ((markRig true).mark 4).prescale ≤ ((markRig true).mark 4).counter + 1) := by
  decide

/-! ### Response capture (chapter 8) -/

/-- A configuration of channels 2, 6 and 11 with commands. -/
def captureCfg : CaptureConfig := { chans := [2, 6, 11], withCommand := true, decimation := 4, records := 5, rearm := true }

/-- The filling header of the worked capture after its fourth record. -/
def fillingHeader : Header :=
  { sequence := none, kind := .segmentStart, unit := none, stamp := some 10000, position := none, chans := [2, 6, 11],
    withCommand := true, decimation := 4, records := 5, taken := 4, missed := true,
    figures := [{ span := some (1500, 1910), absentCount := 0 }, { span := some (0, 0), absentCount := 0 },
      { span := none, absentCount := 4 }] }

/-- The worked capture at a segment start before its last record: sequence 7 committed in bank 1, bank 0 filling; channel 2
answers 1840, channel 11 never answered. -/
def fillingRig : State :=
  { (base.setPort 2 { livePort .engaged with feedback := some 1840 }).setPort 6 (livePort .engaged) with
    pe := { Engine.reset with counter := 10016 }
    rcu :=
      { state := .filling, config := some captureCfg, bank0 := { role := .filling, words := [1, 2] },
        bank1 := { role := .committed, words := [3] }, filling := some fillingHeader, committed := captured.rcu.committed,
        sequence := 7 } }

/-- The worked capture's completion: sequence 8, bank 0 committed, bank 1 free, ARMED again, CAPTURE raised, the missed flag
kept; channel 2's figures stay 1500 and 1910, channel 11's absent count rises and its word is 0. -/
theorem test_capture_complete :
    (let t := after (exec .captureComplete fillingRig)
     t.rcu.sequence = 8 ∧ t.rcu.state = .armed ∧ t.rcu.bank0 = { role := .committed, words := [1, 2, 1840, 0, 409, 0, 0, 0] }
      ∧ t.rcu.bank1 = { role := .free, words := [] })
    ∧ (let s : State := { fillingRig with pe := { fillingRig.pe with counter := 10015 } }
       after (exec .captureComplete s) = s)
    ∧ (let s : State := { fillingRig with rcu := { fillingRig.rcu with
         filling := some { fillingHeader with stamp := none, taken := 0, records := 1 } } }
       after (exec .captureComplete s) = s) := by decide

/-- The committed header of that completion, and CAPTURE with its sequence. -/
theorem test_committed_header :
    (let t := after (exec .captureComplete fillingRig)
     t.rcu.committed = some
        { fillingHeader with
          sequence := some 8, taken := 5,
          figures := [{ span := some (1500, 1910), absentCount := 0 }, { span := some (0, 409), absentCount := 0 },
            { span := none, absentCount := 5 }] }
      ∧ (t.cause .capture).detail = some (.capture (some 8))) := by decide

/-- The largest N of section 8.1: 8,192 records of sixteen channels with commands fit, 8,193 do not; the reply's span of the
slowest such capture is 131,057 updates. -/
theorem test_configure_capture :
    reply (after (exec (.configureCapture 1 65535 1 16 8192 0) base)) = [0, 0, 1, 255, 241]
    ∧ reply (after (exec (.configureCapture 1 65535 1 16 8193 0) base)) = [3]
    ∧ reply (after (exec (.configureCapture 1 1 0 1 1 0) fillingRig)) = [4]
    ∧ reply (after (exec (.configureCapture 1 0 0 1 1 0) base)) = [3] := by decide

/-- Capture Trigger: refused in UNCONFIGURED, STARTED in ARMED, MISSED in FILLING (R163). -/
theorem test_capture_trigger :
    reply (after (exec (.captureTrigger 1) base)) = [4]
    ∧ (let t := after (exec (.captureTrigger 1) { base with rcu := { CaptureUnit.reset with state := .armed, config := some captureCfg } })
       (reply t, t.rcu.state, t.rcu.bank0.role)) = ([0, 0], .filling, .filling)
    ∧ reply (after (exec (.captureTrigger 1) fillingRig)) = [0, 1] := by decide

/-- Abort Capture replies the records taken, leaves ARMED and keeps the committed capture (R169). -/
theorem test_abort_capture :
    (let t := after (exec (.abortCapture 1) fillingRig)
     (reply t, t.rcu.state, t.rcu.bank0, t.rcu.bank1.role)) = ([0, 0, 0, 0, 4], .armed, { role := .free, words := [] }, .committed)
    ∧ reply (after (exec (.abortCapture 1) base)) = [4] := by decide

/-- The order of Read Capture's checks: count, then sequence, then range (R170). -/
theorem test_read_capture :
    reply (after (exec (.readCapture 1 8 0 501) captured)) = [3] ∧ reply (after (exec (.readCapture 1 8 0 500) captured)) = [7]
    ∧ reply (after (exec (.readCapture 1 7 1 2) captured)) = [3]
    ∧ reply (after (exec (.readCapture 1 7 0 2) captured)) = [0, 0, 0, 0, 7, 0, 2, 0x05, 0xDC, 0xFF, 0xFE] := by decide

/-- A Capture Info after a full reset: no optional field, UNCONFIGURED, sequence 0. -/
theorem test_capture_info : reply (after (exec (.captureInfo 1) base)) = List.replicate 90 0 := by decide

theorem witness_CaptureRequestsResult :
    (base.repliesHeld < 2 ∧ base.rcu.state ≠ .filling ∧ List.range 16 = maskChannels 65535 ∧ List.range 16 ≠ [] ∧ 1 < 2 ∧ 1 ≤ 16
      ∧ 16 ≤ 16 ∧ 1 ≤ 8192 ∧ 8192 * (List.range 16).length * (1 + 1) ≤ 262144)
    ∧ (let s : State := { base with rcu := { CaptureUnit.reset with state := .armed, config := some captureCfg } }
       s.repliesHeld < 2 ∧ s.rcu.state = .armed ∧ s.rcu.config = some captureCfg ∧ s.rcu.bank0.role = .free)
    ∧ (let s : State := { base with rcu :=
        { CaptureUnit.reset with state := .armed, config := some captureCfg, bank0 := { role := .committed, words := [] } } }
       s.repliesHeld < 2 ∧ s.rcu.state = .armed ∧ s.rcu.config = some captureCfg ∧ s.rcu.bank0.role ≠ .free)
    ∧ (fillingRig.repliesHeld < 2 ∧ fillingRig.rcu.state = .filling ∧ fillingRig.rcu.filling = some fillingHeader)
    ∧ base.rcu.state = .unconfigured := by decide

/-- The rig at u 1 of a clip update by update, with unit 2 matching there for NOTIFY, CAPTURE and CUT, a capture of five records
configured, in a state of the unit. -/
def captureRig (st : CaptureState) (header : Option Header) : State :=
  let s := (rig .running 1 0).setMark 2
    { MarkUnit.reset with mode := .compare, compareAt := 1, outputMode := .toggle, trigNotify := true, trigCapture := true,
                          trigCut := true }
  { s with rcu := { CaptureUnit.reset with
      state := st, config := some captureCfg, filling := header,
      bank0 := if header.isSome then { role := .filling, words := [1] } else { role := .free, words := [] } } }

/-- The worked capture one record earlier than its last and one stamp earlier than due, and triggers at an update. -/
theorem witness_CaptureCompleteResult :
    (fillingRig.rcu.state = .filling ∧ fillingRig.rcu.filling = some fillingHeader ∧ fillingRig.rcu.config = some captureCfg
      ∧ fillingHeader.records ≤ fillingHeader.taken + 1 ∧ fillingRig.rcu.bank0.role = .filling
      ∧ fillingRig.rcu.bank1.role ≠ .filling
      ∧ [1840, 0, 409, 0, 0, 0] = fillingHeader.chans.flatMap (fun ch =>
        (fillingRig.port ch).feedback.getD 0 :: (if fillingHeader.withCommand then [(fillingRig.drive ch).lastOutput] else []))
      ∧ (10016 + 281474976710656 - 10000) % 281474976710656 = fillingHeader.taken * fillingHeader.decimation
      ∧ (10015 + 281474976710656 - 10000) % 281474976710656 ≠ fillingHeader.taken * fillingHeader.decimation
      ∧ fillingHeader.stamp = some 10000
      ∧ ({ fillingHeader with stamp := none, taken := 0, records := 1 } : Header).stamp = none)
    ∧ ((captureRig .armed none).rcu.state = .armed ∧ (captureRig .armed none).rcu.config = some captureCfg
      ∧ 2 ≤ captureCfg.records ∧ (captureRig .armed none).captureTriggers = 1
      ∧ (captureRig .armed none).rcu.bank0.role ≠ .filling ∧ (captureRig .armed none).pe.source = .internal)
    ∧ ((captureRig .filling (some { fillingHeader with stamp := some 13, taken := 3 })).captureTriggers = 1
      ∧ (13 + 281474976710656 - 13) % 281474976710656 % fillingHeader.decimation = 0 ∧ 3 + 1 < fillingHeader.records
      ∧ (13 + 281474976710656 - 12) % 281474976710656 % fillingHeader.decimation ≠ 0)
    ∧ (fillingRig.captureTriggers = 0 ∧ fillingRig.pe.source = .internal
      ∧ (10016 + 281474976710656 - 10000) % 281474976710656 % fillingHeader.decimation = 0)
    ∧ base.rcu.state = .unconfigured := by decide

/-! ### Event Unit (chapter 9) -/

/-- A raising at 255 stays there with the new detail; the first raising of an enabled cause makes one notice with count 1,
the second none (R174, R178). -/
theorem test_raise :
    ((base.setCause .mark { count := 255, enable := true, detail := none }).raise .mark (some (.mark 1 2))).cause .mark
      = { count := 255, enable := true, detail := some (.mark 1 2) }
    ∧ (let t := (base.setCause .clip { count := 0, enable := true, detail := none }).raise .clip (some (.clip 3 .ready))
       (reply t, ((t.raise .clip none).queuedFrames).length)) = ([9, 1], 1) := by decide

/-- The worked sequence's Enable Events adding MARK at count 2: a notice MARK 2 before the reply (R179, R180). -/
theorem test_enable_events :
    (let t := after (exec (.enableEvents 1 0x007F) (base.setCause .mark { count := 2, enable := false, detail := none }))
     t.queuedFrames.map (·.payload)) = [[7, 2], [0, 0, 0x7F, 0, 0, 0, 0, 0, 0, 2, 0, 0]]
    ∧ reply (after (exec (.enableEvents 1 0x0200) base)) = [3] := by decide

/-- The worked takes: TRIP first, for CHANNEL_FAULT of channel 3 at stamp 52004, with ENGINE and MARK left pending; then NONE
when nothing is pending. -/
theorem test_take_event :
    (let s := ((base.setCause .trip { count := 1, enable := true, detail := some (.trip .channelFault (some 3) 52004) }).setCause
        .engine { count := 1, enable := true, detail := none }).setCause .mark { count := 1, enable := false, detail := none }
     reply (after (exec (.takeEvent 1) s))) = [0, 1, 1, 0, 0x48, 0x0A, 0x83, 0, 0, 0, 0, 0xCB, 0x24]
    ∧ reply (after (exec (.takeEvent 1) base)) = [0, 0, 0, 0, 0] := by decide

theorem witness_EnableEventsResult :
    base.repliesHeld < 2 ∧ 511 < 512 ∧ 512 ≤ 512 ∧ (allCauses.all fun c => (base.cause c).count == 0) = true
    ∧ allCauses = [.trip, .channel, .limit, .engine, .segment, .advance, .mark, .capture, .clip]
    ∧ (let s := (base.setCause .mark { count := 2, enable := false, detail := none }).setCause .trip
         { count := 255, enable := false, detail := none }
       s.repliesHeld < 2
        ∧ allCauses.filter (fun c => !(s.cause c).enable && Nat.testBit 511 c.index && decide (0 < (s.cause c).count))
          = [.trip, .mark]) := by decide

/-- ADVANCE pending with nothing above it; and every cause at 0. -/
theorem witness_TakeEventResult :
    (∀ c : Cause, (base.cause c).count = 0)
    ∧ (let s := base.setCause .advance { count := 255, enable := false, detail := some (.advance 9) }
       s.repliesHeld < 2 ∧ 0 < (s.cause .advance).count ∧ ∀ c' : Cause, c'.index < Cause.index .advance → (s.cause c').count = 0) :=
  ⟨by intro c; cases c <;> decide, by decide, by decide, by intro c; cases c <;> decide⟩

theorem witness_RaiseResult :
    (let s := base.setCause .clip { count := 0, enable := true, detail := none }
     (s.cause .clip).count = 0 ∧ (s.cause .clip).enable = true)
    ∧ (base.cause .clip).enable = false ∧ Cause.trip ≠ Cause.clip := by decide

/-! ### Supervisory Link Interface (chapter 10) -/

/-- Two replies on the line, the first leaving, as in the worked burst. -/
def busyLine (buffered busy : Nat) : State :=
  let frame (cls : FrameClass) (tag : Nat) : Frame := { cls := cls, code := 0x83, tag := tag, payload := [] }
  { base with sli := { base.sli with
      leaving := some (frame .reply 1), waiting := frame .reply 2 :: List.replicate busy (frame .busy 12),
      buffer := List.replicate buffered { code := 0x33, tag := 3, payload := [] }, interval := 1000, timerSince := some 0 } }

/-- A Stop in IDLE, whose reply is OK and the state, arriving on an idle line: it is taken at once; with a CRC one off it is
discarded and counted (R186, R188). The CRC is the model's own. A frame in progress that is 20 milliseconds old is counted
first. -/
theorem test_request_arrival :
    reply (after (exec (.requestArrival 1 0x33 7 [] (crc16 [1, 0x33, 0, 7, 0, 0]) 5) base)) = [0, 0]
    ∧ (after (exec (.requestArrival 1 0x33 7 [] (crc16 [1, 0x33, 0, 7, 0, 0] + 1) 5) base)).sli.counters.crcErrors = 1
    ∧ (after (exec (.requestArrival 2 0x33 7 [] (crc16 [2, 0x33, 0, 7, 0, 0]) 5) base)).sli.counters.kindErrors = 1
    ∧ (let s : State := { base with sli := { base.sli with receiver := .header 100 [1] } }
       let t (n : Nat) := after (exec (.requestArrival 1 0x33 7 [] 0 n) s)
       ((t 65536100).sli.counters.overlong, (t 65536100).sli.counters.crcErrors, (t 65536099).sli.counters.overlong))
      = (1, 1, 0) := by decide +kernel

/-- The worked burst's twelfth request: with the buffer full it is counted and answered BUSY_LINK behind the two replies; with
eight such replies waiting it is counted alone (R188). -/
theorem test_busy_link :
    (let t := after (exec (.requestArrival 1 0x33 12 [] (crc16 [1, 0x33, 0, 12, 0, 0]) 5) (busyLine 8 0))
     (t.sli.waiting.map (fun f => (f.tag, f.payload)), t.sli.buffer.length, t.sli.counters.busyAnswers))
      = ([(2, []), (12, [0x13])], 8, 1)
    ∧ (let t := after (exec (.requestArrival 1 0x33 12 [] (crc16 [1, 0x33, 0, 12, 0, 0]) 5) (busyLine 8 8))
     (t.sli.waiting.length, t.sli.counters.busyAnswers)) = (9, 1) := by decide

/-- The worked burst: reply 1 leaves, and the oldest request in the buffer is taken (R189, R190). -/
theorem test_frame_sent :
    (let t := after (exec .frameSent (busyLine 2 1))
     (t.sli.leaving.map (·.tag), t.sli.waiting.map (·.tag), t.sli.buffer.length)) = (some 2, [12, 3], 1)
    ∧ after (exec .frameSent base) = base := by decide

/-- The receiver: the first sync byte, a repeat of it, the second, then a length of 1025 is a length error (R185, R186). -/
theorem test_received_byte :
    (after (exec (.receivedByte 0x5A 9) base)).sli.receiver = .sync 9
    ∧ (let s (r : Receiver) : State := { base with sli := { base.sli with receiver := r } }
       (after (exec (.receivedByte 0x5A 12) (s (.sync 9)))).sli.receiver = .sync 12
        ∧ (after (exec (.receivedByte 0xC3 12) (s (.sync 9)))).sli.receiver = .header 9 []
        ∧ (after (exec (.receivedByte 0x01 12) (s (.header 9 [1, 0x33, 0, 7, 4])))).sli.counters.lengthErrors = 1
        ∧ (after (exec (.receivedByte 0x01 12) (s (.header 9 [1, 0x33, 0, 7, 0])))).sli.receiver
          = .payload 9 [1, 0x33, 0, 7, 0, 1] 1 []) := by decide

/-- A frame is overlong 20 milliseconds after its first sync byte, not before (R186). -/
theorem test_overlong_frame :
    (let s : State := { base with sli := { base.sli with receiver := .header 100 [1] } }
     ((after (exec (.overlongFrame 65536100) s)).sli.receiver, (after (exec (.overlongFrame 65536100) s)).sli.counters.overlong,
       (after (exec (.overlongFrame 65536099) s)).sli.counters.overlong)) = (.hunt, 1, 0) := by decide +kernel

/-- The supervision timer of 1000 milliseconds expires after one second: a STOP with cause SUPERVISION (R193). -/
theorem test_supervision_expiry :
    (let s : State := { rig .running 0 0 with sli := (busyLine 0 0).sli }
     let t := after (exec (.supervisionExpiry 3276800000) s)
     (t.pe.state, t.pe.stopCause, t.sli.timerSince, (after (exec (.supervisionExpiry 3276799999) s)).pe.state))
      = (.rampOut, some .supervision, some 3276800000, .running) := by decide +kernel

/-- Set Supervision refuses 5 and 15 and takes 60,000 (R192). -/
theorem test_set_supervision :
    reply (after (exec (.setSupervision 1 5) base)) = [3] ∧ reply (after (exec (.setSupervision 1 15) base)) = [3]
    ∧ reply (after (exec (.setSupervision 1 60000) base)) = [0, 0xEA, 0x60] := by decide

/-- Query Identity names ETALIX, RD16, revision 1, sixteen channels, 512 updates per second (R194); a Query Status with
clearing shows the counters it clears (R195). -/
theorem test_identity_and_status :
    (reply (after (exec (.queryIdentity 1) base))).take 15
      = [0, 0x45, 0x54, 0x41, 0x4C, 0x49, 0x58, 0x52, 0x44, 0x31, 0x36, 1, 16, 2, 0]
    ∧ (let s : State := { base with sli := { base.sli with counters := { LinkCounters.reset with crcErrors := 1, busyAnswers := 1 } } }
       let t := after (exec (.queryStatus 1 1) s)
       (((reply t).drop ((reply t).length - 18)).take 10, t.sli.counters)) = ([0, 0, 0, 0, 0, 1, 0, 0, 0, 1], LinkCounters.reset) := by
  decide

/-- A code that names no request, notices' among them, is answered UNKNOWN_REQUEST with its code and tag (R199). -/
theorem test_unknown_request :
    (after (exec (.unknownRequest 0xF0 9) base)).sli.leaving = some { cls := .reply, code := 0xF0, tag := 9, payload := [1] } := by
  decide

/-- Reset Part in TRIPPED: reply, then IDLE, no context, ENGAGED channels STANDBY, the counter and the enables kept; in RUNNING
it is refused (R73, R122, R196). -/
theorem test_reset_part :
    (let t := after (exec (.resetPart 1) ((rig .tripped 0 0).setCause .trip { count := 3, enable := true, detail := none }))
     reply t = [0] ∧ t.pe.state = .idle ∧ t.pe.ctx = none ∧ t.pe.counter = 12 ∧ (t.port 2).state = .standby ∧ t.sq.entries = []
      ∧ (t.clip 0).refs = 0 ∧ t.cause .trip = { count := 0, enable := true, detail := none })
    ∧ reply (after (exec (.resetPart 1) (rig .running 0 0))) = [4] := by decide +kernel

/-- A full reset from the reset input: one Start Notice of 18 bytes with source 2 (R197, section 11.8). -/
theorem test_full_reset :
    reply (after (exec (.fullReset .resetInput) (rig .running 0 0)))
      = [0x45, 0x54, 0x41, 0x4C, 0x49, 0x58, 0x52, 0x44, 0x31, 0x36, 1, 2, 0, 0, 0, 0, 0, 0] := by decide

theorem witness_ResetPartResult :
    (base.repliesHeld < 2 ∧ base.pe.state = .idle) ∧ (rig .tripped 0 0).pe.state = .tripped
    ∧ ((withClip .verifying 0).clip 0).state = .verifying ∧ ((withClip .ready 0).clip 0).state ≠ .loading
    ∧ ((rig .running 0 0).repliesHeld < 2 ∧ (rig .running 0 0).pe.state ≠ .idle ∧ (rig .running 0 0).pe.state ≠ .tripped) := by
  decide

theorem witness_LinkRequestsResult :
    base.repliesHeld < 2 ∧ (10 ≤ 60000 ∧ 60000 ≤ 60000 ∧ 60000 % 10 = 0) ∧ (5 ≠ 0 ∧ (5 < 10 ∨ 60000 < 5 ∨ 5 % 10 ≠ 0))
    ∧ 0xF0 ∉ knownCodes := by decide

theorem witness_RequestArrivalResult :
    1024 < (List.replicate 1025 (0 : Byte)).length
    ∧ (([] : List Byte).length ≤ 1024 ∧ 0 ≠ crc16 (coveredBytes 1 0x33 7 []))
    ∧ (([] : List Byte).length ≤ 1024 ∧ crc16 [2, 0x33, 0, 7, 0, 0] = crc16 (coveredBytes 2 0x33 7 []) ∧ 2 ≠ 1)
    ∧ (crc16 [1, 0x33, 0, 7, 0, 0] = crc16 (coveredBytes 1 0x33 7 []) ∧ base.sli.buffer = [] ∧ base.repliesHeld < 2)
    ∧ ((busyLine 7 0).sli.buffer.length < 8 ∧ (busyLine 7 0).repliesHeld = 2)
    ∧ ((busyLine 8 0).sli.buffer.length = 8 ∧ (busyLine 8 0).repliesHeld = 2)
    ∧ ((Receiver.header 100 [1]).frameStart.any (fun start => decide (start + 65536000 ≤ max 0 65536100)) = true) :=
  ⟨by simp, by decide, by decide, by decide, by decide, by decide, by decide +kernel⟩

theorem witness_LinkEventsResult :
    (let s : State := { base with sli := { base.sli with receiver := .header 100 [1] } }
     s.sli.receiver.frameStart = some 100 ∧ 100 + 65536000 ≤ max s.clock 65536100)
    ∧ ((busyLine 0 0).sli.leaving = some { cls := .reply, code := 0x83, tag := 1, payload := [] }
      ∧ (busyLine 0 0).sli.waiting = { cls := .reply, code := 0x83, tag := 2, payload := [] } :: []
      ∧ (busyLine 0 0).sli.buffer = [])
    ∧ ({ (busyLine 0 0).sli with waiting := [] } : LinkUnit).leaving
        = some { cls := .reply, code := 0x83, tag := 1, payload := [] }
    ∧ (let s : State := { rig .running 0 0 with sli := (busyLine 0 0).sli }
       s.sli.interval ≠ 0 ∧ s.sli.timerSince = some 0 ∧ 0 + s.sli.interval * 3276800 ≤ max s.clock 3276800000
        ∧ s.pe.state = .running)
    ∧ (let s : State := { rig .rampOut 0 0 with sli := (busyLine 0 0).sli }
       s.pe.state = .rampOut ∧ s.pe.target = some .paused ∧ s.sli.timerSince = some 0)
    ∧ ((busyLine 1 0).sli.buffer = { code := 0x33, tag := 3, payload := [] } :: [] ∧ (busyLine 1 0).repliesHeld = 2)
    ∧ base.sli.receiver = .hunt
    ∧ ({ base.sli with receiver := .sync 9 } : LinkUnit).receiver = .sync 9 := by decide +kernel

theorem witness_RequestEncodingRoundTrip :
    (Request.wf (.appendEntry (.play 65535 255 255 255 65535 4294967295 4294967295)) = true)
    ∧ (Request.configureChannel 255 (-32768) 32767 (-1) 65535).wf = true := by decide

theorem witness_ReceiverRefinesArrival :
    1 < 256 ∧ 255 < 256 ∧ 65535 < 65536 ∧ ([1, 2] : List Byte).length ≤ 1024 ∧ base.sli.receiver = .hunt := by decide

/-! ### Updates (chapters 1, 4, 5) -/

/-- The first update after a full reset is stamped 1, and the counter wraps at 2^48 (R101); a sync edge under INTERNAL raises no
update, and under EXTERNAL_SYNC only an edge does (R98). -/
theorem test_update_counter :
    (after (exec (.update 1) base)).pe.counter = 1
    ∧ (after (exec (.update 1) { base with pe := { base.pe with counter := 281474976710655 } })).pe.counter = 0
    ∧ (after (exec (.syncEdge 1) base)).pe.counter = 0
    ∧ (after (exec (.update 3200000) { base with pe := { base.pe with source := .externalSync } })).pe.counter = 0 := by decide

/-- EXTERNAL_SYNC at 1024 updates per second, the last update at time 0: a nominal period is 3,200,000 quanta. -/
def synced : State :=
  { base with pe := { base.pe with source := .externalSync, lastUpdateAt := some 0, syncWatchFrom := 0 } }

/-- An edge half a period after the last update qualifies, one quantum earlier does not; a loss comes after two periods, trips
the engine, and raises an update under INTERNAL; an edge at that moment finds the loss come (R98, R100). -/
theorem test_sync :
    (after (exec (.syncEdge 1600000) synced)).pe.counter = 1 ∧ (after (exec (.syncEdge 1599999) synced)).pe.counter = 0
    ∧ (after (exec (.syncLoss 6399999) synced)).pe.source = .externalSync
    ∧ (after (exec (.syncEdge 6399999) synced)).pe.state = .idle ∧ (after (exec (.syncEdge 6400000) synced)).pe.state = .tripped
    ∧ (let t := after (exec (.syncLoss 6400000) synced); t.pe.source = .internal ∧ t.pe.state = .tripped ∧ t.pe.counter = 1) := by
  decide +kernel

/-- An update of the rig in RUNNING at u 0 and u 1 plays channel 2's points 400 and 651 at unity gain: the interpolation of 400
and 903 at U = 2 is 400 and 400 + floor(503/2) = 651; the command is the newest place of the history (R127). At a match of unit 2
its toggle output changes, MARK is raised with the update's stamp, the visit is cut, and the matching capture starts (R147, R149
to R151). The worked overrun pass: the pass end at u 5 of the last pass ends in RAMP_OUT with passes counted 2, at u 0. -/
theorem test_update_plays :
    ((after (exec (.update 1) (rig .running 0 0))).drive 2).lastOutput = 400
    ∧ ((after (exec (.update 1) (rig .running 1 0))).drive 2).lastOutput = 651
    ∧ ((after (exec (.update 1) (rig .running 1 0))).limits 2).history.toList.take 2 = [651, 0]
    ∧ (let t := after (exec (.update 1) (captureRig .armed none))
     (t.mark 2).output = true ∧ (t.cause .mark).detail = some (.mark 2 13) ∧ t.pe.ctx.map (·.cut) = some true
      ∧ t.rcu.state = .filling ∧ t.rcu.filling.map (fun h => (h.unit, h.taken)) = some (some 2, 1))
    ∧ (let t := after (exec (.update 1) { rig .running 5 1 with sq := { SegmentQueue.reset with entries := [playEntry 2 1] } })
       (t.pe.state, t.pe.ctx.map (fun c => (c.counted, c.overrun, c.elapsed))) = (.rampOut, some (2, true, 0))) := by
  decide +kernel

/-- A window left open by a Power Off closes at the next update; after a Power On before it the channel is LINKING, a late answer
is taken, and without one the record is missing (R114, R116, section 5.5). -/
theorem test_power_cycle_window :
    (let s := after (exec (.channelPowerOff 1 7) (bringUp .standby))
     let t := after (exec (.channelPowerOn 2 7) s)
     ((after (exec (.servoResponse 7 true 12 1 2 .ok) t)).port 7).state = .standby
      ∧ ((after (exec (.update 1) t)).port 7).linkCount = some 1
      ∧ ((after (exec (.update 1) s)).port 7).window = none) := by decide +kernel

theorem witness_UpdateResult :
    (base.pe.source = .internal ∧ raisesUpdate (.update 1) base 1) ∧ synced.pe.source = .externalSync
    ∧ raisesUpdate (.syncEdge 1600000) synced 1600000
    ∧ raisesUpdate (.syncEdge 0) { synced with pe := { synced.pe with lastUpdateAt := none } } 0
    ∧ (synced.pe.lastUpdateAt = some 0 ∧ (max synced.clock 1599999 - 0) * 2 * synced.pe.rate < 3276800000
      ∧ (max synced.clock 1599999 - synced.pe.syncWatchFrom) * synced.pe.rate < 2 * 3276800000)
    ∧ (max synced.clock 6399999 - synced.pe.syncWatchFrom) * synced.pe.rate < 2 * 3276800000
    ∧ 2 * 3276800000 ≤ (max synced.clock 6400000 - synced.pe.syncWatchFrom) * synced.pe.rate
    ∧ (base.port 15).window = none
    ∧ (let s (st : PortState) (misses windows : Nat) :=
        base.setPort 7 { livePort st with missCount := misses, linkCount := some windows }
       ((s .linking 0 254).port 7).linkCount.getD 0 + 1 < 256 ∧ 256 ≤ ((s .linking 0 255).port 7).linkCount.getD 0 + 1
        ∧ ((s .standby 1 0).port 7).missCount < 2 ∧ 2 ≤ ((s .engaged 2 0).port 7).missCount
        ∧ ((s .off 0 0).port 7).window = some { stamp := 12, exchange := 12, engaged := false, command := 0, answered := false })
    ∧ ((captureRig .armed none).marksHit = [2] ∧ (rig .running 0 0).marksStarted = []) := by
  refine ⟨⟨by decide, .inl ⟨rfl, rfl⟩⟩, by decide, .inr ⟨rfl, rfl, by decide +kernel, ?_⟩, .inr ⟨rfl, rfl, by decide +kernel, ?_⟩,
    by decide +kernel, by decide +kernel, by decide +kernel, by decide, by decide, by decide⟩
  · intro last h
    obtain rfl : 0 = last := Option.some.inj h
    decide +kernel
  · intro last h
    simp at h

theorem witness_UpdateCommandsResult :
    (raisesUpdate (.update 1) (rig .tripped 0 0) 1 ∧ (rig .tripped 0 0).pe.state = .tripped)
    ∧ (rig .paused 0 0).pe.state = .paused
    ∧ ((rig .running 4 0).pe.state = .running ∧ (rig .running 4 0).pe.ctx = some (playCtx 4 0)
      ∧ (playCtx 4 0).body = .play (playPart 4) ∧ (playPart 4).u + 1 < (playPart 4).count * (playPart 4).upsample
      ∧ (∀ ch, ch < 16 → ((rig .running 4 0).limits ch).config.clamp.action ≠ .trip)
      ∧ (∀ ch, ch < 16 → ((rig .running 4 0).limits ch).config.clamp.enable = true →
        ((rig .running 4 0).limits ch).config.clamp.action = .note)
      ∧ ((rig .running 4 0).port 3).state = .engaged ∧ (playPart 4).chans.idxOf? 3 = some 1)
    ∧ ((rig .rampIn 4 0).pe.state = .rampIn
      ∧ 32 = min 65536 ((rig .rampIn 4 0).pe.lam + (65536 + ((rig .rampIn 4 0).pe.ri - 1)) / (rig .rampIn 4 0).pe.ri))
    ∧ ((rig .rampOut 4 0).pe.state = .rampOut
      ∧ 0 = (rig .rampOut 4 0).pe.lam - (65536 + ((rig .rampOut 4 0).pe.ro - 1)) / (rig .rampOut 4 0).pe.ro)
    ∧ (let s := inState ((bringUp .engaged).setPort 7 { livePort .engaged with window := none }) .returning none
       s.pe.state = .returning ∧ (∀ ch, ch < 16 → (s.port ch).window = none)
        ∧ (∀ ch, ch < 16 → (s.port ch).state = .engaged → ch = 7)
        ∧ (driveResult (s.drive 7) false 0).command ≠ (driveResult (s.drive 7) false 0).target
        ∧ (driveResult { s.drive 7 with lastOutput := 450 } false 0).command
          = (driveResult { s.drive 7 with lastOutput := 450 } false 0).target)
    ∧ (let c : Context := { playCtx 0 0 with tag := 6, body := .dwell 1 }
       let s : State := { inState base .running (some c) with sq := { SegmentQueue.reset with entries := [dwellEntry 6] } }
       s.pe.ctx = some c ∧ s.cursorEntry = some { tag := c.tag, body := (dwellEntry 6).body } ∧ 1 + 1 < 3) := by
  refine ⟨⟨.inl ⟨rfl, rfl⟩, by decide⟩, ?_⟩
  decide

/-! ### The step, and the laws it keeps -/

/-- The command at the front is carried out, and the rest stays queued. -/
theorem test_step :
    (after (step { base with pending := [.rigReadyDeasserted, .frameSent] })).pending = [.frameSent]
    ∧ (after (step { base with pending := [.rigReadyDeasserted, .frameSent] })).pe.state = .tripped := by decide

/-- No table row has bits, so no word spells a command. -/
theorem test_decode : decodeTableWord 16 0 = none ∧ (base.withFetchWord 16 0).pending = base.pending := by decide

theorem witness_StepRunsFrontCommand : base.pending = [] := by decide

theorem witness_RequestRowsTakeOrWait :
    (Instr.start 7).asRequest = some (7, .start) ∧ base.repliesHeld < 2 ∧ ¬ (busyLine 0 0).repliesHeld < 2 := by decide

theorem witness_RefusedRequestsChangeNothing : (takingOf .start (rig .running 0 0)).2.status ≠ .ok := by decide

/-- A row that is a request waits in the buffer when no reply place is free (log entry 7). -/
theorem test_request_row_waits :
    (after (exec (.stop 9) (busyLine 0 0))).sli.buffer = [{ code := 0x33, tag := 9, payload := [] }] := by decide

theorem witness_StepKeepsPointMemoryCanonical :
    ∃ s t : State, ramWf s.cs.points = true ∧ s.cs.points ≠ [] ∧ step s = .next t :=
  ⟨{ loading with cs := { loading.cs with points := [(4, 5)] }, pending := [.clipData 1 0 4 [0]] }, _, by decide, by decide, rfl⟩

/-- Page 0 belongs to clip 0, the other 2047 are free. -/
def partitioned : State :=
  { withClip .ready 0 with cs := { (withClip .ready 0).cs with freePages := List.range' 1 2047 }, pending := [.freeClip 1 0] }

theorem partitioned_lawful : partitioned.PagesPartitioned := by
  refine ⟨List.pairwise_lt_range', ?_, ?_, ?_⟩
  · decide
  · have h : partitioned.heldPages = [0] := by decide
    rw [h]
    show (List.range' 1 2047 ++ [0]).Perm (List.range 2048)
    rw [List.range_eq_range', List.range'_succ]
    exact List.perm_append_comm
  · decide

theorem witness_StepKeepsPagesPartitioned : ∃ s t : State, s.PagesPartitioned ∧ step s = .next t :=
  ⟨partitioned, _, partitioned_lawful, rfl⟩

theorem witness_ResetPartResult_pages :
    partitioned.repliesHeld < 2 ∧ partitioned.pe.state = .idle ∧ partitioned.PagesPartitioned :=
  ⟨by decide, by decide, partitioned_lawful⟩

theorem witness_StepKeepsReferenceCounts : ∃ s t : State, s.RefsLawful ∧ step s = .next t :=
  ⟨{ rig .running 0 0 with pending := [.freeClip 1 0] }, _, ⟨by decide, by decide⟩, rfl⟩

/-- One done record, whose sequence is the last before the wrap. -/
def wrapped : State :=
  { rig .running 0 0 with
    sq := { (rig .running 0 0).sq with
      nextSeq := 0,
      doneRing := [{ sequence := 4294967295, tag := 1, kind := .dwell, status := .skipped, visits := 0, passes := 0,
                     firstStamp := none, lastStamp := none, stats := none }] }
    pending := [.readDone 1 0] }

theorem witness_StepKeepsQueueLawful : ∃ s t : State, s.QueueLawful ∧ step s = .next t := by
  refine ⟨wrapped, _, ⟨by decide, by decide, by decide, by decide, ?_⟩, rfl⟩
  intro i r h
  match i with
  | 0 =>
    obtain rfl : _ = r := Option.some.inj h
    decide
  | i + 1 => simp [wrapped] at h

/-- The worked nested queue while entry 15 dwells, inside the loop of 10, at its last iteration. -/
def scheduled : State :=
  { inState base .running (some { playCtx 0 0 with tag := 15, body := .dwell 2 }) with
    sq := { SegmentQueue.reset with entries := nested, cursor := 5, stack := [{ tag := 10, count := 2, iterations := 1 }] }
    pending := [.update 1] }

theorem witness_StepKeepsQueueLawful_schedule :
    ∃ s t : State, s.ScheduleLawful ∧ s.sq.stack ≠ [] ∧ s.pe.ctx.isSome = true ∧ step s = .next t := by
  refine ⟨scheduled, _, ⟨by decide, by decide, ?_, ?_, ?_, ?_⟩, by decide, by decide, rfl⟩
  · intro fr h
    obtain rfl : fr = _ := List.mem_singleton.mp h
    exact ⟨0, by decide, by decide⟩
  · exact List.pairwise_singleton _ _
  · intro c h
    obtain rfl : _ = c := Option.some.inj h
    exact ⟨dwellEntry 15, by decide, rfl⟩
  · intro h
    simp [scheduled, inState] at h

theorem witness_StepKeepsRampLaw : ∃ s t : State, s.RampLawful ∧ step s = .next t :=
  ⟨{ rig .running 0 0 with pending := [.pause 1] }, _, ⟨by decide, by decide, by decide⟩, rfl⟩

theorem witness_StepKeepsLocalNotEngaged :
    ∃ s t : State, s.LocalNotEngaged ∧ (s.port 0).state = .engaged ∧ step s = .next t :=
  ⟨{ handover with pending := [.setRigModeLocal 1] }, _, by show ∀ ch, ch < 16 → _; decide, by decide, rfl⟩

theorem witness_StepKeepsCountsAndSupervision :
    ∃ s t : State, s.CountsBounded ∧ s.SupervisionLawful ∧ s.sli.interval ≠ 0 ∧ step s = .next t :=
  ⟨{ (busyLine 0 0).setCause .trip { count := 255, enable := true, detail := none } with pending := [.rigReadyDeasserted] }, _,
    by intro c; cases c <;> decide, ⟨by decide, by decide⟩, by decide, rfl⟩

theorem witness_StepKeepsLinkLawful : ∃ s t : State, s.LinkLawful ∧ s.sli.buffer.length = 8 ∧ step s = .next t :=
  ⟨{ busyLine 8 8 with pending := [.frameSent] }, _,
    ⟨by decide, by decide, by decide, by decide, by intro c; cases c <;> decide, by decide, by decide⟩, by decide, rfl⟩

/-- `fillingRig` with the words its headers stand for: four records of six words, and the committed capture's two words. -/
def lawfulCapture : State :=
  { fillingRig with
    rcu := { fillingRig.rcu with
      bank0 := { role := .filling, words := List.replicate 24 0 }, bank1 := { role := .committed, words := [1500, -2] } }
    pending := [.captureComplete] }

theorem witness_StepKeepsCaptureLawful : ∃ s t : State, s.CaptureLawful ∧ s.rcu.state = .filling ∧ step s = .next t := by
  refine ⟨lawfulCapture, _, ⟨by decide, by decide, by decide, by decide, ?_, ?_, ?_⟩, by decide, rfl⟩
  · intro c h
    obtain rfl : captureCfg = c := Option.some.inj h
    exact ⟨by decide, by decide⟩
  · intro h e
    obtain rfl : fillingHeader = h := Option.some.inj e
    exact ⟨by decide, ⟨by decide, by decide⟩, by decide⟩
  · intro h e
    obtain rfl : _ = h := Option.some.inj e
    exact ⟨⟨by decide, by decide⟩, by decide⟩

end Sys2Proof.Tests
end

section
/-! The arithmetic of a channel's command: interpolation, the dynamic part, clamp and slew (chapter 1). -/

namespace Sys2Proof.Machine

open Sys2Proof

/-! ### Stage 1 (R8) -/

/-- The part that interpolation adds to the first point is a floor (R8). -/
theorem interpolate_sub (pa pb : Int) (k u : Nat) : interpolate pa pb k u - pa = (pb - pa) * k / u := by
  simp [interpolate]

/-- A rising difference is taken between nothing and the whole of itself. -/
theorem scaled_le_of_nonneg {d : Int} {k u : Nat} (hu : 0 < u) (hk : k ≤ u) (hd : 0 ≤ d) :
    0 ≤ d * k / u ∧ d * k / u ≤ d :=
  ⟨Int.ediv_nonneg (by positivity) (by positivity),
    Int.ediv_le_of_le_mul (by exact_mod_cast hu) (mul_le_mul_of_nonneg_left (by exact_mod_cast hk) hd)⟩

/-- A falling difference is taken between the whole of itself and nothing. -/
theorem scaled_le_of_nonpos {d : Int} {k u : Nat} (hu : 0 < u) (hk : k ≤ u) (hd : d ≤ 0) :
    d ≤ d * k / u ∧ d * k / u ≤ 0 :=
  ⟨Int.le_ediv_of_mul_le (by exact_mod_cast hu) (mul_le_mul_of_nonpos_left (by exact_mod_cast hk) hd),
    Int.ediv_le_of_le_mul (by exact_mod_cast hu) (by simpa using mul_nonpos_of_nonpos_of_nonneg hd (Int.natCast_nonneg k))⟩

/-- The interpolated value lies between its two points. -/
theorem interpolate_between {k u : Nat} (pa pb : Int) (hu : 0 < u) (hk : k ≤ u) :
    min pa pb ≤ interpolate pa pb k u ∧ interpolate pa pb k u ≤ max pa pb := by
  have hsub := interpolate_sub pa pb k u
  rcases le_total pa pb with h | h
  · have := scaled_le_of_nonneg hu hk (sub_nonneg.mpr h)
    omega
  · have := scaled_le_of_nonpos hu hk (sub_nonpos.mpr h)
    omega

/-- A product of a difference of points and a step below 8 stays in R8's range. -/
theorem difference_mul_bounds {d : Int} {k : Nat} (hl : -65535 ≤ d) (hr : d ≤ 65535) (hk : k ≤ 7) :
    -458745 ≤ d * k ∧ d * k ≤ 458745 := by
  interval_cases k <;> omega

/-- Settles O24: the quotient is a floor, and a floor of a part of the difference stays between 0 and the difference. -/
theorem interpolationLaw : Obligations.InterpolationLaw := by
  intro pa pb k u hal har hbl hbr hu hk
  have hu0 : (0 : Int) < u := by omega
  have hprod := difference_mul_bounds (d := pb - pa) (k := k) (by omega) (by omega) (by omega)
  have hbetween := interpolate_between (k := k) (u := u) pa pb (by omega) hk.le
  refine ⟨?floor, ?next, by omega, by omega, hprod.1, hprod.2, hbetween.1, hbetween.2, ?one, ?same⟩
  case floor => rw [interpolate_sub]; exact Int.ediv_mul_le _ hu0.ne'
  case next => rw [interpolate_sub]; exact Int.lt_ediv_add_one_mul_self _ hu0
  case one =>
    intro h1
    obtain rfl : k = 0 := by omega
    simp [interpolate]
  case same => rintro rfl; simp [interpolate]

/-! ### Stage 3 (R10) -/

/-- The product of a point and a gain, in R10's range. -/
theorem point_mul_gain_bounds {v : Int} {q : Nat} (hl : -32768 ≤ v) (hr : v ≤ 32767) (hq : q ≤ 32767) :
    -1073709056 ≤ v * q ∧ v * q ≤ 1073676289 := by
  have hq' : (q : Int) ≤ 32767 := by exact_mod_cast hq
  have hq0 : (0 : Int) ≤ q := Int.natCast_nonneg q
  constructor <;> nlinarith

/-- Settles O25: both signs of the product round the magnitude plus 8192 down, which is to nearest with halves away from 0. -/
theorem dynamicPartLaw : Obligations.DynamicPartLaw := by
  intro v q hl hr hq
  obtain ⟨hpl, hpr⟩ := point_mul_gain_bounds hl hr hq
  unfold dynamicPart
  generalize v * (q : Int) = p at hpl hpr ⊢
  dsimp only
  split
  case isTrue hp =>
    rw [abs_of_nonneg hp, abs_of_nonneg (a := 16384 * ((p + 8192) / 16384)) (by omega), abs_le, abs_eq (by omega)]
    omega
  case isFalse hp =>
    rw [abs_of_neg (not_le.mp hp), abs_of_nonpos (a := 16384 * -((-p + 8192) / 16384)) (by omega), abs_le, abs_eq (by omega)]
    omega

/-! ### Stages 4 to 6 (R12, R14) -/

/-- Clamping to a range that is not empty is the middle of the range's bounds and the raw command. -/
theorem clampTo_eq {d : DriveRecord} (h : d.clampMin ≤ d.clampMax) (raw : Int) :
    clampTo d raw = max d.clampMin (min d.clampMax raw) := by
  unfold clampTo
  (repeat' split) <;> omega

/-- The clamped indication. -/
theorem isClamped_iff (d : DriveRecord) (raw : Int) : isClamped d raw = true ↔ raw < d.clampMin ∨ d.clampMax < raw := by
  simp [isClamped]

/-- The limited indication. -/
theorem isSlewLimited_iff (d : DriveRecord) (c : Int) :
    isSlewLimited d c = true ↔ d.slew < (c - d.lastOutput).natAbs := by
  simp [isSlewLimited]

/-- A target within the slew limit is reached. -/
theorem slewTo_of_reached {d : DriveRecord} {c : Int} (h : (c - d.lastOutput).natAbs ≤ d.slew) : slewTo d c = c := by
  simp [slewTo, isSlewLimited, h]

/-- Toward a target farther away the step is the slew limit, with the target's sign. -/
theorem slewTo_of_limited {d : DriveRecord} {c : Int} (h : d.slew < (c - d.lastOutput).natAbs) :
    slewTo d c = if 0 < c - d.lastOutput then d.lastOutput + d.slew else d.lastOutput - d.slew := by
  simp [slewTo, isSlewLimited, h]

/-- Settles O26: the clamp and the two cases of the slew limit. -/
theorem commandLaw : Obligations.CommandLaw := by
  rintro d dyn part c hrange rfl
  rw [← clampTo_eq hrange]
  refine ⟨rfl, slewTo_of_reached, ?_, ?_, ?_, isClamped_iff d _, isSlewLimited_iff d _⟩
  all_goals
    simp only [driveResult]
    generalize clampTo d (d.offset + part) = c
    rcases Nat.lt_or_ge d.slew (c - d.lastOutput).natAbs with hfar | hnear
    · simp only [slewTo_of_limited hfar]; split <;> omega
    · simp only [slewTo_of_reached hnear]; omega

end Sys2Proof.Machine
end

section
/-! The full reset, and the two requests that write the Drive Computation Unit. -/

namespace Sys2Proof.Machine

open Sys2Proof

/-! ### The full reset (R197) -/

/-- A full reset is the reset of every block. -/
theorem exec_fullReset (source : ResetSource) (s : State) : exec (.fullReset source) s = .next (s.makeFullReset source) := rfl

/-- A vector that repeats one record reads as that record at every place. -/
theorem getElem?_replicate_getD {α : Type} (n i : Nat) (a : α) : (Vector.replicate n a)[i]?.getD a = a := by
  cases h : (Vector.replicate n a)[i]? with
  | none => rfl
  | some b =>
    obtain ⟨hi, rfl⟩ := Vector.getElem?_eq_some_iff.mp h
    simp

/-- Every clip is FREE after a full reset (R27). -/
theorem makeFullReset_clip (source : ResetSource) (s : State) (id : Nat) :
    (s.makeFullReset source).clip id = Clip.reset := getElem?_replicate_getD 64 id _

/-- Every drive record has its reset values after a full reset (R1). -/
theorem makeFullReset_drive (source : ResetSource) (s : State) (ch : Nat) :
    (s.makeFullReset source).drive ch = DriveRecord.reset := getElem?_replicate_getD 16 ch _

/-- Every gain set is zero after a full reset (R20). -/
theorem makeFullReset_gainSet (source : ResetSource) (s : State) (g : Nat) :
    (s.makeFullReset source).gainSet g = GainSet.reset := getElem?_replicate_getD 8 g _

/-- Every port is OFF after a full reset (R104). -/
theorem makeFullReset_port (source : ResetSource) (s : State) (ch : Nat) :
    (s.makeFullReset source).port ch = Port.reset := getElem?_replicate_getD 16 ch _

/-- Every channel's detectors have their reset values after a full reset (R123). -/
theorem makeFullReset_limits (source : ResetSource) (s : State) (ch : Nat) :
    (s.makeFullReset source).limits ch = ChannelLimits.reset := getElem?_replicate_getD 16 ch _

/-- No cause is pending or enabled after a full reset (R173). -/
theorem makeFullReset_cause (source : ResetSource) (s : State) (c : Cause) :
    (s.makeFullReset source).cause c = { count := 0, enable := false, detail := none } := getElem?_replicate_getD 9 _ _

/-- A full reset leaves of a mark unit the level of its input alone (R141; log entry 17). -/
theorem makeFullReset_mark (source : ResetSource) (s : State) (m : Nat) :
    (s.makeFullReset source).mark m = { MarkUnit.reset with input := (s.mark m).input } := by
  simp only [State.mark, State.makeFullReset, Vector.getElem?_mapIdx]
  cases s.mu[m]? <;> rfl

/-- Settles O5: the reset state read through the accessors, with what the reset keeps. -/
theorem fullResetResult : Obligations.FullResetResult := by
  intro source s
  refine ⟨_, exec_fullReset source s, ?_⟩
  simp only [makeFullReset_clip, makeFullReset_drive, makeFullReset_gainSet, makeFullReset_port, makeFullReset_limits,
    makeFullReset_cause, makeFullReset_mark]
  simp only [State.makeFullReset]
  simp [State.reset, ClipStore.reset, Clip.reset, SegmentQueue.reset, Engine.reset, DriveRecord.reset, GainSet.reset,
    Port.reset, PortUnit.reset, ChannelLimits.reset, LimitConfig.reset, Detector.cleared, MarkUnit.reset, CaptureUnit.reset,
    EventUnit.reset, LinkUnit.reset, LinkCounters.reset]

/-! ### The requests of the Drive Computation Unit (R2, R21) -/

/-- Configure Channel with a reply place free is its taking, answered. -/
theorem exec_configureChannel_of_free {s : State} (h : s.repliesHeld < 2) (tag ch slew : Nat) (offset cmin cmax : Int) :
    exec (.configureChannel tag ch offset cmin cmax slew) s
      = .next (State.answered (takeConfigureChannel ch offset cmin cmax slew s).1 0x40 tag
          (takeConfigureChannel ch offset cmin cmax slew s).2.status
          (takeConfigureChannel ch offset cmin cmax slew s).2.fields) :=
  congrArg Host.Outcome.next (State.takeOrWait_of_free h tag (.configureChannel ch offset cmin cmax slew) _)

/-- Write Gain Set with a reply place free is its taking, answered. -/
theorem exec_writeGainSet_of_free {s : State} (h : s.repliesHeld < 2) (tag set : Nat) (gains : List Nat) :
    exec (.writeGainSet tag set gains) s
      = .next (State.answered (takeWriteGainSet set gains s).1 0x41 tag
          (takeWriteGainSet set gains s).2.status (takeWriteGainSet set gains s).2.fields) :=
  congrArg Host.Outcome.next (State.takeOrWait_of_free h tag (.writeGainSet set gains) _)

/-- Sixteen gains read back as the vector they list. -/
theorem gainVector_toList (w : Vector Nat 16) : gainVector w.toList = w := by
  ext i hi
  simp [gainVector]

/-- What a Write Gain Set in range does: the pending copy is written, and latched where the set can be latched at once
(R21). -/
theorem takeWriteGainSet_of_inRange {set : Nat} {w : Vector Nat 16} (hset : set < 8) (hg : ∀ g ∈ w.toList, g ≤ 32767)
    (s : State) :
    takeWriteGainSet set w.toList s
      = if s.latchesAtOnce set then accept (s.setGainSet set { active := w, pending := w, flag := false }) [0]
        else accept (s.setGainSet set { active := (s.gainSet set).active, pending := w, flag := true }) [1] := by
  have hin : ¬ (7 < set ∨ w.toList.any (fun g => decide (32767 < g)) = true) := by
    rintro (h | h)
    · omega
    · obtain ⟨g, hmem, hlarge⟩ := List.any_eq_true.mp h
      exact absurd (hg g hmem) (by simpa using hlarge)
  rw [takeWriteGainSet, if_neg hin, gainVector_toList]
  rfl

/-- Outside the playing states every set can be latched at once (R21). -/
theorem latchesAtOnce_of_not_playing {s : State} (h : s.pe.state.playing = false) (set : Nat) : s.latchesAtOnce set = true := by
  simp [State.latchesAtOnce, h]

/-- The set a playing visit uses is not latched at once (R21). -/
theorem latchesAtOnce_of_used {s : State} {c : Context} {p : PlayContext} (h : s.pe.state.playing = true)
    (hc : s.pe.ctx = some c) (hp : c.body = .play p) : s.latchesAtOnce p.gainSet = false := by
  obtain ⟨tag, body, counted, overrun, cut, first, last, due⟩ := c
  obtain rfl : body = .play p := hp
  simp [State.latchesAtOnce, h, hc]

/-- The states in which the context is playing (section 4.1). -/
theorem playing_iff (e : EngineState) : e.playing = true ↔ e = .rampIn ∨ e = .running ∨ e = .rampOut := by
  cases e <;> decide

/-- Settles O27: each request is its taking, answered, and each taking is decided by the range of its fields and by R21. -/
theorem driveRequestsResult : Obligations.DriveRequestsResult := by
  intro tag s hfree
  refine ⟨?configured, ?refused, ?latched, ?pending⟩
  case configured =>
    intro ch slew offset cmin cmax hch hrange hslew
    rw [exec_configureChannel_of_free hfree, takeConfigureChannel, if_neg (by omega)]
    rfl
  case refused =>
    intro ch slew offset cmin cmax hbad
    rw [exec_configureChannel_of_free hfree, takeConfigureChannel, if_pos hbad]
    rfl
  case latched =>
    rintro set _ w hset rfl hgains hstate
    have hrest : s.pe.state.playing = false := by rcases hstate with h | h | h | h <;> rw [h] <;> rfl
    rw [exec_writeGainSet_of_free hfree, takeWriteGainSet_of_inRange hset hgains,
      if_pos (latchesAtOnce_of_not_playing hrest set)]
    rfl
  case pending =>
    rintro set _ w c p hset rfl hgains hstate hctx hbody rfl
    have hused := latchesAtOnce_of_used ((playing_iff _).mpr hstate) hctx hbody
    rw [exec_writeGainSet_of_free hfree, takeWriteGainSet_of_inRange hset hgains, hused]
    rfl

end Sys2Proof.Machine
end

section
/-! What the operations of an update leave: raisings, drive records, detectors, and the playback context. -/

namespace Sys2Proof.Machine

open Sys2Proof

/-! ### Raising a cause (R174) -/

/-- A raising is counted, held at 255, and its detail is the cause's. -/
theorem State.raise_cause_same (s : State) (c : Cause) (d : Option Detail) :
    (s.raise c d).cause c = { s.cause c with count := min 255 ((s.cause c).count + 1), detail := d } := by
  rw [State.raise_eq]
  exact State.cause_setCause_same s c _

/-- A raising leaves the other causes alone. -/
theorem State.raise_cause_other (s : State) {c e : Cause} (d : Option Detail) (h : e ≠ c) :
    (s.raise c d).cause e = s.cause e := by
  rw [State.raise_eq]
  exact State.cause_setCause_other s c e _ h

/-- Firing the advance watch leaves every cause but ADVANCE alone (R72). -/
theorem State.fireWatch_cause_other (s : State) {e : Cause} (h : e ≠ .advance) : s.fireWatch.cause e = s.cause e := by
  unfold State.fireWatch
  split
  · rw [State.raise_cause_other _ _ h]; rfl
  · rfl

/-- Once the advance watch has fired it is disarmed (R72). -/
theorem State.fireWatch_watch (s : State) : s.fireWatch.sq.watch = false := by
  unfold State.fireWatch
  split
  · simp
  · next h => simpa using h

/-- Firing the advance watch changes of the queue its flag alone (R72). -/
theorem State.fireWatch_entries (s : State) : s.fireWatch.sq.entries = s.sq.entries := by
  unfold State.fireWatch
  split <;> simp

/-! ### Drive records -/

/-- A drive record reads the drive records alone. -/
theorem State.drive_congr_drives {s t : State} (h : t.dcu.drives = s.dcu.drives) (ch : Nat) : t.drive ch = s.drive ch := by
  simp [State.drive, h]

/-- Latching a gain set leaves the drive records alone. -/
@[simp] theorem State.latchPending_drives (s : State) (g : Nat) : (s.latchPending g).dcu.drives = s.dcu.drives := by
  unfold State.latchPending
  split <;> simp

@[simp] theorem State.reloadPoint_drives (s : State) : s.reloadPoint.dcu.drives = s.dcu.drives := by
  unfold State.reloadPoint
  (repeat' split) <;> simp

@[simp] theorem State.beginVisit_drives (s : State) : s.beginVisit.dcu.drives = s.dcu.drives := by
  unfold State.beginVisit
  (repeat' split) <;> simp

@[simp] theorem State.passEndPlaying_drives (s : State) : s.passEndPlaying.dcu.drives = s.dcu.drives := by
  unfold State.passEndPlaying
  dsimp only
  (repeat' split) <;> simp

@[simp] theorem State.advanceStage_drives (s : State) : s.advanceStage.dcu.drives = s.dcu.drives := by
  unfold State.advanceStage
  (repeat' split) <;> simp

/-! ### Detectors: an update's engine handling moves CLAMP_RATE alone -/

/-- `t` differs from `s` in no channel's detector configuration, history, ENVELOPE or TRACKING. -/
def State.ClampsAlone (s t : State) : Prop := ∀ ch, ∃ d, t.limits ch = { s.limits ch with clamp := d }

theorem State.ClampsAlone.of_lm {s t : State} (h : t.lm = s.lm) : s.ClampsAlone t :=
  fun ch => ⟨(s.limits ch).clamp, State.limits_congr ch h⟩

theorem State.ClampsAlone.trans {s t u : State} (h : s.ClampsAlone t) (h' : t.ClampsAlone u) : s.ClampsAlone u := by
  intro ch
  obtain ⟨d, hd⟩ := h ch
  obtain ⟨d', hd'⟩ := h' ch
  exact ⟨d', by rw [hd', hd]⟩

theorem State.ClampsAlone.config {s t : State} (h : s.ClampsAlone t) (ch : Nat) :
    (t.limits ch).config = (s.limits ch).config := by
  obtain ⟨d, hd⟩ := h ch
  rw [hd]

theorem State.ClampsAlone.history {s t : State} (h : s.ClampsAlone t) (ch : Nat) :
    (t.limits ch).history = (s.limits ch).history := by
  obtain ⟨d, hd⟩ := h ch
  rw [hd]

/-- What `t` keeps of every detector but CLAMP_RATE, a state with the same Limit Monitor keeps. -/
theorem State.ClampsAlone.then_lm {s t u : State} (h : s.ClampsAlone t) (h' : u.lm = t.lm) : s.ClampsAlone u :=
  h.trans (.of_lm h')

/-- What is kept from a state with the same Limit Monitor on, is kept. -/
theorem State.ClampsAlone.after_lm {s t u : State} (h : u.ClampsAlone t) (h' : u.lm = s.lm) : s.ClampsAlone t :=
  (State.ClampsAlone.of_lm h').trans h

theorem State.setLimits_clampsAlone (s : State) (ch : Nat) (d : Detector) :
    s.ClampsAlone (s.setLimits ch { s.limits ch with clamp := d }) := by
  intro j
  by_cases hj : j = ch
  · subst hj
    by_cases hb : j < 16
    · exact ⟨d, State.limits_setLimits_same s j _ hb⟩
    · exact ⟨(s.limits j).clamp, by simp [State.limits, State.setLimits, hb]⟩
  · exact ⟨(s.limits j).clamp, State.limits_setLimits_other s ch j _ hj⟩

/-- A pass start returns every CLAMP_RATE to CLEAR (R130). -/
theorem State.passStart_clampsAlone (s : State) : s.ClampsAlone s.passStart := by
  intro ch
  simp only [State.limits, State.passStart, Vector.getElem?_mapIdx]
  cases s.lm[ch]? with
  | none => exact ⟨Detector.cleared, rfl⟩
  | some l => exact ⟨Detector.cleared, rfl⟩

theorem State.evalClamp_clampsAlone (s : State) (ch : Nat) : s.ClampsAlone (s.evalClamp ch) := by
  unfold State.evalClamp
  dsimp only
  split
  · split
    · exact (s.setLimits_clampsAlone ch _).then_lm (State.fireDetector_lm _ _)
    · exact s.setLimits_clampsAlone ch _
  · exact .of_lm rfl

theorem State.handOn_clampsAlone (s : State) (cr : Nat × DriveResult) : s.ClampsAlone (s.handOn cr) := by
  unfold State.handOn
  dsimp only
  split
  · exact (State.evalClamp_clampsAlone _ _).after_lm (by split <;> simp)
  · exact .of_lm (by split <;> simp)

theorem State.foldl_handOn_clampsAlone :
    ∀ (results : List (Nat × DriveResult)) (s : State), s.ClampsAlone (results.foldl State.handOn s)
  | [], _ => .of_lm rfl
  | cr :: rest, s => (s.handOn_clampsAlone cr).trans (State.foldl_handOn_clampsAlone rest _)

theorem State.overrunOut_clampsAlone (s : State) (c : Context) (cause : EngineCause) : s.ClampsAlone (s.overrunOut c cause) :=
  (State.passStart_clampsAlone _).after_lm (by simp)

/-- A pass start and a reload point, on a state with the same Limit Monitor (R79, R130). -/
theorem State.reloaded_clampsAlone {s u : State} (h : u.lm = s.lm) : s.ClampsAlone u.passStart.reloadPoint :=
  (u.passStart_clampsAlone.after_lm h).then_lm (State.reloadPoint_lm _)

theorem State.beginVisit_clampsAlone (s : State) : s.ClampsAlone s.beginVisit := by
  unfold State.beginVisit
  split
  · split
    · exact .of_lm rfl
    · apply State.reloaded_clampsAlone
      simp
  · apply State.reloaded_clampsAlone
    simp
  · exact .of_lm rfl

theorem State.passEndPlaying_clampsAlone (s : State) : s.ClampsAlone s.passEndPlaying := by
  unfold State.passEndPlaying
  dsimp only
  split
  · exact .of_lm rfl
  · next c0 _ =>
    generalize (if c0.overrun = true then c0 else { c0 with counted := c0.counted + 1 }) = c
    split
    · split
      · exact (State.overrunOut_clampsAlone _ _ _).after_lm (by simp)
      · split
        · exact (State.overrunOut_clampsAlone _ _ _).after_lm (by simp)
        · exact (State.beginVisit_clampsAlone _).after_lm (by simp)
    · apply State.reloaded_clampsAlone
      simp

theorem State.passEndRampOut_clampsAlone (s : State) : s.ClampsAlone s.passEndRampOut := by
  unfold State.passEndRampOut
  split
  · exact .of_lm rfl
  · exact (State.passStart_clampsAlone _).after_lm (by simp)

theorem State.advanceStage_clampsAlone (s : State) : s.ClampsAlone s.advanceStage := by
  unfold State.advanceStage
  split
  · exact .of_lm rfl
  · split
    · split
      · split
        · exact s.passEndRampOut_clampsAlone
        · exact s.passEndPlaying_clampsAlone
      · exact .of_lm (by simp)
    · exact .of_lm rfl

theorem State.playedUpdate_clampsAlone (s : State) : s.ClampsAlone s.playedUpdate := by
  unfold State.playedUpdate State.playStage
  dsimp only
  generalize s.rampStep.stampFirst.computeAll = results
  have hplay : s.ClampsAlone ((results.foldl State.handOn s.rampStep.stampFirst.dropCaptureDue).markStage.stampLast) :=
    ((State.foldl_handOn_clampsAlone results _).then_lm ((State.stampLast_lm _).trans (State.markStage_lm _))).after_lm (by simp)
  have hadvance := hplay.trans (State.advanceStage_clampsAlone _)
  split
  · exact hadvance.then_lm (by simp)
  · exact hadvance

theorem State.restUpdate_clampsAlone (s : State) : s.ClampsAlone s.restUpdate := by
  unfold State.restUpdate
  dsimp only
  split
  · exact (State.foldl_handOn_clampsAlone _ s).then_lm (State.enterStopped_lm _ _ _)
  · exact State.foldl_handOn_clampsAlone _ s

/-- The engine's handling of an update keeps every command history. -/
theorem State.engineUpdate_history (s : State) (ch : Nat) : (s.engineUpdate.limits ch).history = (s.limits ch).history := by
  unfold State.engineUpdate
  split
  · exact s.playedUpdate_clampsAlone.history ch
  · exact s.restUpdate_clampsAlone.history ch

end Sys2Proof.Machine
end

section
/-! The commands of an update: what is computed, what is handed on, and what enters the command histories. -/

namespace Sys2Proof.Machine

open Sys2Proof

/-! ### Handing on results (R6) -/

/-- The channels whose commands an update computes, ascending. -/
def State.engagedChannels (s : State) : List Nat := allChannels.filter fun ch => (s.port ch).state == .engaged

theorem State.computeAll_eq (s : State) : s.computeAll = s.engagedChannels.map fun ch => (ch, s.computeChannel ch) := rfl

theorem State.mem_engagedChannels {s : State} {ch : Nat} :
    ch ∈ s.engagedChannels ↔ ch < 16 ∧ (s.port ch).state = .engaged := by
  simp [State.engagedChannels, allChannels]

theorem State.engagedChannels_nodup (s : State) : s.engagedChannels.Nodup := List.nodup_range.filter _

theorem State.engagedChannels_congr {s t : State} (h : t.cpc = s.cpc) : t.engagedChannels = s.engagedChannels := by
  simp [State.engagedChannels, State.port_congr _ h]

/-- Of the Drive Computation Unit, a handing on writes one channel's last output. -/
theorem State.handOn_dcu (s : State) (ch : Nat) (r : DriveResult) :
    (s.handOn (ch, r)).dcu = (s.setDrive ch { s.drive ch with lastOutput := r.command }).dcu := by
  unfold State.handOn
  dsimp only
  (repeat' split) <;> simp

theorem State.handOn_drive_same (s : State) {ch : Nat} (h : ch < 16) (r : DriveResult) :
    (s.handOn (ch, r)).drive ch = { s.drive ch with lastOutput := r.command } := by
  rw [State.drive_congr ch (s.handOn_dcu ch r), State.drive_setDrive_same s ch _ h]

theorem State.handOn_drive_other (s : State) {ch j : Nat} (h : j ≠ ch) (r : DriveResult) :
    (s.handOn (ch, r)).drive j = s.drive j := by
  rw [State.drive_congr j (s.handOn_dcu ch r), State.drive_setDrive_other s ch j _ h]

/-- Results handed on for distinct channels: each listed channel has its command as last output. -/
theorem State.foldl_handOn_drive (f : Nat → DriveResult) {j : Nat} (hj : j < 16) :
    ∀ (chs : List Nat) (s : State), chs.Nodup →
      ((chs.map fun ch => (ch, f ch)).foldl State.handOn s).drive j
        = if j ∈ chs then { s.drive j with lastOutput := (f j).command } else s.drive j
  | [], _, _ => rfl
  | ch :: rest, s, hnd => by
    obtain ⟨hnot, hrest⟩ := List.nodup_cons.mp hnd
    rw [List.map_cons, List.foldl_cons, State.foldl_handOn_drive f hj rest _ hrest]
    by_cases hjc : j = ch
    · subst hjc
      simp [hnot, State.handOn_drive_same s hj]
    · simp [hjc, State.handOn_drive_other s hjc]

/-- The results computed in `s`, handed on in a state with the same drive records. -/
theorem State.handOnAll_drive {s u : State} (h : u.dcu = s.dcu) {ch : Nat} (hch : ch < 16) :
    (s.computeAll.foldl State.handOn u).drive ch
      = if (s.port ch).state = .engaged then { s.drive ch with lastOutput := (s.computeChannel ch).command }
        else s.drive ch := by
  rw [State.computeAll_eq, State.foldl_handOn_drive _ hch _ _ s.engagedChannels_nodup, State.drive_congr ch h]
  simp [State.mem_engagedChannels, hch]

/-! ### The drive records after an update -/

/-- The state from which an update computes its commands: after the ramp step and the first stamps while the engine plays
(R87). -/
def State.computing (s : State) : State := if s.plays then s.rampStep.stampFirst else s

/-- What follows the commands in a played update leaves the drive records alone. -/
theorem State.playedUpdate_drives (s : State) :
    s.playedUpdate.dcu.drives
      = (s.rampStep.stampFirst.computeAll.foldl State.handOn s.rampStep.stampFirst.dropCaptureDue).dcu.drives := by
  unfold State.playedUpdate State.playStage
  dsimp only
  split <;> simp

/-- An update's engine handling hands on the commands computed, and writes no other part of a drive record. -/
theorem State.engineUpdate_drive (s : State) {ch : Nat} (hch : ch < 16) :
    s.engineUpdate.drive ch
      = if (s.port ch).state = .engaged then { s.drive ch with lastOutput := (s.computing.computeChannel ch).command }
        else s.drive ch := by
  unfold State.engineUpdate State.computing
  split
  · rw [State.drive_congr_drives s.playedUpdate_drives, State.handOnAll_drive (by simp) hch,
      State.drive_congr ch (s := s) (by simp), State.port_congr ch (s := s) (by simp)]
  · unfold State.restUpdate
    dsimp only
    split
    · rw [State.drive_congr ch (State.enterStopped_dcu _ _ _), State.handOnAll_drive rfl hch]
    · exact State.handOnAll_drive rfl hch

@[simp] theorem State.portUpdate_dcu (s : State) (ts : List Trigger) (pos : Option Position) :
    (s.portUpdate ts pos).dcu = s.dcu := by
  simp [State.portUpdate]

/-- The drive records after an update: every ENGAGED channel has its command as last output (R6, R14). -/
theorem State.raiseUpdate_drive (s : State) {ch : Nat} (hch : ch < 16) :
    s.raiseUpdate.drive ch
      = if (s.port ch).state = .engaged then
          { s.drive ch with lastOutput := (s.countUpdate.computing.computeChannel ch).command }
        else s.drive ch := by
  rw [State.raiseUpdate, State.drive_congr ch (State.portUpdate_dcu _ _ _), State.engineUpdate_drive _ hch,
    State.drive_congr ch s.countUpdate_dcu, State.port_congr ch s.countUpdate_cpc]

/-! ### The results computed, by engine state (R3, R17 to R19) -/

/-- In TRIPPED the command is the last output (R18). -/
theorem State.computeChannel_tripped {s : State} (h : s.pe.state = .tripped) (ch : Nat) :
    (s.computeChannel ch).command = (s.drive ch).lastOutput := by
  simp [State.computeChannel, h]

/-- Outside TRIPPED a channel rests while nothing plays (R17, R19). -/
theorem State.computeChannel_of_not_playing {s : State} (h : s.pe.state ≠ .tripped) (hp : s.pe.state.playing = false)
    (ch : Nat) : s.computeChannel ch = driveResult (s.drive ch) false 0 := by
  simp [State.computeChannel, h, hp, State.restResult]

/-- Outside TRIPPED a channel rests while the context is a DWELL (R17). -/
theorem State.computeChannel_of_dwell {s : State} {c : Context} {e : Nat} (h : s.pe.state ≠ .tripped)
    (hc : s.pe.ctx = some c) (hb : c.body = .dwell e) (ch : Nat) :
    s.computeChannel ch = driveResult (s.drive ch) false 0 := by
  obtain ⟨tag, body, counted, overrun, cut, first, last, due⟩ := c
  obtain rfl : body = .dwell e := hb
  simp [State.computeChannel, h, hc, State.restResult]

/-- The dynamic result of channel `ch` at list position `j` of the context's clip, at ramp level `lam` (R8 to R14). -/
def State.playResult (s : State) (p : PlayContext) (lam ch j : Nat) : DriveResult :=
  driveResult (s.drive ch) true
    (dynamicPart (interpolate (s.contextPoints p j).1 (s.contextPoints p j).2 (p.u % p.upsample) p.upsample)
      (((s.gainSet p.gainSet).active[ch]?.getD 0) * lam / 65536))

/-- While a clip plays, its channels get their dynamic result and the other channels rest (R4, R17). -/
theorem State.computeChannel_of_play {s : State} {c : Context} {p : PlayContext} (h : s.pe.state.playing = true)
    (hc : s.pe.ctx = some c) (hb : c.body = .play p) (ch : Nat) :
    s.computeChannel ch = match p.chans.idxOf? ch with
      | some j => s.playResult p s.pe.lam ch j
      | none => driveResult (s.drive ch) false 0 := by
  obtain ⟨tag, body, counted, overrun, cut, first, last, due⟩ := c
  obtain rfl : body = .play p := hb
  have hnt : s.pe.state ≠ .tripped := by rintro ht; simp [ht, EngineState.playing] at h
  simp only [State.computeChannel, hnt, h, hc, if_false, if_true]
  rfl

/-! ### Command histories (R127) -/

/-- A command enters in front, and the sixteenth place is lost. -/
theorem pushHistory_toList (h : Vector Int 16) (v : Int) : (pushHistory h v).toList = v :: h.toList.take 15 := by
  apply List.ext_getElem
  · simp
  · intro i hi _
    cases i with
    | zero => simp [pushHistory]
    | succ k =>
      have hk : k < 16 := by simp at hi; omega
      simp [pushHistory, hk]

/-- What channel `ch`'s history becomes when its command is recorded. -/
def State.historyAfter (s : State) (ch : Nat) : Vector Int 16 :=
  if (s.port ch).state = .engaged then pushHistory (s.limits ch).history (s.drive ch).lastOutput else (s.limits ch).history

theorem State.recordCommand_history_same (s : State) {ch : Nat} (h : ch < 16) :
    ((s.recordCommand ch).limits ch).history = s.historyAfter ch := by
  unfold State.recordCommand State.historyAfter
  split
  · rw [State.limits_setLimits_same s ch _ h]
  · rfl

theorem State.recordCommand_limits_other (s : State) {ch j : Nat} (h : j ≠ ch) :
    (s.recordCommand ch).limits j = s.limits j := by
  unfold State.recordCommand
  split
  · exact State.limits_setLimits_other s ch j _ h
  · rfl

theorem State.recordCommand_historyAfter_other (s : State) {ch j : Nat} (h : j ≠ ch) :
    (s.recordCommand ch).historyAfter j = s.historyAfter j := by
  unfold State.historyAfter
  rw [State.recordCommand_limits_other s h, State.port_congr j (s.recordCommand_cpc ch),
    State.drive_congr j (s.recordCommand_dcu ch)]

/-- Recording distinct channels' commands changes the listed channels' histories alone. -/
theorem State.foldl_recordCommand_history {j : Nat} (hj : j < 16) :
    ∀ (chs : List Nat) (s : State), chs.Nodup →
      ((chs.foldl State.recordCommand s).limits j).history
        = if j ∈ chs then s.historyAfter j else (s.limits j).history
  | [], _, _ => rfl
  | ch :: rest, s, hnd => by
    obtain ⟨hnot, hrest⟩ := List.nodup_cons.mp hnd
    rw [List.foldl_cons, State.foldl_recordCommand_history hj rest _ hrest]
    by_cases hjc : j = ch
    · subst hjc
      simp [hnot, State.recordCommand_history_same s hj]
    · simp [hjc, State.recordCommand_historyAfter_other s hjc, State.recordCommand_limits_other s hjc]

theorem State.recordHistory_history (s : State) {ch : Nat} (hch : ch < 16) :
    (s.recordHistory.limits ch).history = s.historyAfter ch := by
  rw [State.recordHistory, State.foldl_recordCommand_history hch allChannels s List.nodup_range]
  simp [allChannels, hch]

/-- Sending a record changes no port's state. -/
theorem State.sendRecord_port_state (s : State) {ch : Nat} (hch : ch < 16) (j : Nat) :
    ((s.sendRecord j).port ch).state = (s.port ch).state := by
  unfold State.sendRecord
  dsimp only
  split
  · by_cases h : ch = j
    · subst h
      rw [State.port_setPort_same s ch _ hch]
    · rw [State.port_setPort_other s j ch _ h]
  · rfl

theorem State.sendRecords_port_state (s : State) {ch : Nat} (hch : ch < 16) :
    (s.sendRecords.port ch).state = (s.port ch).state :=
  foldl_keeps (fun t => (t.port ch).state) _ (fun t j => t.sendRecord_port_state hch j) _ s

/-- The port stage of an update records the commands of the channels that its windows leave ENGAGED. -/
theorem State.portUpdate_history (s : State) (ts : List Trigger) (pos : Option Position) {ch : Nat} (hch : ch < 16) :
    ((s.portUpdate ts pos).limits ch).history
      = if ((s.portUpdate ts pos).port ch).state = .engaged then pushHistory (s.limits ch).history (s.drive ch).lastOutput
        else (s.limits ch).history := by
  unfold State.portUpdate
  have hlimits : (s.closeWindows.captureStage ts pos).limits ch = s.limits ch := State.limits_congr ch (by simp)
  have hdrive : (s.closeWindows.captureStage ts pos).drive ch = s.drive ch := State.drive_congr ch (by simp)
  rw [State.limits_congr ch (State.sendRecords_lm _), State.recordHistory_history _ hch, State.sendRecords_port_state _ hch,
    State.port_congr ch (State.recordHistory_cpc _), State.historyAfter, hlimits, hdrive]

/-- The histories after an update: the command of a channel then ENGAGED enters in front, every other history stands. -/
theorem State.raiseUpdate_history (s : State) {ch : Nat} (hch : ch < 16) :
    (s.raiseUpdate.limits ch).history
      = if (s.raiseUpdate.port ch).state = .engaged then pushHistory (s.limits ch).history (s.raiseUpdate.drive ch).lastOutput
        else (s.limits ch).history := by
  unfold State.raiseUpdate
  rw [State.portUpdate_history _ _ _ hch, State.engineUpdate_history, State.limits_congr ch s.countUpdate_lm,
    State.drive_congr ch (State.portUpdate_dcu _ _ _)]

end Sys2Proof.Machine
end

section
/-! The port stage of an update as the engine sees it, and the updates that play no clip: TRIPPED, RETURN and a DWELL. -/

namespace Sys2Proof.Machine

open Sys2Proof

/-! ### A fault as a window closes (R117) -/

/-- A TRIP keeps the context (R95). -/
theorem State.applyAction_trip_ctx (s : State) (cause : EngineCause) (channel : Option Nat) :
    (s.applyAction .trip cause channel).pe.ctx = s.pe.ctx := by
  unfold State.applyAction
  dsimp only
  split
  · simp [State.actionEffect, State.enterTripped_pe]
  · rfl

/-- A TRIP keeps the queue's entries (R95). -/
theorem State.applyAction_trip_entries (s : State) (cause : EngineCause) (channel : Option Nat) :
    (s.applyAction .trip cause channel).sq.entries = s.sq.entries := by
  unfold State.applyAction
  dsimp only
  split
  · simp [State.actionEffect, State.enterTripped, State.fireWatch_entries]
  · rfl

theorem State.faultChannel_ctx (s : State) (ch : Nat) (cause : FaultCause) : (s.faultChannel ch cause).pe.ctx = s.pe.ctx := by
  unfold State.faultChannel
  dsimp only
  split
  · rw [State.applyAction_trip_ctx]; simp
  · simp

theorem State.faultChannel_entries (s : State) (ch : Nat) (cause : FaultCause) :
    (s.faultChannel ch cause).sq.entries = s.sq.entries := by
  unfold State.faultChannel
  dsimp only
  split
  · rw [State.applyAction_trip_entries]; simp
  · simp

/-- In TRIPPED a fault sends the engine nothing (R117). -/
theorem State.faultChannel_pe_of_tripped {s : State} (h : s.pe.state = .tripped) (ch : Nat) (cause : FaultCause) :
    (s.faultChannel ch cause).pe = s.pe := by
  have hno : s.faultTrips ch = false := by simp [State.faultTrips, h, EngineState.playing]
  simp [State.faultChannel, hno]

/-- Everything the closing of a window can do: nothing, a change of the port, or a change of the port and a fault. -/
theorem State.closeWindow_cases (s : State) (ch : Nat) :
    ∃ p cause, s.closeWindow ch = s ∨ s.closeWindow ch = s.setPort ch p
      ∨ s.closeWindow ch = (s.setPort ch p).faultChannel ch cause := by
  unfold State.closeWindow
  dsimp only
  (repeat' split)
  case h_1 => exact ⟨Port.reset, .noLink, .inl rfl⟩
  all_goals first
    | exact ⟨_, .noLink, .inr (.inl rfl)⟩
    | exact ⟨_, _, .inr (.inr rfl)⟩

theorem State.closeWindow_ctx (s : State) (ch : Nat) : (s.closeWindow ch).pe.ctx = s.pe.ctx := by
  obtain ⟨p, cause, h | h | h⟩ := s.closeWindow_cases ch <;> simp [h, State.faultChannel_ctx]

theorem State.closeWindow_entries (s : State) (ch : Nat) : (s.closeWindow ch).sq.entries = s.sq.entries := by
  obtain ⟨p, cause, h | h | h⟩ := s.closeWindow_cases ch <;> simp [h, State.faultChannel_entries]

theorem State.closeWindow_pe_of_tripped {s : State} (hs : s.pe.state = .tripped) (ch : Nat) :
    (s.closeWindow ch).pe = s.pe := by
  obtain ⟨p, cause, h | h | h⟩ := s.closeWindow_cases ch
  · rw [h]
  · rw [h]; rfl
  · rw [h, State.faultChannel_pe_of_tripped (s := s.setPort ch p) hs]; rfl

/-! ### The port stage -/

theorem State.closeWindows_ctx (s : State) : s.closeWindows.pe.ctx = s.pe.ctx := by
  rw [State.closeWindows, foldl_keeps (fun t => t.pe.ctx) State.closeWindow State.closeWindow_ctx]

theorem State.closeWindows_entries (s : State) : s.closeWindows.sq.entries = s.sq.entries := by
  rw [State.closeWindows, foldl_keeps (fun t => t.sq.entries) State.closeWindow State.closeWindow_entries]

/-- The port stage of an update keeps the context. -/
theorem State.portUpdate_ctx (s : State) (ts : List Trigger) (pos : Option Position) :
    (s.portUpdate ts pos).pe.ctx = s.pe.ctx := by
  simp [State.portUpdate, State.closeWindows_ctx]

/-- The port stage of an update keeps the queue's entries. -/
theorem State.portUpdate_entries (s : State) (ts : List Trigger) (pos : Option Position) :
    (s.portUpdate ts pos).sq.entries = s.sq.entries := by
  simp [State.portUpdate, State.closeWindows_entries]

theorem State.foldl_closeWindow_pe_of_tripped :
    ∀ (chs : List Nat) {s : State}, s.pe.state = .tripped → (chs.foldl State.closeWindow s).pe = s.pe
  | [], _, _ => rfl
  | ch :: rest, s, h => by
    have hpe := State.closeWindow_pe_of_tripped h ch
    rw [List.foldl_cons, State.foldl_closeWindow_pe_of_tripped rest (by rw [hpe, h]), hpe]

/-- In TRIPPED the port stage of an update keeps the engine. -/
theorem State.portUpdate_pe_of_tripped {s : State} (h : s.pe.state = .tripped) (ts : List Trigger) (pos : Option Position) :
    (s.portUpdate ts pos).pe = s.pe := by
  have hclosed : s.closeWindows.pe = s.pe := State.foldl_closeWindow_pe_of_tripped allChannels h
  simp [State.portUpdate, hclosed]

/-- Whether channel `ch`'s window, if one is open, was answered. -/
def State.WindowAnswered (s : State) (ch : Nat) : Prop := ∀ w, (s.port ch).window = some w → w.answered = true

/-- An answered window closes without a fault: the ports alone change, and no other window opens. -/
theorem State.closeWindow_of_answered {s : State} {ch : Nat} (h : s.WindowAnswered ch) :
    ∃ ports, s.closeWindow ch = { s with cpc := ports }
      ∧ ∀ j, s.WindowAnswered j → (s.closeWindow ch).WindowAnswered j := by
  unfold State.closeWindow
  dsimp only
  split
  · exact ⟨s.cpc, rfl, fun _ hj => hj⟩
  · next w hw =>
    rw [if_pos (h w hw)]
    refine ⟨_, rfl, fun j hj => ?_⟩
    by_cases hjc : j = ch
    · subst hjc
      by_cases hb : j < 16
      · intro w' hw'
        rw [State.port_setPort_same s j _ hb] at hw'
        simp at hw'
      · simpa [State.WindowAnswered, State.port, State.setPort, hb] using hj
    · intro w' hw'
      rw [State.port_setPort_other s ch j _ hjc] at hw'
      exact hj w' hw'

theorem State.foldl_closeWindow_of_answered :
    ∀ (chs : List Nat) {s : State}, (∀ ch ∈ chs, s.WindowAnswered ch) →
      ∃ ports, chs.foldl State.closeWindow s = { s with cpc := ports }
  | [], s, _ => ⟨s.cpc, rfl⟩
  | ch :: rest, s, h => by
    obtain ⟨ports, hports, hkeep⟩ := State.closeWindow_of_answered (h ch List.mem_cons_self)
    obtain ⟨ports', hrest⟩ := State.foldl_closeWindow_of_answered rest
      (fun j hj => hkeep j (h j (List.mem_cons_of_mem ch hj)))
    exact ⟨ports', by rw [List.foldl_cons, hrest, hports]⟩

/-- With every window answered, their closing changes the ports alone. -/
theorem State.closeWindows_of_answered {s : State} (h : ∀ ch, ch < 16 → s.WindowAnswered ch) :
    ∃ ports, s.closeWindows = { s with cpc := ports } :=
  State.foldl_closeWindow_of_answered allChannels fun ch hch => h ch (by simpa [allChannels] using hch)

/-- With every window answered, the port stage changes nothing of the engine and the queue. -/
theorem State.portUpdate_of_answered {s : State} (h : ∀ ch, ch < 16 → s.WindowAnswered ch) (ts : List Trigger)
    (pos : Option Position) : (s.portUpdate ts pos).pe = s.pe ∧ (s.portUpdate ts pos).sq = s.sq := by
  obtain ⟨ports, hclosed⟩ := State.closeWindows_of_answered h
  simp [State.portUpdate, hclosed]

/-! ### The capture unit raises CAPTURE alone -/

theorem State.takeRecord_cause_other (s : State) (h : Header) (pos : Option Position) {e : Cause} (he : e ≠ .capture) :
    (s.takeRecord h pos).cause e = s.cause e := by
  unfold State.takeRecord
  dsimp only
  split
  · rw [State.completeCapture, State.raise_cause_other _ _ he]; rfl
  · rfl

theorem State.captureUpdate_cause_other (s : State) (pos : Option Position) {e : Cause} (he : e ≠ .capture) :
    (s.captureUpdate pos).cause e = s.cause e := by
  unfold State.captureUpdate
  split
  · split
    · exact State.takeRecord_cause_other s _ pos he
    · rfl
  · rfl

theorem State.captureTrigger_cause (s : State) (t : Trigger) (e : Cause) : (s.captureTrigger t).cause e = s.cause e :=
  State.cause_congr e (s.captureTrigger_eu t)

theorem State.lateTrigger_cause_other (s : State) (pos : Option Position) (t : Trigger) {e : Cause} (he : e ≠ .capture) :
    (s.lateTrigger pos t).cause e = s.cause e := by
  unfold State.lateTrigger
  dsimp only
  split
  · rw [State.takeRecord_cause_other _ _ _ he, State.captureTrigger_cause]
  · exact s.captureTrigger_cause t e

theorem State.captureStage_cause_other (s : State) (ts : List Trigger) (pos : Option Position) {e : Cause}
    (he : e ≠ .capture) : (s.captureStage ts pos).cause e = s.cause e := by
  have htriggers (l : List Trigger) : (l.foldl State.captureTrigger s).cause e = s.cause e :=
    foldl_keeps (fun t => t.cause e) State.captureTrigger (fun t x => t.captureTrigger_cause x e) l s
  unfold State.captureStage State.captureSplit
  split
  · rw [foldl_keeps (fun t => t.cause e) (State.lateTrigger pos) (fun t x => t.lateTrigger_cause_other pos x he),
      State.captureUpdate_cause_other _ _ he, htriggers]
  · rw [State.captureUpdate_cause_other _ _ he, htriggers]

/-- With every window answered, the port stage raises CAPTURE at most. -/
theorem State.portUpdate_cause_of_answered {s : State} (h : ∀ ch, ch < 16 → s.WindowAnswered ch) (ts : List Trigger)
    (pos : Option Position) {e : Cause} (he : e ≠ .capture) : (s.portUpdate ts pos).cause e = s.cause e := by
  obtain ⟨ports, hclosed⟩ := State.closeWindows_of_answered h
  unfold State.portUpdate
  rw [State.cause_congr e (State.sendRecords_eu _), State.cause_congr e (State.recordHistory_eu _),
    State.captureStage_cause_other _ _ _ he, hclosed]
  rfl

/-! ### Updates whose channels all rest (R17 to R19) -/

/-- No clip plays: the engine is in a state that plays nothing, or its context is a DWELL. -/
def State.Rests (s : State) : Prop := s.pe.state.playing = true → ∀ c, s.pe.ctx = some c → ∃ e, c.body = .dwell e

/-- Where no clip plays, no result is dynamic (R17 to R19). -/
theorem State.computeChannel_dynamic_of_rests {s : State} (h : s.Rests) (ch : Nat) : (s.computeChannel ch).dynamic = false := by
  unfold State.computeChannel
  split
  · rfl
  · split
    · next hplay =>
      split
      · next hctx =>
        obtain ⟨e, he⟩ := h hplay _ hctx
        cases he
      · rfl
    · rfl

/-- A result that is not dynamic writes the drive record alone. -/
theorem State.handOn_of_rest (s : State) {cr : Nat × DriveResult} (h : cr.2.dynamic = false) :
    s.handOn cr = s.setDrive cr.1 { s.drive cr.1 with lastOutput := cr.2.command } := by
  simp [State.handOn, h]

theorem State.foldl_handOn_of_rest :
    ∀ (results : List (Nat × DriveResult)) (s : State), (∀ cr ∈ results, cr.2.dynamic = false) →
      ∃ d, results.foldl State.handOn s = { s with dcu := d }
  | [], s, _ => ⟨s.dcu, rfl⟩
  | cr :: rest, s, h => by
    obtain ⟨d, hd⟩ := State.foldl_handOn_of_rest rest (s.handOn cr) (fun x hx => h x (List.mem_cons_of_mem cr hx))
    exact ⟨d, by rw [List.foldl_cons, hd, s.handOn_of_rest (h cr List.mem_cons_self)]; rfl⟩

/-- Where no clip plays, the commands of an update change the Drive Computation Unit alone. -/
theorem State.handOnAll_of_rests {s : State} (h : s.Rests) (u : State) :
    ∃ d, s.computeAll.foldl State.handOn u = { u with dcu := d } := by
  apply State.foldl_handOn_of_rest
  rw [State.computeAll_eq]
  intro cr hcr
  obtain ⟨ch, -, rfl⟩ := List.mem_map.mp hcr
  exact State.computeChannel_dynamic_of_rests h ch

/-! ### TRIPPED (R18) -/

/-- A drive record written as it stands changes nothing. -/
theorem State.setDrive_drive (s : State) (ch : Nat) : s.setDrive ch (s.drive ch) = s := by
  have hvec : s.dcu.drives.setIfInBounds ch (s.drive ch) = s.dcu.drives := by
    ext i hi
    by_cases h : ch = i
    · subst h
      simp [State.drive, hi]
    · simp [h]
  simp [State.setDrive, hvec]

theorem State.foldl_handOn_held :
    ∀ (results : List (Nat × DriveResult)) {s : State},
      (∀ cr ∈ results, cr.2.dynamic = false ∧ cr.2.command = (s.drive cr.1).lastOutput) → results.foldl State.handOn s = s
  | [], _, _ => rfl
  | cr :: rest, s, h => by
    obtain ⟨hdyn, hcommand⟩ := h cr List.mem_cons_self
    have hheld : s.handOn cr = s := by rw [s.handOn_of_rest hdyn, hcommand]; exact s.setDrive_drive cr.1
    rw [List.foldl_cons, hheld, State.foldl_handOn_held rest (fun x hx => h x (List.mem_cons_of_mem cr hx))]

/-- In TRIPPED the engine's handling of an update changes nothing (R18). -/
theorem State.engineUpdate_of_tripped {s : State} (h : s.pe.state = .tripped) : s.engineUpdate = s := by
  have hplays : s.plays = false := by simp [State.plays, h, EngineState.playing]
  have hheld : s.computeAll.foldl State.handOn s = s := by
    apply State.foldl_handOn_held
    rw [State.computeAll_eq]
    intro cr hcr
    obtain ⟨ch, -, rfl⟩ := List.mem_map.mp hcr
    exact ⟨by simp [State.computeChannel, h], State.computeChannel_tripped h ch⟩
  simp [State.engineUpdate, hplays, State.restUpdate, hheld, h]

/-- An update: the count, the engine's handling, and the port stage with the engine's triggers and position (R98). -/
theorem State.raiseUpdate_eq (s : State) :
    s.raiseUpdate = s.countUpdate.engineUpdate.portUpdate s.countUpdate.updateTriggers s.countUpdate.position := rfl

/-- An update in TRIPPED keeps the commands, and of the engine all but the counter and its moments (R18). -/
theorem State.raiseUpdate_of_tripped {s : State} (h : s.pe.state = .tripped) :
    s.raiseUpdate.dcu = s.dcu ∧ s.raiseUpdate.pe = s.countUpdate.pe := by
  rw [State.raiseUpdate_eq, State.engineUpdate_of_tripped (s := s.countUpdate) h]
  exact ⟨by simp, State.portUpdate_pe_of_tripped (s := s.countUpdate) h _ _⟩

/-! ### RETURN (R19, R97) -/

theorem State.enterState_pe (s : State) (new : EngineState) (cause : Option EngineCause) :
    (s.enterState new cause).pe = { s.pe with state := new } := by
  simp [State.enterState]

theorem State.enterStopped_pe (s : State) (new : EngineState) (cause : Option EngineCause) :
    (s.enterStopped new cause).pe = { s.pe with state := new } := by
  simp [State.enterStopped, State.enterState_pe]

/-- The raising of ENGINE as the engine stops tells the state left, the state entered and the cause (R103). -/
theorem State.enterStopped_engine_detail (s : State) (new : EngineState) (cause : Option EngineCause) :
    ((s.enterStopped new cause).cause .engine).detail = some (.engine s.pe.state new cause) := by
  rw [State.enterStopped, State.fireWatch_cause_other _ (by decide), State.enterState, State.raise_cause_same]

/-- Every computed channel is at its target, channel by channel (R19). -/
theorem State.allAtTarget_computeAll (s : State) :
    allAtTarget s.computeAll = true
      ↔ ∀ ch, ch < 16 → (s.port ch).state = .engaged → (s.computeChannel ch).command = (s.computeChannel ch).target := by
  simp [allAtTarget, State.computeAll_eq, State.mem_engagedChannels]

/-- The engine's handling of an update in RETURN: the drive records, and IDLE when every channel is there (R19, R97). -/
theorem State.engineUpdate_of_returning {s : State} (h : s.pe.state = .returning) :
    ∃ d, s.engineUpdate
      = if allAtTarget s.computeAll then State.enterStopped { s with dcu := d } .idle none else { s with dcu := d } := by
  have hplays : s.plays = false := by simp [State.plays, h, EngineState.playing]
  have hrests : s.Rests := fun hp => by simp [h, EngineState.playing] at hp
  obtain ⟨d, hd⟩ := State.handOnAll_of_rests hrests s
  exact ⟨d, by simp [State.engineUpdate, hplays, State.restUpdate, hd, h]⟩

/-- An update in RETURN, every window answered, with every channel at its clamped offset (R97). -/
theorem State.raiseUpdate_returned {s : State} (h : s.pe.state = .returning) (hw : ∀ ch, ch < 16 → s.WindowAnswered ch)
    (hall : allAtTarget s.countUpdate.computeAll = true) :
    s.raiseUpdate.pe.state = .idle ∧ (s.raiseUpdate.cause .engine).detail = some (.engine .returning .idle none)
      ∧ s.raiseUpdate.sq.watch = false := by
  obtain ⟨d, hd⟩ := State.engineUpdate_of_returning (s := s.countUpdate) h
  rw [if_pos hall] at hd
  have hanswered : ∀ ch, ch < 16 → s.countUpdate.engineUpdate.WindowAnswered ch := by
    intro ch hch w hport
    rw [hd, State.port_congr ch (State.enterStopped_cpc _ _ _)] at hport
    exact hw ch hch w hport
  obtain ⟨hpe, hsq⟩ := State.portUpdate_of_answered hanswered s.countUpdate.updateTriggers s.countUpdate.position
  rw [State.raiseUpdate_eq, hpe, hsq, State.portUpdate_cause_of_answered hanswered _ _ (by decide), hd, State.enterStopped_pe,
    State.enterStopped_engine_detail]
  exact ⟨rfl, by rw [← h]; rfl, State.fireWatch_watch _⟩

/-- An update in RETURN, every window answered, with a channel still under way (R97). -/
theorem State.raiseUpdate_returning {s : State} (h : s.pe.state = .returning) (hw : ∀ ch, ch < 16 → s.WindowAnswered ch)
    (hall : allAtTarget s.countUpdate.computeAll = false) :
    s.raiseUpdate.pe.state = .returning ∧ s.raiseUpdate.cause .engine = s.cause .engine ∧ s.raiseUpdate.sq = s.sq := by
  obtain ⟨d, hd⟩ := State.engineUpdate_of_returning (s := s.countUpdate) h
  rw [if_neg (by simp [hall])] at hd
  have hanswered : ∀ ch, ch < 16 → s.countUpdate.engineUpdate.WindowAnswered ch := by
    intro ch hch w hport
    rw [hd] at hport
    exact hw ch hch w hport
  obtain ⟨hpe, hsq⟩ := State.portUpdate_of_answered hanswered s.countUpdate.updateTriggers s.countUpdate.position
  rw [State.raiseUpdate_eq, hpe, hsq, State.portUpdate_cause_of_answered hanswered _ _ (by decide), hd]
  exact ⟨h, rfl, rfl⟩

end Sys2Proof.Machine
end

section
/-! An update that the engine plays: the ramp step, the stamps, the visit statistics, the cut of a mark unit, and the advance of
the position (R75, R78, R87). -/

namespace Sys2Proof.Machine

open Sys2Proof

/-! ### The ramp step (R75) -/

/-- The engine after the ramp step of an update. -/
def Engine.ramped (e : Engine) : Engine :=
  match e.state with
  | .rampIn =>
    { e with lam := rampUp e.lam e.ri, state := if rampUp e.lam e.ri = Config.fullRamp then .running else .rampIn }
  | .rampOut => { e with lam := rampDown e.lam e.ro }
  | _ => e

theorem State.rampStep_pe (s : State) : s.rampStep.pe = s.pe.ramped := by
  cases h : s.pe.state <;> simp only [State.rampStep, Engine.ramped, h]
  case rampIn => split <;> simp [State.enterState_pe]
  case rampOut => simp

theorem Engine.ramped_ctx (e : Engine) : e.ramped.ctx = e.ctx := by
  unfold Engine.ramped
  split <;> rfl

theorem Engine.ramped_counter (e : Engine) : e.ramped.counter = e.counter := by
  unfold Engine.ramped
  split <;> rfl

/-- The ramp step keeps a playing engine playing, and RAMP_OUT apart from the other two states. -/
theorem Engine.ramped_state {e : Engine} (h : e.state.playing = true) :
    e.ramped.state.playing = true ∧ (e.ramped.state = .rampOut ↔ e.state = .rampOut) := by
  unfold Engine.ramped
  split
  · next he => rw [he]; dsimp only; split <;> decide
  · exact ⟨h, Iff.rfl⟩
  · exact ⟨h, Iff.rfl⟩

/-- λ at an update, by engine state (R75). -/
theorem Engine.ramped_lam {e : Engine} {lam : Nat}
    (h : e.state = .rampIn ∧ lam = min 65536 (e.lam + (65536 + (e.ri - 1)) / e.ri) ∨ e.state = .running ∧ lam = e.lam
      ∨ e.state = .rampOut ∧ lam = e.lam - (65536 + (e.ro - 1)) / e.ro) : e.ramped.lam = lam := by
  unfold Engine.ramped
  rcases h with ⟨he, rfl⟩ | ⟨he, rfl⟩ | ⟨he, rfl⟩ <;> rw [he] <;> rfl

/-! ### The first stamps (R78) -/

/-- A context with its visit's first update stamped. -/
def Context.stamped (c : Context) (stamp : Nat) : Context := { c with firstUpdate := some (c.firstUpdate.getD stamp) }

theorem Context.stamped_of_isSome {c : Context} (h : c.firstUpdate.isSome = true) (stamp : Nat) : c.stamped stamp = c := by
  obtain ⟨first, hf⟩ := Option.isSome_iff_exists.mp h
  rw [Context.stamped, hf, Option.getD_some, ← hf]

/-- After the visit's first update the stamps stand. -/
theorem State.stampFirst_of_stamped {s : State} {c : Context} (hc : s.pe.ctx = some c) (hf : c.firstUpdate.isSome = true) :
    s.stampFirst = s := by
  simp [State.stampFirst, hc, hf]

/-- The visit's first update stamps the context, and the entry unless it has an older stamp. -/
theorem State.stampFirst_of_unstamped {s : State} {c : Context} (hc : s.pe.ctx = some c) (hf : c.firstUpdate = none) :
    s.stampFirst = (s.mapHeld fun r => { r with firstStamp := some (r.firstStamp.getD s.pe.counter) }).setCtx
      (some (c.stamped s.pe.counter)) := by
  have hold (r : Runtime) :
      (if r.firstStamp.isSome then r.firstStamp else some s.pe.counter) = some (r.firstStamp.getD s.pe.counter) := by
    cases r.firstStamp <;> rfl
  simp [State.stampFirst, hc, hf, hold, Context.stamped]

theorem State.stampFirst_pe {s : State} {c : Context} (hc : s.pe.ctx = some c) :
    s.stampFirst.pe = { s.pe with ctx := some (c.stamped s.pe.counter) } := by
  cases hf : c.firstUpdate with
  | some first =>
    have hsome : c.firstUpdate.isSome = true := by rw [hf]; rfl
    rw [State.stampFirst_of_stamped hc hsome, Context.stamped_of_isSome hsome, ← hc]
  | none => rw [State.stampFirst_of_unstamped hc hf]; simp

theorem Entry.mapRuntime_self (e : Entry) : (e.mapRuntime fun r => r) = e := by
  obtain ⟨tag, body⟩ := e
  cases body <;> rfl

/-- The entry played carries the visit's first stamp unless it has an older one (R78). -/
theorem State.stampFirst_sq {s : State} {c : Context} (hc : s.pe.ctx = some c) :
    s.stampFirst.sq = { s.sq with entries := s.sq.entries.modify s.sq.cursor fun e => e.mapRuntime fun r =>
      if c.firstUpdate.isSome then r else { r with firstStamp := some (r.firstStamp.getD s.pe.counter) } } := by
  cases hf : c.firstUpdate with
  | some first =>
    have hsome : c.firstUpdate.isSome = true := by rw [hf]; rfl
    have hsame : (fun e : Entry => e.mapRuntime fun r => r) = id := funext Entry.mapRuntime_self
    simp [State.stampFirst_of_stamped hc hsome, hsame]
  | none => rw [State.stampFirst_of_unstamped hc hf]; rfl

end Sys2Proof.Machine
end

section
/-! The stages of a played update one by one: results handed on while the engine plays, mark units, and the advance within a
pass. -/

namespace Sys2Proof.Machine

open Sys2Proof

/-! ### The visit statistics of a context -/

/-- A context with its visit records changed. -/
def Context.mapStats (c : Context) (f : StatRecord → StatRecord) : Context :=
  match c.body with
  | .play p => { c with body := .play { p with stats := p.stats.map f } }
  | .dwell _ => c

theorem Context.mapStats_id (c : Context) : c.mapStats id = c := by
  obtain ⟨tag, body, counted, overrun, cut, first, last, due⟩ := c
  cases body <;> simp [Context.mapStats]

theorem Context.mapStats_mapStats (c : Context) (f g : StatRecord → StatRecord) :
    (c.mapStats f).mapStats g = c.mapStats fun r => g (f r) := by
  obtain ⟨tag, body, counted, overrun, cut, first, last, due⟩ := c
  cases body <;> simp [Context.mapStats]

theorem State.mapStat_pe (s : State) (ch : Nat) (f : StatRecord → StatRecord) :
    (s.mapStat ch f).pe = { s.pe with ctx := s.pe.ctx.map (·.mapStats fun r => if r.channel == ch then f r else r) } := by
  cases hc : s.pe.ctx with
  | none =>
    simp only [State.mapStat, hc]
    rw [Option.map_none, ← hc]
  | some c =>
    cases hb : c.body with
    | play p => simp [State.mapStat, hc, hb, Context.mapStats]
    | dwell e =>
      simp only [State.mapStat, hc, hb, Option.map_some, Context.mapStats]
      rw [← hc]

/-! ### A playing engine that goes on playing -/

/-- From `s` to `t` the engine plays on: its context changes by `f` on the visit records alone, and queue and counter stand. -/
structure State.PlaysOn (s : State) (f : StatRecord → StatRecord) (t : State) : Prop where
  playing : t.pe.state.playing = true
  ctx : t.pe.ctx = s.pe.ctx.map (·.mapStats f)
  counter : t.pe.counter = s.pe.counter
  queue : t.sq = s.sq

theorem State.PlaysOn.of_same {s t : State} (h : t.pe.state.playing = true) (hctx : t.pe.ctx = s.pe.ctx)
    (hcounter : t.pe.counter = s.pe.counter) (hsq : t.sq = s.sq) : s.PlaysOn id t :=
  ⟨h, by rw [hctx]; cases s.pe.ctx <;> simp [Context.mapStats_id], hcounter, hsq⟩

theorem State.PlaysOn.trans {s t u : State} {f g : StatRecord → StatRecord} (h : s.PlaysOn f t) (h' : t.PlaysOn g u) :
    s.PlaysOn (fun r => g (f r)) u :=
  ⟨h'.playing, by rw [h'.ctx, h.ctx]; cases s.pe.ctx <;> simp [Context.mapStats_mapStats], h'.counter.trans h.counter,
    h'.queue.trans h.queue⟩

theorem State.enterRampOut_playsOn (s : State) (target : Target) (cause : EngineCause) :
    s.PlaysOn id (s.enterRampOut target cause) := by
  apply State.PlaysOn.of_same <;> simp [State.enterRampOut, State.enterState_pe, EngineState.playing]

/-- While the engine plays, an action other than TRIP lets it play on, in RAMP_OUT at most (R85). -/
theorem State.actionEffect_playsOn {s : State} {a : Action} (h : s.pe.state.playing = true) (ha : a ≠ .trip)
    (cause : EngineCause) (channel : Option Nat) : s.PlaysOn id (s.actionEffect a cause channel) := by
  cases a with
  | note => exact .of_same h rfl rfl rfl
  | trip => exact absurd rfl ha
  | pause => exact s.enterRampOut_playsOn .paused cause
  | stop =>
    unfold State.actionEffect
    dsimp only
    split
    · exact .of_same h rfl rfl rfl
    · next hpaused => simp [hpaused, EngineState.playing] at h
    · exact s.enterRampOut_playsOn .idle cause

theorem State.applyAction_playsOn {s : State} {a : Action} (h : s.pe.state.playing = true) (ha : a ≠ .trip)
    (cause : EngineCause) (channel : Option Nat) : s.PlaysOn id (s.applyAction a cause channel) := by
  unfold State.applyAction
  dsimp only
  have hrecorded (e : Option LastAction) : s.PlaysOn id (s.setPe { s.pe with lastAction := e }) := .of_same h rfl rfl rfl
  split
  · refine (hrecorded _).trans (State.actionEffect_playsOn ?_ ha cause channel)
    exact h
  · exact hrecorded _

theorem State.fireDetector_playsOn {s : State} {r : LimitRecord} (h : s.pe.state.playing = true) (ha : r.action ≠ .trip) :
    s.PlaysOn id (s.fireDetector r) := by
  have hraised : s.PlaysOn id (s.raise .limit (some (.limit r))) := by
    apply State.PlaysOn.of_same <;> simp [h]
  unfold State.fireDetector
  dsimp only
  split
  · exact hraised
  · exact hraised.trans (State.applyAction_playsOn hraised.playing ha _ _)

/-- CLAMP_RATE lets the engine play on unless its action is TRIP. -/
theorem State.evalClamp_playsOn {s : State} (h : s.pe.state.playing = true) {ch : Nat}
    (ha : (s.limits ch).config.clamp.action ≠ .trip) : s.PlaysOn id (s.evalClamp ch) := by
  unfold State.evalClamp
  dsimp only
  have hset (l : ChannelLimits) : s.PlaysOn id (s.setLimits ch l) := .of_same h rfl rfl rfl
  split
  · split
    · exact (hset _).trans (State.fireDetector_playsOn (hset _).playing ha)
    · exact hset _
  · exact .of_same h rfl rfl rfl

/-- CLAMP_RATE changes nothing of the engine when its action is NOTE, or it is not enabled. -/
theorem State.evalClamp_pe_of_note {s : State} {ch : Nat}
    (h : (s.limits ch).config.clamp.enable = true → (s.limits ch).config.clamp.action = .note) :
    (s.evalClamp ch).pe = s.pe := by
  unfold State.evalClamp
  dsimp only
  split
  · next hen =>
    split
    · simp [State.fireDetector, h hen]
    · rfl
  · rfl

/-! ### Results handed on while the engine plays (R6, R13, R15) -/

/-- What the handing on of a result makes of a visit record. -/
def handedStat (st : StatRecord) (cr : Nat × DriveResult) : StatRecord :=
  if cr.2.dynamic = true ∧ st.channel = cr.1 then countIndications cr.2 st else st

theorem State.handOn_playsOn {s : State} (h : s.pe.state.playing = true) (cr : Nat × DriveResult)
    (ha : (s.limits cr.1).config.clamp.action ≠ .trip) : s.PlaysOn (handedStat · cr) (s.handOn cr) := by
  obtain ⟨ch, r⟩ := cr
  have hdrive : s.PlaysOn id (s.setDrive ch { s.drive ch with lastOutput := r.command }) := .of_same h rfl rfl rfl
  cases hd : r.dynamic with
  | false =>
    rw [s.handOn_of_rest hd]
    have hid : (handedStat · (ch, r)) = id := by funext st; simp [handedStat, hd]
    rw [hid]
    exact hdrive
  | true =>
    have hcounted : s.PlaysOn (handedStat · (ch, r))
        ((s.setDrive ch { s.drive ch with lastOutput := r.command }).mapStat ch (countIndications r)) :=
      ⟨by rw [State.mapStat_pe]; exact h, by rw [State.mapStat_pe]; simp [handedStat, hd], by rw [State.mapStat_pe]; rfl,
        by simp⟩
    simp only [State.handOn, hd, if_true, Bool.true_and]
    split
    · refine hcounted.trans (State.evalClamp_playsOn hcounted.playing ?_)
      rw [State.limits_congr ch (State.mapStat_lm _ _ _)]
      exact ha
    · exact hcounted

theorem State.handOn_state_of_note {s : State} (cr : Nat × DriveResult)
    (h : (s.limits cr.1).config.clamp.enable = true → (s.limits cr.1).config.clamp.action = .note) :
    (s.handOn cr).pe.state = s.pe.state := by
  have hnote (u : State) (hu : u.lm = s.lm) :
      (u.limits cr.1).config.clamp.enable = true → (u.limits cr.1).config.clamp.action = .note := by
    rw [State.limits_congr cr.1 hu]
    exact h
  unfold State.handOn
  dsimp only
  split
  · rw [State.evalClamp_pe_of_note (hnote _ (by split <;> simp))]
    split <;> simp [State.mapStat_pe]
  · split <;> simp [State.mapStat_pe]

theorem State.foldl_handOn_playsOn :
    ∀ (results : List (Nat × DriveResult)) {s : State}, s.pe.state.playing = true →
      (∀ ch, (s.limits ch).config.clamp.action ≠ .trip) →
      s.PlaysOn (fun st => results.foldl handedStat st) (results.foldl State.handOn s)
  | [], _, h, _ => .of_same h rfl rfl rfl
  | cr :: rest, s, h, ha => by
    have hone := State.handOn_playsOn h cr (ha cr.1)
    have hconfig (ch : Nat) : ((s.handOn cr).limits ch).config.clamp.action ≠ .trip := by
      rw [(s.handOn_clampsAlone cr).config]
      exact ha ch
    exact hone.trans (State.foldl_handOn_playsOn rest hone.playing hconfig)

theorem State.foldl_handOn_state_of_note :
    ∀ (results : List (Nat × DriveResult)) {s : State},
      (∀ ch, (s.limits ch).config.clamp.enable = true → (s.limits ch).config.clamp.action = .note) →
      (results.foldl State.handOn s).pe.state = s.pe.state
  | [], _, _ => rfl
  | cr :: rest, s, h => by
    rw [List.foldl_cons, State.foldl_handOn_state_of_note rest, State.handOn_state_of_note cr (h cr.1)]
    intro ch
    rw [(s.handOn_clampsAlone cr).config]
    exact h ch

/-- Results handed on for distinct channels: a record counts its own channel's indications, when that result is dynamic. -/
theorem foldl_handedStat (f : Nat → DriveResult) :
    ∀ (chs : List Nat) (st : StatRecord), chs.Nodup →
      (chs.map fun ch => (ch, f ch)).foldl handedStat st
        = if st.channel ∈ chs ∧ (f st.channel).dynamic = true then countIndications (f st.channel) st else st
  | [], _, _ => by simp
  | ch :: rest, st, hnd => by
    obtain ⟨hnot, hrest⟩ := List.nodup_cons.mp hnd
    have hchannel : (handedStat st (ch, f ch)).channel = st.channel := by unfold handedStat; split <;> rfl
    rw [List.map_cons, List.foldl_cons, foldl_handedStat f rest _ hrest, hchannel]
    by_cases hst : st.channel = ch
    · subst hst
      simp [hnot, handedStat]
    · simp [hst, handedStat]

/-! ### The mark units (R145 to R151) -/

/-- The engine after a mark unit's cut: taken in RAMP_IN and RUNNING (R92). -/
def Engine.cut (e : Engine) : Engine :=
  match e.state with
  | .rampIn => { e with ctx := e.ctx.map fun c => { c with cut := true } }
  | .running => { e with ctx := e.ctx.map fun c => { c with cut := true } }
  | _ => e

theorem State.markCut_pe (s : State) : s.markCut.pe = s.pe.cut := by
  cases h : s.pe.state <;> simp [State.markCut, State.setCut, Engine.cut, h]

theorem Engine.cut_state (e : Engine) : e.cut.state = e.state := by
  unfold Engine.cut
  split <;> rfl

theorem Engine.cut_counter (e : Engine) : e.cut.counter = e.counter := by
  unfold Engine.cut
  split <;> rfl

theorem Engine.cut_cut (e : Engine) : e.cut.cut = e.cut := by
  cases h : e.state <;> simp [Engine.cut, h]
  all_goals rfl

/-- A cut marks the context of an engine that plays outside RAMP_OUT. -/
theorem Engine.cut_ctx {e : Engine} {c : Context} (hp : e.state.playing = true) (hc : e.ctx = some c) :
    e.cut.ctx = some { c with cut := c.cut || decide (e.state ≠ .rampOut) } := by
  cases h : e.state <;> simp [h, EngineState.playing] at hp <;> simp [Engine.cut, h, hc]

/-- Whether a unit's match at a position cuts the pass (R151). -/
def MarkUnit.cuts (u : MarkUnit) (p : PlayPosition) : Bool := u.isMatch p && u.trigCut

theorem State.markCompare_pe (p : PlayPosition) (s : State) (m : Nat) :
    (s.markCompare p m).pe = if (s.mark m).cuts p then s.pe.cut else s.pe := by
  unfold State.markCompare MarkUnit.cuts
  dsimp only
  cases (s.mark m).isMatch p
  · rfl
  · cases (s.mark m).trigCut <;> cases (s.mark m).trigNotify <;> simp [State.markCut_pe]

theorem State.markCompare_mark_other (p : PlayPosition) (s : State) {m j : Nat} (h : j ≠ m) :
    (s.markCompare p m).mark j = s.mark j := by
  have hmu : (s.markCompare p m).mu = (s.setMark m { s.mark m with output := (s.mark m).levelAfter p }).mu := by
    unfold State.markCompare
    dsimp only
    (repeat' split) <;> simp
  rw [State.mark_congr j hmu, State.mark_setMark_other s m j _ h]

/-- The units handle a position one by one: the pass is cut once one of them cuts it. -/
theorem State.foldl_markCompare_pe (p : PlayPosition) :
    ∀ (ms : List Nat) (s : State), ms.Nodup →
      (ms.foldl (State.markCompare p) s).pe = if ms.any (fun m => (s.mark m).cuts p) then s.pe.cut else s.pe
  | [], _, _ => rfl
  | m :: rest, s, hnd => by
    obtain ⟨hnot, hrest⟩ := List.nodup_cons.mp hnd
    have hmark (j : Nat) (hj : j ∈ rest) : (s.markCompare p m).mark j = s.mark j :=
      State.markCompare_mark_other p s (by rintro rfl; exact hnot hj)
    have hothers : rest.any (fun j => ((s.markCompare p m).mark j).cuts p) = rest.any (fun j => (s.mark j).cuts p) := by
      rw [Bool.eq_iff_iff, List.any_eq_true, List.any_eq_true]
      exact exists_congr fun j => and_congr_right fun hj => by rw [hmark j hj]
    rw [List.foldl_cons, State.foldl_markCompare_pe p rest _ hrest, hothers, State.markCompare_pe, List.any_cons]
    cases (s.mark m).cuts p <;> cases rest.any (fun j => (s.mark j).cuts p) <;> simp [Engine.cut_cut]

/-- The mark units' handling of an update, as the engine sees it. -/
theorem State.markStage_pe {s : State} {p : PlayPosition} (h : s.playPosition = some p) :
    s.markStage.pe = if allMarks.any (fun m => (s.mark m).cuts p) then s.pe.cut else s.pe := by
  rw [State.markStage, h]
  exact State.foldl_markCompare_pe p allMarks s List.nodup_range

/-- The mark units a match of which cuts the pass are those that the next update hits with CUT among their triggers. -/
theorem State.any_cuts_iff_marksHit {s : State} {c : Context} {p : PlayContext} (hp : s.pe.state.playing = true)
    (hc : s.pe.ctx = some c) (hb : c.body = .play p) :
    allMarks.any (fun m => (s.mark m).cuts { clip := p.clip, u := p.u }) = true
      ↔ ∃ m ∈ s.marksHit, (s.mark m).trigCut = true := by
  obtain ⟨tag, body, counted, overrun, cut, first, last, due⟩ := c
  obtain rfl : body = .play p := hb
  have hselects (u : MarkUnit) : u.selects p.clip = true ↔ u.selector.getD p.clip = p.clip := by
    unfold MarkUnit.selects
    cases u.selector <;> simp
  have hstate := (playing_iff _).mp hp
  simp only [State.marksHit, State.marksAt, hc, if_pos hstate]
  simp [MarkUnit.cuts, MarkUnit.isMatch, hselects, allMarks, and_assoc]

/-! ### The advance within a pass (R87) -/

/-- Where no pass ends, the position advances by one. -/
theorem State.advanceStage_of_inPass {s : State} {c : Context} (hp : s.pe.state.playing = true) (hc : s.pe.ctx = some c)
    (hin : s.passLength c > c.elapsed + 1) : s.advanceStage = s.setCtx (some c.advanced) := by
  have hend : s.advanceEndsPass c = false := by simpa [State.advanceEndsPass] using hin
  simp [State.advanceStage, hc, hp, hend]

/-- A played update as far as the mark units' handling (R87, steps 1 to 3). -/
def State.marked (s : State) : State :=
  (s.rampStep.stampFirst.computeAll.foldl State.handOn s.rampStep.stampFirst.dropCaptureDue).markStage

/-- A played update within a pass, whose ramp-out does not end: the context is stamped and its position advances. -/
theorem State.playedUpdate_of_inPass {s : State} {x : Context}
    (hramp : ¬ (s.rampStep.stampFirst.pe.state = .rampOut ∧ s.rampStep.stampFirst.pe.lam = 0))
    (hp : s.marked.pe.state.playing = true) (hc : s.marked.pe.ctx = some x) (hin : s.marked.passLength x > x.elapsed + 1) :
    s.playedUpdate.pe.ctx = some (Context.advanced { x with lastUpdate := some s.marked.pe.counter })
      ∧ s.playedUpdate.sq = s.marked.sq := by
  have hplayed : s.playedUpdate = s.marked.stampLast.advanceStage := by
    unfold State.playedUpdate
    dsimp only
    rw [if_neg fun h => hramp h.1]
    rfl
  have hlast : s.marked.stampLast.pe.ctx = some { x with lastUpdate := some s.marked.pe.counter } := by
    simp [State.stampLast, hc]
  have hlength : s.marked.stampLast.passLength { x with lastUpdate := some s.marked.pe.counter } = s.marked.passLength x := by
    simp [State.passLength, State.cursorEntry]
  rw [hplayed, State.advanceStage_of_inPass (by simpa [State.stampLast] using hp) hlast (by rw [hlength]; exact hin)]
  exact ⟨by simp, by simp⟩

end Sys2Proof.Machine
end

section
/-! The commands of an update in every engine state, and the advance of the position where no pass ends. -/

namespace Sys2Proof.Machine

open Sys2Proof

/-! ### The state from which a played update computes (R75, R78) -/

theorem State.plays_of_ctx {s : State} {c : Context} (hp : s.pe.state.playing = true) (hc : s.pe.ctx = some c) :
    s.plays = true := by
  simp [State.plays, hp, hc]

/-- After the ramp step and the first stamps: λ of this update, and the context stamped. -/
theorem State.stamped_pe {s : State} {c : Context} (hc : s.pe.ctx = some c) :
    s.rampStep.stampFirst.pe = { s.pe.ramped with ctx := some (c.stamped s.pe.counter) } := by
  have hctx : s.rampStep.pe.ctx = some c := by rw [State.rampStep_pe, Engine.ramped_ctx, hc]
  rw [State.stampFirst_pe hctx, State.rampStep_pe, Engine.ramped_counter]

/-- The queue after the ramp step and the first stamps. -/
theorem State.stamped_sq {s : State} {c : Context} (hc : s.pe.ctx = some c) :
    s.rampStep.stampFirst.sq = { s.sq with entries := s.sq.entries.modify s.sq.cursor fun e => e.mapRuntime fun r =>
      if c.firstUpdate.isSome then r else { r with firstStamp := some (r.firstStamp.getD s.pe.counter) } } := by
  have hctx : s.rampStep.pe.ctx = some c := by rw [State.rampStep_pe, Engine.ramped_ctx, hc]
  rw [State.stampFirst_sq hctx, State.rampStep_pe, Engine.ramped_counter, State.rampStep_sq]

/-- The state that the results are handed on in, as the engine sees it: the visit's capture trigger is made. -/
theorem State.dropped_pe {s : State} {c : Context} (hc : s.pe.ctx = some c) :
    s.rampStep.stampFirst.dropCaptureDue.pe
      = { s.pe.ramped with ctx := some { c.stamped s.pe.counter with captureDue := false } } := by
  simp [State.dropCaptureDue, State.stamped_pe hc]

/-- The count of an update leaves the ramp's λ. -/
theorem State.countUpdate_ramped_lam (s : State) : s.countUpdate.pe.ramped.lam = s.pe.ramped.lam := by
  cases h : s.pe.state <;> simp [State.countUpdate, Engine.ramped, h]

/-- A ramp-out whose λ stays above 0 does not end (R75, R87). -/
theorem State.rampOut_goes_on {s : State} {c : Context} (hp : s.pe.state.playing = true) (hc : s.pe.ctx = some c)
    (hramp : s.pe.state = .rampOut → 0 < s.pe.ramped.lam) :
    ¬ (s.rampStep.stampFirst.pe.state = .rampOut ∧ s.rampStep.stampFirst.pe.lam = 0) := by
  rw [State.stamped_pe hc]
  rintro ⟨hstate, hlam⟩
  have := hramp ((Engine.ramped_state hp).2.mp hstate)
  simp only at hlam
  omega

/-! ### A clip that plays -/

theorem State.playResult_congr {s t : State} (hcs : t.cs = s.cs) (hdcu : t.dcu = s.dcu) (p : PlayContext) (lam ch j : Nat) :
    t.playResult p lam ch j = s.playResult p lam ch j := by
  simp only [State.playResult, State.drive_congr ch hdcu, State.gainSet_congr _ hdcu, State.contextPoints,
    State.clip_congr _ hcs, hcs]

/-- The result of a channel at an update of a clip: dynamic at this update's λ, or at rest (R4, R17). -/
theorem State.computing_computeChannel_of_play {s : State} {c : Context} {p : PlayContext} (hp : s.pe.state.playing = true)
    (hc : s.pe.ctx = some c) (hb : c.body = .play p) (ch : Nat) :
    s.rampStep.stampFirst.computeChannel ch = match p.chans.idxOf? ch with
      | some j => s.playResult p s.pe.ramped.lam ch j
      | none => driveResult (s.drive ch) false 0 := by
  have hpe := State.stamped_pe hc
  have hplaying : s.rampStep.stampFirst.pe.state.playing = true := by rw [hpe]; exact (Engine.ramped_state hp).1
  have hctx : s.rampStep.stampFirst.pe.ctx = some (c.stamped s.pe.counter) := by rw [hpe]
  have hlam : s.rampStep.stampFirst.pe.lam = s.pe.ramped.lam := by rw [hpe]
  rw [State.computeChannel_of_play hplaying hctx hb, hlam]
  cases p.chans.idxOf? ch with
  | some j => exact State.playResult_congr (by simp) (by simp) p _ ch j
  | none => exact congrArg (driveResult · false 0) (State.drive_congr ch (by simp))

/-- A visit record after an update at ramp level `lam`: the indications of its channel's dynamic result, while the channel is
ENGAGED (R13, R15). -/
def State.indicatedStat (s : State) (p : PlayContext) (lam : Nat) (st : StatRecord) : StatRecord :=
  match p.chans.idxOf? st.channel with
  | none => st
  | some j =>
    if (s.port st.channel).state = .engaged then
      { st with
        clamped := if (s.playResult p lam st.channel j).clamped then min 4294967295 (st.clamped + 1) else st.clamped,
        limited := if (s.playResult p lam st.channel j).limited then min 4294967295 (st.limited + 1) else st.limited }
    else st

/-- Only the sixteen channels are ENGAGED. -/
theorem State.lt_of_engaged {s : State} {ch : Nat} (h : (s.port ch).state = .engaged) : ch < 16 := by
  by_contra hge
  simp [State.port, hge, Port.reset] at h

/-- The results of a played update, handed on one by one, count each record's own indications. -/
theorem State.foldl_handedStat_of_play {s : State} {c : Context} {p : PlayContext} (hp : s.pe.state.playing = true)
    (hc : s.pe.ctx = some c) (hb : c.body = .play p) (st : StatRecord) :
    s.rampStep.stampFirst.computeAll.foldl handedStat st = s.indicatedStat p s.pe.ramped.lam st := by
  have hengaged : st.channel ∈ s.rampStep.stampFirst.engagedChannels ↔ (s.port st.channel).state = .engaged := by
    rw [State.engagedChannels_congr (s := s) (by simp), State.mem_engagedChannels]
    exact ⟨And.right, fun h => ⟨State.lt_of_engaged h, h⟩⟩
  rw [State.computeAll_eq, foldl_handedStat _ _ _ (State.engagedChannels_nodup _),
    State.computing_computeChannel_of_play hp hc hb, State.indicatedStat]
  simp only [hengaged]
  cases p.chans.idxOf? st.channel with
  | none => simp [driveResult]
  | some j =>
    have hdynamic : (s.playResult p s.pe.ramped.lam st.channel j).dynamic = true := rfl
    simp only [hdynamic, and_true]
    rfl

/-- The state after the results of a played update are handed on. -/
def State.handed (s : State) : State :=
  s.rampStep.stampFirst.computeAll.foldl State.handOn s.rampStep.stampFirst.dropCaptureDue

theorem State.marked_eq (s : State) : s.marked = s.handed.markStage := rfl

theorem State.foldl_handOn_mu (results : List (Nat × DriveResult)) (s : State) : (results.foldl State.handOn s).mu = s.mu :=
  foldl_keeps (fun t => t.mu) State.handOn State.handOn_mu results s

theorem State.handed_mark (s : State) (m : Nat) : s.handed.mark m = s.mark m :=
  State.mark_congr m (by rw [State.handed, State.foldl_handOn_mu]; simp)

/-- Before the results are handed on the detectors' configurations stand. -/
theorem State.dropped_limits (s : State) (ch : Nat) : (s.rampStep.stampFirst.dropCaptureDue).limits ch = s.limits ch :=
  State.limits_congr ch (by simp)

/-- A property of the sixteen channels' configurations that the reset configuration has, every channel's has. -/
theorem State.config_of_lt {s : State} {P : LimitConfig → Prop} (h : ∀ ch, ch < 16 → P (s.limits ch).config)
    (hreset : P LimitConfig.reset) (ch : Nat) : P (s.limits ch).config := by
  by_cases hch : ch < 16
  · exact h ch hch
  · simpa [State.limits, hch, ChannelLimits.reset] using hreset

section play
variable {s : State} {c : Context} {p : PlayContext}

/-- The results are handed on while the engine plays on, and the visit records count their indications. -/
theorem State.handed_playsOn (hp : s.pe.state.playing = true) (hc : s.pe.ctx = some c) (hb : c.body = .play p)
    (ha : ∀ ch, ch < 16 → (s.limits ch).config.clamp.action ≠ .trip) :
    s.rampStep.stampFirst.dropCaptureDue.PlaysOn (s.indicatedStat p s.pe.ramped.lam) s.handed := by
  have hplaying : s.rampStep.stampFirst.dropCaptureDue.pe.state.playing = true := by
    rw [State.dropped_pe hc]
    exact (Engine.ramped_state hp).1
  have hfold := State.foldl_handOn_playsOn s.rampStep.stampFirst.computeAll hplaying fun ch => by
    rw [s.dropped_limits]
    exact State.config_of_lt (P := fun l => l.clamp.action ≠ .trip) ha (by decide) ch
  rwa [funext (State.foldl_handedStat_of_play hp hc hb)] at hfold

/-- The context once the results are handed on. -/
theorem State.handed_ctx (hp : s.pe.state.playing = true) (hc : s.pe.ctx = some c) (hb : c.body = .play p)
    (ha : ∀ ch, ch < 16 → (s.limits ch).config.clamp.action ≠ .trip) :
    s.handed.pe.ctx = some { c with
      firstUpdate := some (c.firstUpdate.getD s.pe.counter), captureDue := false,
      body := .play { p with stats := p.stats.map (s.indicatedStat p s.pe.ramped.lam) } } := by
  rw [(State.handed_playsOn hp hc hb ha).ctx, State.dropped_pe hc]
  simp [Context.mapStats, Context.stamped, hb]

/-- With CLAMP_RATE at NOTE or not enabled, the handing on leaves the engine's state. -/
theorem State.handed_rampOut_iff (hp : s.pe.state.playing = true) (hc : s.pe.ctx = some c)
    (hnote : ∀ ch, ch < 16 → (s.limits ch).config.clamp.enable = true → (s.limits ch).config.clamp.action = .note) :
    s.handed.pe.state = .rampOut ↔ s.pe.state = .rampOut := by
  rw [State.handed, State.foldl_handOn_state_of_note, State.dropped_pe hc]
  · exact (Engine.ramped_state hp).2
  · intro ch
    rw [s.dropped_limits]
    exact State.config_of_lt (P := fun l => l.clamp.enable = true → l.clamp.action = .note) hnote (by decide) ch

/-- The engine once the mark units have handled the update's position: a unit's cut marks the context outside RAMP_OUT. -/
theorem State.marked_pe (hp : s.pe.state.playing = true) (hc : s.pe.ctx = some c) (hb : c.body = .play p)
    (ha : ∀ ch, ch < 16 → (s.limits ch).config.clamp.action ≠ .trip) :
    s.marked.pe = if ∃ m ∈ s.marksHit, (s.mark m).trigCut = true then s.handed.pe.cut else s.handed.pe := by
  have hposition : s.handed.playPosition = some { clip := p.clip, u := p.u } := by
    simp [State.playPosition, State.handed_ctx hp hc hb ha]
  rw [State.marked_eq, State.markStage_pe hposition]
  simp only [State.handed_mark, State.any_cuts_iff_marksHit hp hc hb]

/-- The context once the mark units have handled the update's position. -/
theorem State.marked_ctx (hp : s.pe.state.playing = true) (hc : s.pe.ctx = some c) (hb : c.body = .play p)
    (ha : ∀ ch, ch < 16 → (s.limits ch).config.clamp.action ≠ .trip) :
    s.marked.pe.ctx = some { c with
      firstUpdate := some (c.firstUpdate.getD s.pe.counter), captureDue := false,
      cut := c.cut || decide (s.handed.pe.state ≠ .rampOut ∧ ∃ m ∈ s.marksHit, (s.mark m).trigCut = true),
      body := .play { p with stats := p.stats.map (s.indicatedStat p s.pe.ramped.lam) } } := by
  have hctx := State.handed_ctx hp hc hb ha
  rw [State.marked_pe hp hc hb ha]
  split
  · next hcut => simp [Engine.cut_ctx (State.handed_playsOn hp hc hb ha).playing hctx, hcut]
  · next hcut => simp [hctx, hcut]

/-- What a played update within a pass makes of the context of a clip, and of the queue's entries (R78, R87). -/
theorem State.playedUpdate_of_play (hp : s.pe.state.playing = true) (hc : s.pe.ctx = some c) (hb : c.body = .play p)
    (hin : p.u + 1 < p.count * p.upsample) (hramp : s.pe.state = .rampOut → 0 < s.pe.ramped.lam)
    (ha : ∀ ch, ch < 16 → (s.limits ch).config.clamp.action ≠ .trip) :
    s.playedUpdate.pe.ctx = some { c with
        firstUpdate := some (c.firstUpdate.getD s.pe.counter), lastUpdate := some s.pe.counter, captureDue := false,
        cut := c.cut || decide (s.handed.pe.state ≠ .rampOut ∧ ∃ m ∈ s.marksHit, (s.mark m).trigCut = true),
        body := .play { p with u := p.u + 1, stats := p.stats.map (s.indicatedStat p s.pe.ramped.lam) } }
      ∧ s.playedUpdate.sq = s.rampStep.stampFirst.sq := by
  have hon := State.handed_playsOn hp hc hb ha
  have hmarked := State.marked_pe hp hc hb ha
  have hplaying : s.marked.pe.state.playing = true := by
    rw [hmarked]
    split
    · rw [Engine.cut_state]; exact hon.playing
    · exact hon.playing
  have hcounter : s.marked.pe.counter = s.pe.counter := by
    have hhanded : s.handed.pe.counter = s.pe.counter := by
      rw [hon.counter, State.dropped_pe hc]; exact Engine.ramped_counter _
    rw [hmarked]
    split
    · rw [Engine.cut_counter, hhanded]
    · exact hhanded
  obtain ⟨hctx, hsq⟩ := State.playedUpdate_of_inPass (State.rampOut_goes_on hp hc hramp) hplaying
    (State.marked_ctx hp hc hb ha) (by exact hin)
  rw [hctx, hsq, hcounter, State.marked_eq, State.markStage_sq, hon.queue, State.dropCaptureDue_sq]
  exact ⟨rfl, rfl⟩

end play

/-! ### A DWELL -/

/-- The result of a channel at an update of a DWELL: the channel rests (R17). -/
theorem State.computing_computeChannel_of_dwell {s : State} {c : Context} {elapsed : Nat} (hp : s.pe.state.playing = true)
    (hc : s.pe.ctx = some c) (hb : c.body = .dwell elapsed) (ch : Nat) :
    s.rampStep.stampFirst.computeChannel ch = driveResult (s.drive ch) false 0 := by
  have hpe := State.stamped_pe hc
  have hstate : s.rampStep.stampFirst.pe.state ≠ .tripped := by
    have hplaying := (Engine.ramped_state hp).1
    rw [hpe]
    rintro ht
    simp only at ht
    simp [ht, EngineState.playing] at hplaying
  rw [State.computeChannel_of_dwell (c := c.stamped s.pe.counter) hstate (by rw [hpe]) hb]
  exact congrArg (driveResult · false 0) (State.drive_congr ch (by simp))

/-- A DWELL's update, as far as the mark units: the stamps, and new drive records (R17, R146). -/
theorem State.marked_of_dwell {s : State} {c : Context} {elapsed : Nat} (hc : s.pe.ctx = some c)
    (hb : c.body = .dwell elapsed) : ∃ d, s.marked = { s.rampStep.stampFirst.dropCaptureDue with dcu := d } := by
  have hrests : s.rampStep.stampFirst.Rests := by
    intro _ x hx
    rw [State.stamped_pe hc] at hx
    obtain rfl := Option.some.inj hx
    exact ⟨elapsed, hb⟩
  obtain ⟨d, hd⟩ := State.handOnAll_of_rests hrests s.rampStep.stampFirst.dropCaptureDue
  have hnone : (State.playPosition { s.rampStep.stampFirst.dropCaptureDue with dcu := d }) = none := by
    simp [State.playPosition, State.dropped_pe hc, Context.stamped, hb]
  refine ⟨d, ?_⟩
  rw [State.marked, hd, State.markStage, hnone]

/-- What a played update within a DWELL's pass makes of the context (R77, R87). -/
theorem State.playedUpdate_of_dwell {s : State} {c : Context} {elapsed : Nat} {f : DwellFields} {r : Runtime}
    (hp : s.pe.state.playing = true) (hc : s.pe.ctx = some c) (hb : c.body = .dwell elapsed)
    (hentry : s.cursorEntry = some { tag := c.tag, body := .dwell f r }) (hin : elapsed + 1 < f.length)
    (hramp : s.pe.state = .rampOut → 0 < s.pe.ramped.lam) :
    s.playedUpdate.pe.ctx = some { c with
      firstUpdate := some (c.firstUpdate.getD s.pe.counter), lastUpdate := some s.pe.counter, captureDue := false,
      body := .dwell (elapsed + 1) } := by
  obtain ⟨d, hd⟩ := State.marked_of_dwell hc hb
  have hpe : s.marked.pe = { s.pe.ramped with ctx := some { c.stamped s.pe.counter with captureDue := false } } := by
    rw [hd]; exact State.dropped_pe hc
  have hsq : s.marked.sq = s.rampStep.stampFirst.sq := by rw [hd]; exact State.dropCaptureDue_sq _
  have hplaying : s.marked.pe.state.playing = true := by rw [hpe]; exact (Engine.ramped_state hp).1
  have hlength : s.marked.passLength { c.stamped s.pe.counter with captureDue := false } = f.length := by
    have hheld : s.marked.cursorEntry = (s.cursorEntry.map fun e => e.mapRuntime fun r =>
        if c.firstUpdate.isSome then r else { r with firstStamp := some (r.firstStamp.getD s.pe.counter) }) := by
      rw [State.cursorEntry, hsq, State.stamped_sq hc]
      exact List.getElem?_modify_eq _ _ _
    simp only [State.passLength, Context.stamped, hb, hheld, hentry]
    rfl
  have hctx := (State.playedUpdate_of_inPass (State.rampOut_goes_on hp hc hramp) hplaying (by rw [hpe])
    (by rw [hlength]; simpa [Context.elapsed, Context.stamped, hb] using hin)).1
  rw [hctx, hpe]
  simp [Context.advanced, Context.stamped, hb, Engine.ramped_counter]

end Sys2Proof.Machine
end

section
/-! The statement about an update's commands, assembled from what each stage leaves. -/

namespace Sys2Proof.Machine

open Sys2Proof

/-- A row that raises an update is the update at its moment (R98, R100). -/
theorem exec_of_raisesUpdate {i : Instr} {s : State} {at' : Nat} (h : raisesUpdate i s at') :
    exec i s = .next (s.tick at').raiseUpdate := by
  rcases h with ⟨rfl, hsource⟩ | ⟨rfl, hsource, hnear, hlate⟩
  · exact if_pos hsource
  · have hlost : (s.tick at').syncLost = false := decide_eq_false (not_le.mpr hnear)
    have hqualifies : (s.tick at').edgeQualifies = true := by
      unfold State.edgeQualifies
      split
      · rfl
      · next last hl => exact decide_eq_true (hlate last hl)
    show execSyncEdge at' s = _
    simp [execSyncEdge, hsource, hlost, hqualifies]

/-- The histories after an update, as lists: a channel then ENGAGED has its command in front (R127). -/
theorem State.raiseUpdate_history_toList (s : State) {ch : Nat} (hch : ch < 16) :
    ((s.raiseUpdate.port ch).state = .engaged →
        (s.raiseUpdate.limits ch).history.toList
          = (s.raiseUpdate.drive ch).lastOutput :: (s.limits ch).history.toList.take 15)
      ∧ ((s.raiseUpdate.port ch).state ≠ .engaged → (s.raiseUpdate.limits ch).history = (s.limits ch).history) := by
  rw [s.raiseUpdate_history hch]
  exact ⟨fun h => by rw [if_pos h, pushHistory_toList], fun h => if_neg h⟩

/-- Where nothing plays a clip, outside TRIPPED, every ENGAGED channel moves toward its clamped offset (R17, R19). -/
theorem State.raiseUpdate_drive_of_rest {s : State}
    (h : s.pe.state = .idle ∨ s.pe.state = .paused ∨ s.pe.state = .returning
      ∨ (s.pe.state ≠ .tripped ∧ ∃ c e, s.pe.ctx = some c ∧ c.body = .dwell e)) {ch : Nat} (hch : ch < 16) :
    s.raiseUpdate.drive ch
      = if (s.port ch).state = .engaged then { s.drive ch with lastOutput := (driveResult (s.drive ch) false 0).command }
        else s.drive ch := by
  have hresult : s.countUpdate.computing.computeChannel ch = driveResult (s.drive ch) false 0 := by
    cases hp : s.pe.state.playing with
    | false =>
      have hplays : s.countUpdate.plays = false := by simp [State.plays, State.countUpdate, hp]
      have hnt : s.pe.state ≠ .tripped := by rcases h with h | h | h | h <;> simp [h]
      rw [State.computing, hplays]
      exact State.computeChannel_of_not_playing (s := s.countUpdate) hnt hp ch
    | true =>
      obtain ⟨-, c, e, hc, hb⟩ : s.pe.state ≠ .tripped ∧ ∃ c e, s.pe.ctx = some c ∧ c.body = .dwell e := by
        rcases h with h | h | h | h
        · simp [h, EngineState.playing] at hp
        · simp [h, EngineState.playing] at hp
        · simp [h, EngineState.playing] at hp
        · exact h
      rw [State.computing, State.plays_of_ctx (s := s.countUpdate) hp hc, if_pos rfl]
      exact State.computing_computeChannel_of_dwell (s := s.countUpdate) hp hc hb ch
  rw [s.raiseUpdate_drive hch, hresult]

/-- While a clip plays, an ENGAGED channel of the clip gets the six stages' command, the others rest (R5, R17). -/
theorem State.raiseUpdate_drive_of_play {s : State} {c : Context} {p : PlayContext} (hp : s.pe.state.playing = true)
    (hc : s.pe.ctx = some c) (hb : c.body = .play p) {ch : Nat} (hch : ch < 16) :
    s.raiseUpdate.drive ch
      = if (s.port ch).state = .engaged then
          { s.drive ch with lastOutput := (match p.chans.idxOf? ch with
            | some j => s.playResult p s.pe.ramped.lam ch j
            | none => driveResult (s.drive ch) false 0).command }
        else s.drive ch := by
  rw [s.raiseUpdate_drive hch, State.computing, State.plays_of_ctx (s := s.countUpdate) hp hc, if_pos rfl,
    State.computing_computeChannel_of_play (s := s.countUpdate) hp hc hb, s.countUpdate_ramped_lam]
  rfl

/-- Where no pass ends, what an update makes of the context of a clip and of the queue's entries (R78, R87). -/
theorem State.raiseUpdate_of_play {s : State} {c : Context} {p : PlayContext} (hp : s.pe.state.playing = true)
    (hc : s.pe.ctx = some c) (hb : c.body = .play p) (hin : p.u + 1 < p.count * p.upsample)
    (hramp : s.pe.state = .rampOut → 0 < s.pe.ramped.lam)
    (ha : ∀ ch, ch < 16 → (s.limits ch).config.clamp.action ≠ .trip) :
    s.raiseUpdate.pe.ctx = some { c with
        firstUpdate := some (c.firstUpdate.getD s.countUpdate.pe.counter), lastUpdate := some s.countUpdate.pe.counter,
        captureDue := false,
        cut := c.cut || decide (s.countUpdate.handed.pe.state ≠ .rampOut ∧ ∃ m ∈ s.marksHit, (s.mark m).trigCut = true),
        body := .play { p with u := p.u + 1, stats := p.stats.map (s.indicatedStat p s.pe.ramped.lam) } }
      ∧ s.raiseUpdate.sq.entries = s.sq.entries.modify s.sq.cursor fun e => e.mapRuntime fun r =>
          if c.firstUpdate.isSome then r
          else { r with firstStamp := some (r.firstStamp.getD s.countUpdate.pe.counter) } := by
  rw [← s.countUpdate_ramped_lam] at hramp ⊢
  obtain ⟨hctx, hsq⟩ := State.playedUpdate_of_play (s := s.countUpdate) hp hc hb hin hramp ha
  have hengine : s.countUpdate.engineUpdate = s.countUpdate.playedUpdate :=
    if_pos (State.plays_of_ctx (s := s.countUpdate) hp hc)
  rw [State.raiseUpdate_eq, State.portUpdate_ctx, State.portUpdate_entries, hengine, hctx, hsq,
    State.stamped_sq (s := s.countUpdate) hc]
  exact ⟨rfl, rfl⟩

/-- Where no pass ends, what an update makes of the context of a DWELL (R77, R87). -/
theorem State.raiseUpdate_of_dwell {s : State} {c : Context} {elapsed : Nat} {f : DwellFields} {r : Runtime}
    (hp : s.pe.state.playing = true) (hc : s.pe.ctx = some c) (hb : c.body = .dwell elapsed)
    (hentry : s.cursorEntry = some { tag := c.tag, body := .dwell f r }) (hin : elapsed + 1 < f.length)
    (hramp : s.pe.state = .rampOut → 0 < s.pe.ramped.lam) :
    s.raiseUpdate.pe.ctx = some { c with
      firstUpdate := some (c.firstUpdate.getD s.countUpdate.pe.counter), lastUpdate := some s.countUpdate.pe.counter,
      captureDue := false, body := .dwell (elapsed + 1) } := by
  have hengine : s.countUpdate.engineUpdate = s.countUpdate.playedUpdate :=
    if_pos (State.plays_of_ctx (s := s.countUpdate) hp hc)
  rw [← s.countUpdate_ramped_lam] at hramp
  rw [State.raiseUpdate_eq, State.portUpdate_ctx, hengine]
  exact State.playedUpdate_of_dwell (s := s.countUpdate) hp hc hb hentry hin hramp

/-- In RETURN every result is the channel's resting one (R19). -/
theorem State.computeChannel_of_returning {s : State} (h : s.pe.state = .returning) (ch : Nat) :
    s.computeChannel ch = driveResult (s.drive ch) false 0 :=
  State.computeChannel_of_not_playing (by rw [h]; decide) (by rw [h]; rfl) ch

/-- Whether RETURN ends at an update, by the channels' resting results (R97). -/
theorem State.allAtTarget_of_returning {s : State} (h : s.pe.state = .returning) :
    allAtTarget s.computeAll = true ↔ ∀ ch, ch < 16 → (s.port ch).state = .engaged →
      (driveResult (s.drive ch) false 0).command = (driveResult (s.drive ch) false 0).target := by
  simp only [s.allAtTarget_computeAll, State.computeChannel_of_returning h]

/-- Settles O48: the update's stages, each by its own lemma, at the update's moment. -/
theorem updateCommandsResult : Obligations.UpdateCommandsResult := by
  intro i at' stamp s hraises hstamp
  refine ⟨_, exec_of_raisesUpdate hraises, ?tripped, ?history, ?rest, ?returning, ?play, ?dwell⟩
  case tripped =>
    intro h
    obtain ⟨hdcu, hpe⟩ := State.raiseUpdate_of_tripped (s := s.tick at') h
    rw [hdcu, hpe]
    exact ⟨rfl, h, rfl, rfl⟩
  case history => exact fun ch hch => State.raiseUpdate_history_toList (s.tick at') hch
  case rest => exact fun h ch hch => State.raiseUpdate_drive_of_rest (s := s.tick at') h hch
  case returning =>
    intro h hw
    have hanswered : ∀ ch, ch < 16 → (s.tick at').WindowAnswered ch := fun ch hch w => hw ch w hch
    have hall := State.allAtTarget_of_returning (s := (s.tick at').countUpdate) h
    refine ⟨fun hthere => State.raiseUpdate_returned h hanswered (hall.mpr hthere), ?_⟩
    rintro ⟨ch, hch, hengaged, hunder⟩
    refine State.raiseUpdate_returning h hanswered ?_
    exact Bool.eq_false_iff.mpr fun hthere => hunder (hall.mp hthere ch hch hengaged)
  case play =>
    intro lam c p result hc hb hlam hresult
    obtain rfl : result = s.playResult p lam := funext fun ch => funext fun j => hresult ch j
    have hp : s.pe.state.playing = true :=
      (playing_iff _).mpr (hlam.imp And.left (Or.imp And.left And.left))
    obtain rfl : s.pe.ramped.lam = lam := Engine.ramped_lam hlam
    refine ⟨fun ch hch => ?commands, fun hin hramp ha => ?position⟩
    case commands =>
      rw [State.raiseUpdate_drive_of_play (s := s.tick at') hp hc hb hch]
      refine ⟨fun hport => if_neg hport, fun hport hnot => ?_, fun j hport hj => ?_⟩
      · rw [List.idxOf?_eq_none_iff.mpr hnot]
        exact if_pos hport
      · rw [hj]
        exact if_pos hport
    case position =>
      obtain ⟨hctx, hentries⟩ := State.raiseUpdate_of_play (s := s.tick at') hp hc hb hin hramp ha
      subst hstamp
      refine ⟨_, hctx, rfl, fun hnote => ?_, hentries⟩
      have hstate := State.handed_rampOut_iff (s := (s.tick at').countUpdate) hp hc hnote
      simp only [ne_eq, hstate]
      rfl
  case dwell =>
    intro c elapsed f r hc hb hentry hin hstate
    subst hstamp
    have hp : s.pe.state.playing = true := (playing_iff _).mpr (hstate.imp_right (Or.imp_right And.left))
    refine State.raiseUpdate_of_dwell (s := s.tick at') hp hc hb hentry hin fun hout => ?_
    have hstep : (65536 + (s.pe.ro - 1)) / s.pe.ro < s.pe.lam := by
      rcases hstate with h | h | h
      · exact absurd (hout.symm.trans h) (by decide)
      · exact absurd (hout.symm.trans h) (by decide)
      · exact h.2
    have hlam := Engine.ramped_lam (e := s.pe) (.inr (.inr ⟨hout, rfl⟩))
    show 0 < s.pe.ramped.lam
    omega

end Sys2Proof.Machine
end

section
/-! Every step is made of the block's operations: a request's row is its taking, an event's row one operation, and the receive
path ends in takings. A law that reads nothing of the line and that every operation keeps, every step keeps. -/

namespace Sys2Proof.Machine

open Sys2Proof

/-! ### The rows of the requests (R189) -/

/-- The row of a request takes it or lets it wait; Reset Part has a row of its own, because its reset follows its reply. -/
theorem exec_of_request {c : Instr} {tag : Nat} {r : Request} (h : c.asRequest = some (tag, r)) (hr : r ≠ .resetPart)
    (s : State) : exec c s = .next (s.takeOrWait tag r (takingOf r)) := by
  cases c <;> cases h <;> first | rfl | exact absurd rfl hr

/-- The row of a request with a reply place free, where the block answers `reply`. -/
theorem exec_of_taking {c : Instr} {tag : Nat} {r : Request} {s t : State} {reply : Reply}
    (h : c.asRequest = some (tag, r)) (hr : r ≠ .resetPart) (hfree : s.repliesHeld < 2)
    (ht : takingOf r s = (t, reply)) :
    exec c s = .next (t.answered (requestCode r) tag reply.status reply.fields) := by
  rw [exec_of_request h hr, State.takeOrWait_of_free hfree, ht]

/-! ### What the transmit path and the receiver touch (R190) -/

theorem State.placeFrame_eq (s : State) (f : Frame) : s.placeFrame f = { s with sli := (s.placeFrame f).sli } := by
  unfold State.placeFrame
  cases s.sli.leaving <;> rfl

theorem State.bufferRequest_eq (s : State) (f : RequestFrame) :
    s.bufferRequest f = { s with sli := (s.bufferRequest f).sli } := by
  unfold State.bufferRequest
  split
  · rfl
  · dsimp only
    split
    · rw [State.placeFrame_eq]; rfl
    · rfl

theorem State.restartTimer_eq (s : State) : s.restartTimer = { s with sli := s.restartTimer.sli } := by
  unfold State.restartTimer
  split <;> rfl

theorem State.nextFrame_eq (s : State) : s.nextFrame = { s with sli := s.nextFrame.sli } := by
  unfold State.nextFrame
  split <;> rfl

theorem State.dropOverlong_eq (s : State) : s.dropOverlong = { s with sli := s.dropOverlong.sli } := by
  unfold State.dropOverlong
  split <;> rfl

/-- A response that is answerable answers the open window of its channel (R114). -/
theorem State.window_of_answerable {s : State} {ch exchange : Nat} {w : Window} (h : s.answerable ch exchange = some w) :
    (s.port ch).window = some w := by
  unfold State.answerable at h
  split at h
  · next v hv =>
    split at h
    · exact hv.trans h
    · cases h
  · cases h

/-! ### The induction over the rows -/

/-- An answer that is a next state of which `P` holds. -/
inductive NextIn (P : State → Prop) : Answer → Prop
  | next {t : State} (h : P t) : NextIn P (.next t)

theorem NextIn.ite {P : State → Prop} {p : Prop} {dec : Decidable p} {a b : Answer} (ha : p → NextIn P a)
    (hb : ¬ p → NextIn P b) : NextIn P (if p then a else b) := by
  split
  · next h => exact ha h
  · next h => exact hb h

theorem NextIn.of_next {P : State → Prop} {t : State} (h : NextIn P (.next t)) : P t := by
  cases h
  assumption

/-- A law of the part that reads neither the line, the clock nor the commands that wait, and that every operation of the part
keeps. The premises of an operation are those under which a row makes it. -/
structure KeptByOperations (P : State → Prop) : Prop where
  line : ∀ s sli clock pending, P s → P { s with sli := sli, clock := clock, pending := pending }
  taking : ∀ r s, P s → P (takingOf r s).1
  warmReset : ∀ s, s.resettable = true → P s → P s.warmReset
  fullReset : ∀ source s, P s → P (s.makeFullReset source)
  update : ∀ s, P s → P s.raiseUpdate
  sourceInternal : ∀ s, P s → P (s.setPe { s.pe with source := .internal })
  action : ∀ s a cause ch, P s → P (s.applyAction a cause ch)
  record : ∀ s h pos, s.rcu.state = .filling → s.rcu.filling = some h → P s → P (s.takeRecord h pos)
  rampIn : ∀ s, s.pe.state = .rampIn → P s → P s.rampStep
  rampOut : ∀ s, s.pe.state = .rampOut → rampDown s.pe.lam s.pe.ro = 0 → P s → P s.rampStep.endRampOut
  passEnd : ∀ s, s.pe.state = .rampIn ∨ s.pe.state = .running → s.atPassEnd = true → P s → P s.passEndPlaying
  passEndRampOut : ∀ s, s.pe.state = .rampOut → s.atPassEnd = true → P s → P s.passEndRampOut
  response : ∀ s ch w f sp st, ch < 16 → (s.port ch).window = some w → P s → P (s.takeResponse ch w f sp st)
  envelope : ∀ s ch f stamp, P s → P (s.evalEnvelope ch f stamp)
  tracking : ∀ s ch f stamp, P s → P (s.evalTracking ch f stamp)
  clampRate : ∀ s ch, P s → P (s.evalClamp ch)
  window : ∀ s ch, P s → P (s.closeWindow ch)
  rigReady : ∀ s level, P s → P { s with cpc := { s.cpc with rigReady := level } }
  markEdge : ∀ s m rising, m < 6 → P s → P (s.markEdge m rising)
  verified : ∀ s id rest l, s.cs.order = id :: rest → (s.clip id).load = some l → P s → P (s.completeVerification id l)

namespace KeptByOperations

variable {P : State → Prop} (hP : KeptByOperations P)
include hP

/-! #### The line -/

theorem of_sli {s t : State} (h : t = { s with sli := t.sli }) (hs : P s) : P t :=
  h ▸ hP.line s t.sli s.clock s.pending hs

theorem setSli {s : State} (l : LinkUnit) (hs : P s) : P (s.setSli l) := hP.of_sli rfl hs

theorem tick {s : State} (at' : Nat) (hs : P s) : P (s.tick at') := hP.line s s.sli (max s.clock at') s.pending hs

/-! #### Takings -/

theorem perform {s : State} (code tag : Nat) {act : Taking} (h : P (act s).1) : P (s.perform code tag act) :=
  hP.of_sli (State.placeFrame_eq _ _) h

theorem takeOrWait {s : State} (tag : Nat) (r : Request) (hs : P s) : P (s.takeOrWait tag r (takingOf r)) := by
  unfold State.takeOrWait
  split
  · exact hP.perform _ _ (hP.taking r s hs)
  · exact hP.of_sli (State.bufferRequest_eq _ _) hs

/-- A Reset Part places its reply, which leaves the engine as it was, and then makes the reset (R196). -/
theorem performReset {s : State} (tag : Nat) (hs : P s) : P (s.performReset tag) := by
  have hreplied : P (s.perform (requestCode .resetPart) tag takeResetPart) := hP.perform _ _ (hP.taking .resetPart s hs)
  have hpe : (s.perform (requestCode .resetPart) tag takeResetPart).resettable = s.resettable := by
    have htaken : (takeResetPart s).1 = s := by unfold takeResetPart; split <;> rfl
    simp [State.resettable, State.perform, htaken]
  unfold State.performReset
  dsimp only
  split
  · next h => exact hP.warmReset _ (hpe.trans h) hreplied
  · exact hreplied

theorem takeFrame {s : State} (f : RequestFrame) (hs : P s) : P (s.takeFrame f) := by
  unfold State.takeFrame
  split
  · exact hP.perform _ _ hs
  · exact hP.perform _ _ hs
  · next r _ =>
    unfold State.takeRequest
    split
    · exact hP.performReset _ hs
    · exact hP.perform _ _ (hP.taking r s hs)

theorem drain : ∀ (n : Nat) {s : State}, P s → P (State.drain n s)
  | 0, _, hs => hs
  | n + 1, s, hs => by
    unfold State.drain
    split
    · exact hs
    · split
      · exact drain n (hP.takeFrame _ (hP.setSli _ hs))
      · exact hs

/-! #### Arrivals -/

theorem judgeFrame {s : State} (kind code tag : Nat) (payload : List Byte) (crc : Nat) (hs : P s) :
    P (s.judgeFrame kind code tag payload crc) := by
  unfold State.judgeFrame
  split
  · exact hP.of_sli rfl hs
  split
  · exact hP.of_sli rfl hs
  split
  · exact hP.of_sli rfl hs
  · exact hP.drain _ (hP.of_sli (State.bufferRequest_eq _ _) (hP.of_sli (State.restartTimer_eq _) hs))

theorem takeByte {s : State} (b : Byte) (hs : P s) : P (s.takeByte b) := by
  have hset : ∀ {t : State} (r : Receiver), P t → P (t.setReceiver r) := fun r => hP.of_sli rfl
  unfold State.takeByte
  split
  case h_1 =>
    split
    · exact hset _ hs
    · exact hs
  case h_2 => (repeat' split) <;> exact hset _ hs
  case h_3 =>
    dsimp only
    split
    · exact hset _ hs
    · unfold State.headerTaken
      dsimp only
      split
      · exact hset _ (hP.setSli _ hs)
      · split <;> exact hset _ hs
  case h_4 => dsimp only; split <;> exact hset _ hs
  case h_5 =>
    dsimp only
    split
    · exact hset _ hs
    · exact hP.judgeFrame _ _ _ _ _ (hset _ hs)

/-! #### The events -/

theorem loseSync {s : State} (hs : P s) : P s.loseSync := hP.update _ (hP.action _ _ _ _ (hP.sourceInternal _ hs))

/-- A row that is no request keeps the law: each is one operation, taken where the row's condition holds. -/
theorem event {c : Instr} {s : State} (hc : c.asRequest = none) (hs : P s) : NextIn P (exec c s) := by
  have htick : ∀ at', P (s.tick at') := fun at' => hP.tick at' hs
  have hbuffer : ∀ f, P (s.bufferRequest f) := fun f => hP.of_sli (State.bufferRequest_eq s f) hs
  cases c <;> first | contradiction | skip
  case unknownRequest code tag => exact .ite (fun _ => .next (hP.takeFrame _ hs)) fun _ => .next (hbuffer _)
  case requestArrival kind code tag payload crc at' =>
    exact .next (hP.judgeFrame _ _ _ _ _ (hP.setSli _ (hP.of_sli (State.dropOverlong_eq _) (htick at'))))
  case overlongFrame at' => exact .next (hP.of_sli (State.dropOverlong_eq _) (htick at'))
  case frameSent => exact .ite (fun _ => .next (hP.drain _ (hP.of_sli s.nextFrame_eq hs))) fun _ => .next hs
  case supervisionExpiry at' =>
    exact .ite (fun _ => .next (hP.of_sli (State.restartTimer_eq _) (hP.action _ _ _ _ (htick at')))) fun _ => .next (htick at')
  case fullReset source => exact .next (hP.fullReset source s hs)
  case update at' => exact .ite (fun _ => .next (hP.update _ (htick at'))) fun _ => .next (htick at')
  case syncEdge at' =>
    exact .ite (fun _ => .ite (fun _ => .next (hP.loseSync (htick at')))
      fun _ => .ite (fun _ => .next (hP.update _ (htick at'))) fun _ => .next (htick at')) fun _ => .next (htick at')
  case syncLoss at' => exact .ite (fun _ => .next (hP.loseSync (htick at'))) fun _ => .next (htick at')
  case captureComplete =>
    show NextIn P (execCaptureComplete s)
    unfold execCaptureComplete
    split
    · next hstate hfill => exact .ite (fun _ => .next (hP.record s _ _ hstate hfill hs)) fun _ => .next hs
    · exact .next hs
  case rampInComplete => exact .ite (fun hg => .next (hP.rampIn s hg.1 hs)) fun _ => .next hs
  case rampOutComplete => exact .ite (fun hg => .next (hP.rampOut s hg.1 hg.2 hs)) fun _ => .next hs
  case passEnd => exact .ite (fun hg => .next (hP.passEnd s hg.1 hg.2 hs)) fun _ => .next hs
  case passEndInRampOut => exact .ite (fun hg => .next (hP.passEndRampOut s hg.1 hg.2 hs)) fun _ => .next hs
  case servoResponse ch intact exchange f sp st =>
    show NextIn P (execServoResponse ch intact exchange f sp st s)
    unfold execServoResponse
    split
    · next w hw =>
      refine .ite (fun hin => .next (hP.response s ch w f sp st ?_ (State.window_of_answerable hw) hs)) fun _ => .next hs
      exact of_decide_eq_true (Bool.and_eq_true_iff.mp hin).2
    · exact .next hs
  case detectorFire ch detector f =>
    cases detector
    · exact .ite (fun _ => .next (hP.envelope s ch f _ hs)) fun _ => .next hs
    · exact .ite (fun _ => .next (hP.tracking s ch f _ hs)) fun _ => .next hs
    · exact .ite (fun _ => .next (hP.clampRate s ch hs)) fun _ => .next hs
  case linkLost ch => exact .ite (fun _ => .next (hP.window s ch hs)) fun _ => .next hs
  case linkingTimeout ch => exact .ite (fun _ => .next (hP.window s ch hs)) fun _ => .next hs
  case rigReadyDeasserted => exact .next (hP.action _ _ _ _ (hP.rigReady s false hs))
  case rigReadyReasserted => exact .next (hP.rigReady s true hs)
  case markInputEdge m rising => exact .ite (fun hm => .next (hP.markEdge s m rising hm hs)) fun _ => .next hs
  case verificationComplete at' =>
    show NextIn P (execVerificationComplete at' s)
    unfold execVerificationComplete
    dsimp only
    split
    · exact .next (htick at')
    · next id rest horder =>
      split
      · exact .next (htick at')
      · next l hload => exact .ite (fun _ => .next (hP.verified _ id rest l horder hload (htick at'))) fun _ => .next (htick at')
  case receivedByte b at' =>
    exact .ite (fun _ => .next (hP.takeByte b (htick at')))
      fun _ => .next (hP.takeByte b (hP.of_sli (State.dropOverlong_eq _) (htick at')))

/-! #### The step -/

/-- What every operation keeps, every row keeps. -/
theorem row (c : Instr) {s : State} (hs : P s) : NextIn P (exec c s) := by
  cases hc : c.asRequest with
  | none => exact hP.event hc hs
  | some pair =>
    obtain ⟨tag, r⟩ := pair
    by_cases hr : r = .resetPart
    · subst hr
      cases c <;> cases hc
      exact .ite (fun _ => .next (hP.performReset _ hs)) fun _ => .next (hP.of_sli (State.bufferRequest_eq _ _) hs)
    · rw [exec_of_request hc hr]
      exact .next (hP.takeOrWait tag r hs)

/-- What every operation keeps, every step keeps. -/
theorem of_step {s t : State} (hs : P s) (h : step s = .next t) : P t := by
  rcases step_cases h with ⟨-, rfl⟩ | ⟨c, rest, -, h⟩
  · exact hs
  · exact (h ▸ hP.row c (hP.line s s.sli s.clock rest hs)).of_next

end KeptByOperations

end Sys2Proof.Machine
end

section
/-! The requests that leave the Clip Store, the Segment Queue and the Playback Engine alone, and the laws of the Clip Store
that a state with the same points and pages has too. -/

namespace Sys2Proof.Machine

open Sys2Proof

/-! ### Takings outside playback -/

/-- The blocks that schedule and play clips. -/
def State.playback (s : State) : ClipStore × SegmentQueue × Engine := (s.cs, s.sq, s.pe)

theorem State.playback_eq_iff {s t : State} : t.playback = s.playback ↔ t.cs = s.cs ∧ t.sq = s.sq ∧ t.pe = s.pe := by
  simp [State.playback]

/-- The requests that can change one of these blocks. -/
def movesPlayback : Request → Bool
  | .openClip .. => true | .clipData .. => true | .closeClip .. => true | .freeClip .. => true
  | .appendEntry .. => true | .modifyEntry .. => true | .flushQueue => true | .advanceWatch => true
  | .start => true | .pause => true | .resume => true | .stop => true | .clearTrip => true | .setRamp .. => true
  | .setTimebase .. => true
  | _ => false

@[simp] theorem accept_fst (s : State) (fields : List Byte) : (accept s fields).1 = s := rfl
@[simp] theorem refuse_fst (s : State) (st : Status) : (refuse s st).1 = s := rfl
@[simp] theorem acceptPort_fst (s : State) (ch : Nat) : (acceptPort s ch).1 = s := rfl
@[simp] theorem acceptOwner_fst (s : State) (ch : Nat) : (acceptOwner s ch).1 = s := rfl
@[simp] theorem acceptState_fst (s : State) : (acceptState s).1 = s := rfl

/-! #### The Channel Port Controller -/

theorem State.giveReplay_playback (s : State) (ch : Nat) : (s.giveReplay ch).playback = s.playback := by
  unfold State.giveReplay
  split <;> simp [State.playback]

theorem State.giveLocal_playback (s : State) (ch : Nat) : (s.giveLocal ch).playback = s.playback := by
  unfold State.giveLocal
  split <;> simp [State.playback]

theorem takeRigModeReplay_playback (s : State) : (takeRigModeReplay s).1.playback = s.playback := by
  unfold takeRigModeReplay
  dsimp only
  rw [accept_fst, foldl_keeps State.playback State.giveReplay State.giveReplay_playback]
  rfl

theorem takeRigModeLocal_playback (s : State) : (takeRigModeLocal s).1.playback = s.playback := by
  unfold takeRigModeLocal
  split
  · rfl
  · dsimp only
    rw [accept_fst, foldl_keeps State.playback State.giveLocal State.giveLocal_playback]
    rfl

theorem takeSetRigMode_playback (mode : Nat) (s : State) : (takeSetRigMode mode s).1.playback = s.playback := by
  unfold takeSetRigMode
  split
  · rfl
  · exact takeRigModeReplay_playback s
  · exact takeRigModeLocal_playback s

/-! #### The Response Capture Unit and the Event Unit -/

theorem State.captureTrigger_playback (s : State) (t : Trigger) : (s.captureTrigger t).playback = s.playback := by
  simp [State.playback]

theorem State.announce_playback (before s : State) (c : Cause) : (State.announce before s c).playback = s.playback := by
  unfold State.announce
  split <;> simp [State.playback]

theorem takeEnableEvents_playback (mask : Nat) (s : State) : (takeEnableEvents mask s).1.playback = s.playback := by
  unfold takeEnableEvents
  split
  · rfl
  · dsimp only
    rw [accept_fst, foldl_keeps State.playback (State.announce s) (State.announce_playback s)]
    rfl

/-- Every other request leaves the Clip Store, the Segment Queue and the Playback Engine as they were. -/
theorem takingOf_playback {r : Request} (h : movesPlayback r = false) (s : State) :
    (takingOf r s).1.playback = s.playback := by
  cases r <;> first | contradiction | skip
  case clipInfo => simp only [takingOf, takeClipInfo]; split <;> rfl
  case storeInfo => rfl
  case readQueue => simp only [takingOf, takeReadQueue]; (repeat' split) <;> rfl
  case readDone => rfl
  case readEngine => rfl
  case configureChannel => simp only [takingOf, takeConfigureChannel]; split <;> rfl
  case writeGainSet => simp only [takingOf, takeWriteGainSet]; (repeat' split) <;> rfl
  case readGainSet => simp only [takingOf, takeReadGainSet]; split <;> rfl
  case channelPowerOn => simp only [takingOf, takeChannelPowerOn]; (repeat' split) <;> rfl
  case channelPowerOff => simp only [takingOf, takeChannelPowerOff]; (repeat' split) <;> rfl
  case setRigMode mode => exact takeSetRigMode_playback mode s
  case setChannelOwner => simp only [takingOf, takeSetChannelOwner]; (repeat' split) <;> rfl
  case engage => simp only [takingOf, takeEngage]; (repeat' split) <;> rfl
  case release => simp only [takingOf, takeRelease]; (repeat' split) <;> rfl
  case acknowledgeChannels => rfl
  case readChannel => simp only [takingOf, takeReadChannel]; split <;> rfl
  case configureLimits => simp only [takingOf, takeConfigureLimits]; (repeat' split) <;> rfl
  case configureMark => simp only [takingOf, takeConfigureMark]; (repeat' split) <;> rfl
  case setMarkOutput => simp only [takingOf, takeSetMarkOutput]; (repeat' split) <;> rfl
  case readMark => simp only [takingOf, takeReadMark]; (repeat' split) <;> rfl
  case configureCapture => simp only [takingOf, takeConfigureCapture]; (repeat' split) <;> rfl
  case captureTrigger =>
    simp only [takingOf, takeCaptureTrigger]
    split
    · rfl
    · exact State.captureTrigger_playback s _
    · exact State.captureTrigger_playback s _
  case abortCapture => simp only [takingOf, takeAbortCapture]; split <;> simp [State.playback]
  case readCapture => simp only [takingOf, takeReadCapture]; (repeat' split) <;> rfl
  case captureInfo => rfl
  case enableEvents mask => exact takeEnableEvents_playback mask s
  case takeEvent => simp only [takingOf, takeTakeEvent]; split <;> simp [State.playback]
  case setSupervision => simp only [takingOf, takeSetSupervision]; (repeat' split) <;> rfl
  case queryIdentity => rfl
  case queryStatus => simp only [takingOf, takeQueryStatus]; split <;> rfl
  case resetPart => simp only [takingOf, takeResetPart]; split <;> rfl

end Sys2Proof.Machine
end

section
/-! What playback leaves of the Clip Store: the points, the free pages, and of every clip its state and its load. Whatever reads
no more than that is kept by every step, once the loading of clips, the verifier and the resets keep it. -/

namespace Sys2Proof.Machine

open Sys2Proof

/-- From `s` to `t` the Clip Store keeps its points, its free pages, and every clip's state and load; reference counts, the
verification order and the verifier's start may change. -/
structure State.StoreKept (s t : State) : Prop where
  points : t.cs.points = s.cs.points
  freePages : t.cs.freePages = s.cs.freePages
  load : ∀ id, (t.clip id).load = (s.clip id).load
  state : ∀ id, (t.clip id).state = (s.clip id).state

theorem State.StoreKept.of_cs {s t : State} (h : t.cs = s.cs) : s.StoreKept t :=
  ⟨by rw [h], by rw [h], fun id => by rw [State.clip_congr id h], fun id => by rw [State.clip_congr id h]⟩

theorem State.StoreKept.trans {s t u : State} (h : s.StoreKept t) (h' : t.StoreKept u) : s.StoreKept u :=
  ⟨h'.points.trans h.points, h'.freePages.trans h.freePages, fun id => (h'.load id).trans (h.load id),
    fun id => (h'.state id).trans (h.state id)⟩

/-! ### The events of playback -/

theorem State.applyAction_storeKept (s : State) (a : Action) (cause : EngineCause) (ch : Option Nat) :
    s.StoreKept (s.applyAction a cause ch) := ⟨by simp, by simp, by simp, by simp⟩

theorem State.releaseContext_storeKept (s : State) : s.StoreKept s.releaseContext := ⟨by simp, by simp, by simp, by simp⟩

theorem State.leaveEntry_storeKept (s : State) (flushed : Bool) (e : Entry) : s.StoreKept (s.leaveEntry flushed e) :=
  ⟨by simp, by simp, by simp, by simp⟩

theorem State.handOn_storeKept (s : State) (cr : Nat × DriveResult) : s.StoreKept (s.handOn cr) :=
  ⟨by simp, by simp, by simp, by simp⟩

theorem State.advanceStage_storeKept (s : State) : s.StoreKept s.advanceStage := ⟨by simp, by simp, by simp, by simp⟩

theorem State.foldl_storeKept {α : Type} {f : State → α → State} (h : ∀ (s : State) a, s.StoreKept (f s a)) :
    ∀ (l : List α) (s : State), s.StoreKept (l.foldl f s)
  | [], _ => .of_cs rfl
  | a :: rest, s => (h s a).trans (State.foldl_storeKept h rest (f s a))

theorem State.endRampOut_storeKept (s : State) : s.StoreKept s.endRampOut := ⟨by simp, by simp, by simp, by simp⟩

theorem State.playedUpdate_storeKept (s : State) : s.StoreKept s.playedUpdate := by
  have hhanded := State.foldl_storeKept State.handOn_storeKept s.rampStep.stampFirst.computeAll
    s.rampStep.stampFirst.dropCaptureDue
  have hplay : s.StoreKept (s.rampStep.stampFirst.dropCaptureDue.playStage s.rampStep.stampFirst.computeAll) :=
    .trans (.of_cs (by simp)) (hhanded.trans (.of_cs (by simp [State.playStage])))
  have hadvance := hplay.trans (State.advanceStage_storeKept _)
  unfold State.playedUpdate
  dsimp only
  split
  · exact hadvance.trans (State.endRampOut_storeKept _)
  · exact hadvance

theorem State.restUpdate_storeKept (s : State) : s.StoreKept s.restUpdate := by
  have hhanded := State.foldl_storeKept State.handOn_storeKept s.computeAll s
  unfold State.restUpdate
  dsimp only
  split
  · exact hhanded.trans (.of_cs (by simp))
  · exact hhanded

theorem State.portUpdate_storeKept (s : State) (ts : List Trigger) (pos : Option Position) :
    s.StoreKept (s.portUpdate ts pos) :=
  .trans (t := s.closeWindows) ⟨by simp, by simp, by simp, by simp⟩ (.of_cs (by simp [State.portUpdate]))

theorem State.raiseUpdate_storeKept (s : State) : s.StoreKept s.raiseUpdate := by
  have hengine : s.countUpdate.StoreKept s.countUpdate.engineUpdate := by
    unfold State.engineUpdate
    split
    · exact State.playedUpdate_storeKept _
    · exact State.restUpdate_storeKept _
  exact .trans (.of_cs (by simp)) (hengine.trans (State.portUpdate_storeKept _ _ _))

/-! ### The requests of playback -/

theorem takeAppendEntry_storeKept (a : AppendFields) (s : State) : s.StoreKept (takeAppendEntry a s).1 := by
  unfold takeAppendEntry
  split
  · exact .of_cs rfl
  · split
    · exact .of_cs rfl
    · exact ⟨by simp, by simp, by simp, by simp⟩

theorem takeModifyEntry_storeKept (entry : Nat) (changes : List FieldChange) (s : State) :
    s.StoreKept (takeModifyEntry entry changes s).1 := by
  unfold takeModifyEntry
  (repeat' split) <;> exact .of_cs (by simp)

theorem takeFlushQueue_storeKept (s : State) : s.StoreKept (takeFlushQueue s).1 := by
  unfold takeFlushQueue
  split
  · exact .of_cs rfl
  · have hemptied : s.StoreKept (s.setSq { s.sq with entries := [], cursor := 0, stack := [], tailDepth := 0 }) := .of_cs rfl
    exact hemptied.trans (State.foldl_storeKept (f := fun t e => t.leaveEntry true e) (fun t e => t.leaveEntry_storeKept true e)
      s.sq.entries _)

theorem takeAdvanceWatch_storeKept (s : State) : s.StoreKept (takeAdvanceWatch s).1 := by
  unfold takeAdvanceWatch
  split <;> exact .of_cs (by simp)

theorem takeStart_storeKept (s : State) : s.StoreKept (takeStart s).1 := by
  unfold takeStart
  split
  · exact .of_cs rfl
  split
  · exact .of_cs rfl
  split
  · exact .of_cs rfl
  split
  · exact .of_cs rfl
  · exact ⟨by simp, by simp, by simp, by simp⟩

theorem takePause_storeKept (s : State) : s.StoreKept (takePause s).1 := by
  unfold takePause
  split <;> exact .of_cs (by simp)

theorem takeResume_storeKept (s : State) : s.StoreKept (takeResume s).1 := by
  unfold takeResume
  (repeat' split) <;> exact .of_cs (by simp)

theorem takeStop_storeKept (s : State) : s.StoreKept (takeStop s).1 := by
  unfold takeStop
  split
  case h_3 => split <;> exact .of_cs (by simp)
  case h_4 => exact .trans (.of_cs (by simp)) (State.releaseContext_storeKept _)
  all_goals exact .of_cs (by simp)

theorem takeClearTrip_storeKept (s : State) : s.StoreKept (takeClearTrip s).1 := by
  unfold takeClearTrip
  split
  · exact .of_cs rfl
  split
  · exact .of_cs rfl
  · exact s.releaseContext_storeKept.trans (.of_cs (by simp))

theorem takeSetRamp_storeKept (ri ro : Nat) (s : State) : s.StoreKept (takeSetRamp ri ro s).1 := by
  unfold takeSetRamp
  split <;> exact .of_cs (by simp)

theorem takeSetTimebase_storeKept (rate source : Nat) (s : State) : s.StoreKept (takeSetTimebase rate source s).1 := by
  unfold takeSetTimebase
  (repeat' split) <;> exact .of_cs (by simp)

/-! ### Freeing clips (R38, R43) -/

theorem State.leaveOrder_storeKept (s : State) (id : Nat) : s.StoreKept (s.leaveOrder id) :=
  ⟨by simp, by simp, by simp, by simp⟩

/-- Everything Free Clip can do: nothing, or free a clip that is not FREE, after a VERIFYING one has left the order (R38). -/
theorem takeFreeClip_cases (id : Nat) (s : State) :
    (takeFreeClip id s).1 = s
      ∨ id < 64 ∧ (s.clip id).refs = 0 ∧ (s.clip id).state ≠ .free
        ∧ (takeFreeClip id s).1 = State.freeClip (if (s.clip id).state = .verifying then s.leaveOrder id else s) id := by
  unfold takeFreeClip
  split
  · exact .inl rfl
  split
  · exact .inl rfl
  · have hid : id < 64 := by omega
    have hrefs : (s.clip id).refs = 0 := by omega
    cases hstate : (s.clip id).state
    case free => exact .inl rfl
    all_goals exact .inr ⟨hid, hrefs, nofun, rfl⟩

/-- What the freeing of unfinished clips keeps, and the clearing of the order and the reference counts, the Clip Store's part of
a warm reset keeps (R43). -/
theorem State.warmResetClips_induction {P : State → Prop} {s : State} (hs : P s)
    (hfreed : ∀ t id, id < 64 → (t.clip id).state ≠ .free → P t → P (t.freeClip id))
    (hcleared : ∀ t, P t → P { t with cs := { t.cs with order := [], clips := t.cs.clips.mapIdx fun _ c => { c with refs := 0 } } }) :
    P s.warmResetClips := by
  refine hcleared _ (List.foldlRecOn _ _ hs fun t ht id hid => ?_)
  have hid : id < 64 := List.mem_range.mp hid
  split
  · next hstate => exact hfreed t id hid (by rw [hstate]; nofun) ht
  · next hstate => exact hfreed t id hid (by rw [hstate]; nofun) ht
  · exact ht

/-- Without references a clip keeps its state and its load. -/
theorem State.clip_cleared (t : State) (id : Nat) :
    State.clip { t with cs := { t.cs with order := [], clips := t.cs.clips.mapIdx fun _ c => { c with refs := 0 } } } id
      = { t.clip id with refs := 0 } := by
  simp only [State.clip, Vector.getElem?_mapIdx]
  cases t.cs.clips[id]? <;> rfl

theorem State.warmReset_cs (s : State) : s.warmReset.cs = s.warmResetClips.cs := by
  unfold State.warmReset
  rfl

/-! ### The laws of the store -/

/-- A law that reads of the part no more than what playback keeps of the Clip Store, and that the requests which load clips, the
freeing of a clip, the verifier and the full reset keep. -/
structure KeptByStore (P : State → Prop) : Prop where
  kept : ∀ s t, s.StoreKept t → P s → P t
  openClip : ∀ id mask upsample length checksum s, P s → P (takeOpenClip id mask upsample length checksum s).1
  clipData : ∀ id offset points s, P s → P (takeClipData id offset points s).1
  closeClip : ∀ id s, P s → P (takeCloseClip id s).1
  freed : ∀ s id, id < 64 → (s.clip id).state ≠ .free → P s → P (s.freeClip id)
  verified : ∀ s id l, (s.clip id).load = some l → P s → P (s.completeVerification id l)
  fullReset : ∀ source s, P s → P (s.makeFullReset source)

namespace KeptByStore

variable {P : State → Prop} (hP : KeptByStore P)
include hP

theorem freeClip (id : Nat) (s : State) (hs : P s) : P (takeFreeClip id s).1 := by
  rcases takeFreeClip_cases id s with h | ⟨hid, -, hstate, h⟩
  · rw [h]; exact hs
  · rw [h]
    split
    · exact hP.freed _ id hid (by simpa using hstate) (hP.kept _ _ (s.leaveOrder_storeKept id) hs)
    · exact hP.freed s id hid hstate hs

theorem warmReset (s : State) (hs : P s) : P s.warmReset := by
  refine hP.kept s.warmResetClips _ (.of_cs s.warmReset_cs) (State.warmResetClips_induction hs hP.freed fun t ht => ?_)
  exact hP.kept t _ ⟨rfl, rfl, fun id => by rw [State.clip_cleared], fun id => by rw [State.clip_cleared]⟩ ht

theorem taking (r : Request) (s : State) (hs : P s) : P (takingOf r s).1 := by
  cases hr : movesPlayback r with
  | false => exact hP.kept s _ (.of_cs (State.playback_eq_iff.mp (takingOf_playback hr s)).1) hs
  | true =>
    cases r <;> first | contradiction | skip
    case openClip => exact hP.openClip _ _ _ _ _ s hs
    case clipData => exact hP.clipData _ _ _ s hs
    case closeClip => exact hP.closeClip _ s hs
    case freeClip => exact hP.freeClip _ s hs
    case appendEntry => exact hP.kept s _ (takeAppendEntry_storeKept _ s) hs
    case modifyEntry => exact hP.kept s _ (takeModifyEntry_storeKept _ _ s) hs
    case flushQueue => exact hP.kept s _ (takeFlushQueue_storeKept s) hs
    case advanceWatch => exact hP.kept s _ (takeAdvanceWatch_storeKept s) hs
    case start => exact hP.kept s _ (takeStart_storeKept s) hs
    case pause => exact hP.kept s _ (takePause_storeKept s) hs
    case resume => exact hP.kept s _ (takeResume_storeKept s) hs
    case stop => exact hP.kept s _ (takeStop_storeKept s) hs
    case clearTrip => exact hP.kept s _ (takeClearTrip_storeKept s) hs
    case setRamp => exact hP.kept s _ (takeSetRamp_storeKept _ _ s) hs
    case setTimebase => exact hP.kept s _ (takeSetTimebase_storeKept _ _ s) hs

/-- Such a law is kept by every operation of the part. -/
theorem keptByOperations : KeptByOperations P where
  line s _ _ _ := hP.kept s _ (.of_cs rfl)
  taking := hP.taking
  warmReset s _ := hP.warmReset s
  fullReset := hP.fullReset
  update s := hP.kept s _ s.raiseUpdate_storeKept
  sourceInternal s := hP.kept s _ (.of_cs rfl)
  action s a cause ch := hP.kept s _ (s.applyAction_storeKept a cause ch)
  record s h pos _ _ := hP.kept s _ (.of_cs (by simp))
  rampIn s _ := hP.kept s _ (.of_cs (by simp))
  rampOut s _ _ := hP.kept s _ (.trans (.of_cs (by simp)) s.rampStep.endRampOut_storeKept)
  passEnd s _ _ := hP.kept s _ ⟨by simp, by simp, by simp, by simp⟩
  passEndRampOut s _ _ := hP.kept s _ (.of_cs (by simp))
  response s ch w f sp st _ _ := hP.kept s _ ⟨by simp, by simp, by simp, by simp⟩
  envelope s ch f stamp := hP.kept s _ ⟨by simp, by simp, by simp, by simp⟩
  tracking s ch f stamp := hP.kept s _ ⟨by simp, by simp, by simp, by simp⟩
  clampRate s ch := hP.kept s _ ⟨by simp, by simp, by simp, by simp⟩
  window s ch := hP.kept s _ ⟨by simp, by simp, by simp, by simp⟩
  rigReady s _ := hP.kept s _ (.of_cs rfl)
  markEdge s m rising _ := hP.kept s _ (.of_cs (by simp))
  verified s id _ l _ := hP.verified s id l

end KeptByStore

/-! ### Point memory (log entry 4) -/

theorem takeOpenClip_points (id mask upsample length checksum : Nat) (s : State) :
    (takeOpenClip id mask upsample length checksum s).1.cs.points = s.cs.points := by
  unfold takeOpenClip
  dsimp only
  (repeat' split) <;> rfl

theorem takeCloseClip_points (id : Nat) (s : State) : (takeCloseClip id s).1.cs.points = s.cs.points := by
  unfold takeCloseClip
  (repeat' split) <;> simp

/-- Clip Data leaves point memory alone or stores its points there (R31). -/
theorem takeClipData_points (id offset : Nat) (points : List Point) (s : State) :
    (takeClipData id offset points s).1.cs.points = s.cs.points
      ∨ ∃ l, (takeClipData id offset points s).1.cs.points = storePoints s.cs.points l offset points := by
  unfold takeClipData
  split
  · exact .inl rfl
  split
  · split
    · exact .inl rfl
    split
    · exact .inl rfl
    · exact .inr ⟨_, rfl⟩
  · exact .inl rfl

theorem State.makeFullReset_points (s : State) (source : ResetSource) : (s.makeFullReset source).cs.points = s.cs.points := by
  unfold State.makeFullReset
  rfl

theorem State.PointsCanonical.congr {s t : State} (h : t.cs.points = s.cs.points) (hs : s.PointsCanonical) :
    t.PointsCanonical := by
  rwa [State.PointsCanonical, h]

/-- Loading is the one operation that writes point memory, and it writes word by word. -/
theorem pointsCanonical_keptByStore : KeptByStore State.PointsCanonical where
  kept _ _ h := .congr h.points
  openClip id mask upsample length checksum s := .congr (takeOpenClip_points id mask upsample length checksum s)
  clipData id offset points s hs := by
    rcases takeClipData_points id offset points s with h | ⟨l, h⟩
    · exact hs.congr h
    · rw [State.PointsCanonical, h]
      exact ramWf_storePoints l points offset hs
  closeClip id s := .congr (takeCloseClip_points id s)
  freed s id _ _ := .congr (s.freeClip_points id)
  verified s id l _ := .congr (s.completeVerification_points id l)
  fullReset source s := .congr (s.makeFullReset_points source)

/-- Settles O52: the law reads point memory alone, and only Clip Data writes it. -/
theorem stepKeepsPointMemoryCanonical : Obligations.StepKeepsPointMemoryCanonical :=
  fun _ _ hs h => pointsCanonical_keptByStore.keptByOperations.of_step hs h

end Sys2Proof.Machine
end

section
/-! The pages of point memory: each is free or with exactly one clip, and every list of pages ascends (R25 to R27). -/

namespace Sys2Proof.Machine

open Sys2Proof

/-! ### Merging pages back (R26) -/

/-- Merging a page into an ascending list is the insertion of a sorted list. -/
theorem insertPage_eq (p : Nat) : ∀ l : List Nat, insertPage p l = l.orderedInsert (· ≤ ·) p
  | [] => rfl
  | q :: rest => by rw [insertPage, List.orderedInsert_cons, insertPage_eq p rest]

theorem mergePages_perm (free : List Nat) : ∀ pages : List Nat, (mergePages pages free).Perm (pages ++ free)
  | [] => .refl _
  | p :: rest => by
    have hinsert : (insertPage p (mergePages rest free)).Perm (p :: mergePages rest free) := by
      rw [insertPage_eq]
      exact List.perm_orderedInsert _ p _
    exact hinsert.trans ((mergePages_perm free rest).cons p)

theorem mergePages_pairwise_le {free : List Nat} (h : free.Pairwise (· ≤ ·)) :
    ∀ pages : List Nat, (mergePages pages free).Pairwise (· ≤ ·)
  | [] => h
  | p :: rest => by
    show (insertPage p (mergePages rest free)).Pairwise (· ≤ ·)
    rw [insertPage_eq]
    exact List.Pairwise.orderedInsert p _ (mergePages_pairwise_le h rest)

/-- Pages that are not yet in an ascending list leave it ascending when they are merged in. -/
theorem mergePages_ascending {pages free : List Nat} (h : free.Pairwise (· < ·)) (hnodup : (pages ++ free).Nodup) :
    (mergePages pages free).Pairwise (· < ·) := by
  have hle := mergePages_pairwise_le (h.imp le_of_lt) pages
  have hne : (mergePages pages free).Nodup := (mergePages_perm free pages).nodup_iff.mpr hnodup
  exact (hle.and hne).imp fun hab => lt_of_le_of_ne hab.1 hab.2

/-! ### The pages of one clip and of the others -/

/-- The pages that the clips other than `id` hold. -/
def State.pagesBut (s : State) (id : Nat) : List Nat := ((List.range 64).erase id).flatMap s.clipPages

theorem State.heldPages_perm (s : State) {id : Nat} (h : id < 64) : s.heldPages.Perm (s.clipPages id ++ s.pagesBut id) :=
  (List.perm_cons_erase (List.mem_range.mpr h)).flatMap_right s.clipPages

theorem State.clipPages_congr {s t : State} {id : Nat} (h : (t.clip id).load = (s.clip id).load) :
    t.clipPages id = s.clipPages id := by
  rw [State.clipPages, State.clipPages, h]

theorem State.pagesBut_congr {s t : State} {id : Nat} (h : ∀ j, j ≠ id → t.clip j = s.clip j) :
    t.pagesBut id = s.pagesBut id :=
  List.flatMap_congr fun j hj =>
    State.clipPages_congr (congrArg Clip.load (h j ((List.nodup_range.mem_erase_iff.mp hj).1)))

namespace State.PagesPartitioned

variable {s t : State}

/-- A clip that changes alone keeps the law when its pages and the free ones together stay the same pages. -/
theorem exchange (hs : s.PagesPartitioned) {id : Nat} (hid : id < 64) (hother : ∀ j, j ≠ id → t.clip j = s.clip j)
    (hfree : t.cs.freePages.Pairwise (· < ·)) (hclip : (t.clipPages id).Pairwise (· < ·))
    (hperm : (t.cs.freePages ++ t.clipPages id).Perm (s.cs.freePages ++ s.clipPages id))
    (hnone : (t.clip id).state = .free → (t.clip id).load = none) : t.PagesPartitioned where
  free_ascending := hfree
  clip_ascending j hj := by
    by_cases hji : j = id
    · exact hji ▸ hclip
    · rw [State.clipPages_congr (congrArg Clip.load (hother j hji))]
      exact hs.clip_ascending j hj
  partition := by
    have hsplit : ∀ u : State, (u.cs.freePages ++ u.heldPages).Perm ((u.cs.freePages ++ u.clipPages id) ++ u.pagesBut id) :=
      fun u => by rw [List.append_assoc]; exact (u.heldPages_perm hid).append_left _
    calc (t.cs.freePages ++ t.heldPages).Perm _ := hsplit t
      _ |>.Perm ((s.cs.freePages ++ s.clipPages id) ++ s.pagesBut id) := State.pagesBut_congr hother ▸ hperm.append_right _
      _ |>.Perm (s.cs.freePages ++ s.heldPages) := (hsplit s).symm
      _ |>.Perm (List.range 2048) := hs.partition
  free_holds_none j hj := by
    by_cases hji : j = id
    · exact hji ▸ hnone
    · rw [hother j hji]
      exact hs.free_holds_none j hj

/-- Where the clips keep their pages and no clip becomes FREE with a load, the law stands. -/
theorem congr (hs : s.PagesPartitioned) (hfree : t.cs.freePages = s.cs.freePages)
    (hpages : ∀ id, t.clipPages id = s.clipPages id)
    (hnone : ∀ id, id < 64 → (t.clip id).state = .free → (t.clip id).load = none) : t.PagesPartitioned where
  free_ascending := hfree ▸ hs.free_ascending
  clip_ascending id hid := hpages id ▸ hs.clip_ascending id hid
  partition := by
    have hheld : t.heldPages = s.heldPages := congrArg (List.range Config.clips).flatMap (funext hpages)
    rw [hfree, hheld]
    exact hs.partition
  free_holds_none := hnone

theorem of_storeKept (hs : s.PagesPartitioned) (h : s.StoreKept t) : t.PagesPartitioned :=
  hs.congr h.freePages (fun id => State.clipPages_congr (h.load id)) fun id hid hstate => by
    rw [h.load id]
    exact hs.free_holds_none id hid (h.state id ▸ hstate)

/-- A clip whose record is replaced by one that is not FREE and has the same pages. -/
theorem setClip (hs : s.PagesPartitioned) {id : Nat} (hid : id < 64) {c : Clip} (hstate : c.state ≠ .free)
    (hpages : (c.load.map (·.pages)).getD [] = s.clipPages id) : (s.setClip id c).PagesPartitioned := by
  have hclip : (s.setClip id c).clip id = c := s.clip_setClip_same id c hid
  have hsame : (s.setClip id c).clipPages id = s.clipPages id := by rw [State.clipPages, hclip, hpages]
  refine hs.exchange hid (fun j => s.clip_setClip_other id j c) hs.free_ascending ?_ ?_ ?_
  · exact hsame ▸ hs.clip_ascending id hid
  · exact hsame ▸ .refl _
  · exact fun h => absurd (hclip ▸ h) hstate

/-- No page is both free and with a clip. -/
theorem nodup (hs : s.PagesPartitioned) {id : Nat} (hid : id < 64) : (s.clipPages id ++ s.cs.freePages).Nodup := by
  have hall : (s.cs.freePages ++ (s.clipPages id ++ s.pagesBut id)).Nodup :=
    ((s.heldPages_perm hid).append_left _ |>.symm.trans hs.partition).nodup_iff.mpr List.nodup_range
  rw [← List.append_assoc] at hall
  exact List.nodup_append_comm.mp hall.of_append_left

end State.PagesPartitioned

/-! ### The requests and events of the store -/

/-- A clip that is freed gives its pages back (R26, R27). -/
theorem State.freeClip_pagesPartitioned {s : State} (hs : s.PagesPartitioned) {id : Nat} (hid : id < 64) :
    (s.freeClip id).PagesPartitioned := by
  have hfree : (s.freeClip id).cs.freePages = mergePages (s.clipPages id) s.cs.freePages := rfl
  have hclip : (s.freeClip id).clip id = { Clip.reset with refs := (s.clip id).refs } := s.clip_setClip_same id _ hid
  have hnone : (s.freeClip id).clipPages id = [] := by rw [State.clipPages, hclip]; rfl
  refine hs.exchange hid (fun j => s.clip_setClip_other id j _) ?_ ?_ ?_ ?_
  · exact hfree ▸ mergePages_ascending hs.free_ascending (hs.nodup hid)
  · exact hnone ▸ .nil
  · rw [hfree, hnone, List.append_nil]
    exact (mergePages_perm _ _).trans List.perm_append_comm
  · exact fun _ => by rw [hclip]; rfl

/-- Open Clip moves the lowest free pages to a clip that held none (R30). -/
theorem takeOpenClip_pagesPartitioned {s : State} (hs : s.PagesPartitioned) (id mask upsample length checksum : Nat) :
    (takeOpenClip id mask upsample length checksum s).1.PagesPartitioned := by
  unfold takeOpenClip
  dsimp only
  split
  · exact hs
  split
  · exact hs
  split
  · exact hs
  split
  · exact hs
  split
  · exact hs
  split
  · exact hs
  · next hid hstate _ _ _ _ =>
    have hid : id < 64 := by omega
    have hheld : s.clipPages id = [] := by
      rw [State.clipPages, hs.free_holds_none id hid (not_not.mp hstate)]
      rfl
    generalize pagesFor (length * (maskChannels mask).length) = need
    generalize hc : ({ state := .loading, load := _, computed := _, failReason := _, refs := _ } : Clip) = c
    have hclip : State.clip (s.setClip id c) id = c := s.clip_setClip_same id c hid
    have htaken : State.clipPages (s.setClip id c) id = s.cs.freePages.take need := by
      rw [State.clipPages, hclip, ← hc]
      rfl
    rw [accept_fst]
    refine hs.exchange hid (fun j => s.clip_setClip_other id j c) ?_ ?_ ?_ ?_
    · exact hs.free_ascending.sublist (List.drop_sublist need _)
    · exact htaken ▸ hs.free_ascending.sublist (List.take_sublist need _)
    · show (s.cs.freePages.drop need ++ State.clipPages (s.setClip id c) id).Perm _
      rw [htaken, hheld, List.append_nil]
      exact List.perm_append_comm.trans (List.take_append_drop need _ ▸ .refl _)
    · intro h
      have hfree : c.state = .free := hclip ▸ h
      rw [← hc] at hfree
      cases hfree

theorem takeClipData_pagesPartitioned {s : State} (hs : s.PagesPartitioned) (id offset : Nat) (points : List Point) :
    (takeClipData id offset points s).1.PagesPartitioned := by
  unfold takeClipData
  split
  · exact hs
  · next hin =>
    split
    · next l hstate hload =>
      split
      · exact hs
      split
      · exact hs
      · have hset := hs.setClip (id := id) (by omega) (c := { s.clip id with
            load := some { l with received := l.received + points.length } })
          (by simp [hstate]) (by rw [State.clipPages, hload]; rfl)
        exact hset.congr rfl (fun _ => rfl) hset.free_holds_none
    · exact hs

theorem takeCloseClip_pagesPartitioned {s : State} (hs : s.PagesPartitioned) (id : Nat) :
    (takeCloseClip id s).1.PagesPartitioned := by
  unfold takeCloseClip
  split
  · exact hs
  · next hin =>
    split
    · next l hstate hload =>
      split
      · have hset := hs.setClip (id := id) (by omega)
          (c := { s.clip id with state := .failed, failReason := some .incomplete }) (by simp) rfl
        exact hset.of_storeKept (.of_cs (by simp))
      · have hset := hs.setClip (id := id) (by omega) (c := { s.clip id with state := .verifying }) (by simp) rfl
        exact hset.congr rfl (fun _ => rfl) hset.free_holds_none
    · exact hs

/-- A clip with a load is one of the table. -/
theorem State.lt_of_load {s : State} {id : Nat} {l : ClipLoad} (h : (s.clip id).load = some l) : id < 64 := by
  by_contra hge
  simp [State.clip, hge, Clip.reset] at h

theorem State.completeVerification_pagesPartitioned {s : State} (hs : s.PagesPartitioned) {id : Nat} {l : ClipLoad}
    (hload : (s.clip id).load = some l) : (s.completeVerification id l).PagesPartitioned := by
  unfold State.completeVerification
  dsimp only
  have hset := hs.setClip (id := id) (State.lt_of_load hload) (c := { s.clip id with
      state := if checksumOf (clipPointList s.cs l) = l.expected then .ready else .failed,
      computed := some (checksumOf (clipPointList s.cs l)),
      failReason := if checksumOf (clipPointList s.cs l) = l.expected then none else some .checksum })
    (by dsimp only; split <;> nofun) rfl
  exact (hset.of_storeKept (State.leaveOrder_storeKept _ id)).of_storeKept (.of_cs (by simp))

/-- All pages are free after a full reset (R26). -/
theorem State.makeFullReset_pagesPartitioned (s : State) (source : ResetSource) :
    (s.makeFullReset source).PagesPartitioned := by
  have hpages : ∀ id, (s.makeFullReset source).clipPages id = [] := fun id => by
    rw [State.clipPages, makeFullReset_clip]
    rfl
  have hfree : (s.makeFullReset source).cs.freePages = List.range Config.pages := by
    simp only [State.makeFullReset, ClipStore.reset]
  refine ⟨hfree ▸ List.pairwise_lt_range, fun id _ => hpages id ▸ .nil, ?_, fun id _ _ => by rw [makeFullReset_clip]; rfl⟩
  have hheld : (s.makeFullReset source).heldPages = [] := List.flatMap_eq_nil_iff.mpr fun id _ => hpages id
  rw [hfree, hheld, List.append_nil]

theorem pagesPartitioned_keptByStore : KeptByStore State.PagesPartitioned where
  kept _ _ h hs := hs.of_storeKept h
  openClip id mask upsample length checksum _ hs := takeOpenClip_pagesPartitioned hs id mask upsample length checksum
  clipData id offset points _ hs := takeClipData_pagesPartitioned hs id offset points
  closeClip id _ hs := takeCloseClip_pagesPartitioned hs id
  freed _ _ hid _ hs := State.freeClip_pagesPartitioned hs hid
  verified _ _ _ hload hs := State.completeVerification_pagesPartitioned hs hload
  fullReset source s _ := s.makeFullReset_pagesPartitioned source

/-- Settles O53: a page changes hands at Open Clip and where a clip becomes FREE, and both move it from one place to one place. -/
theorem stepKeepsPagesPartitioned : Obligations.StepKeepsPagesPartitioned :=
  fun _ _ hs h => pagesPartitioned_keptByStore.keptByOperations.of_step hs h

end Sys2Proof.Machine
end

section
/-! The ledger of a state: what refers to its clips. The operations of playback keep it, or change it together with the
reference counts (R36). -/

namespace Sys2Proof.Machine

open Sys2Proof

/-! ### The ledger -/

/-- The clip a context plays; a DWELL plays none. -/
def Context.clipOf (c : Context) : Option Nat :=
  match c.body with
  | .play p => some p.clip
  | .dwell _ => none

/-- The clip a PLAY entry names. -/
def Entry.clipOf (e : Entry) : Option Nat :=
  match e.body with
  | .play f _ => some f.clip
  | .dwell _ _ => none
  | .loopOpen _ => none
  | .loopClose => none

/-- What the context, if there is one, and the entries refer to. -/
structure Ledger where
  context : Option (Option Nat)
  entries : List (Option Nat)

/-- How often a clip is referred to (R36). -/
def Ledger.holders (l : Ledger) (id : Nat) : Nat :=
  l.entries.count (some id) + if l.context = some (some id) then 1 else 0

/-- The ledger of a state. -/
def State.ledger (s : State) : Ledger :=
  { context := s.pe.ctx.map Context.clipOf, entries := s.sq.entries.map Entry.clipOf }

theorem Entry.plays_eq (id : Nat) (e : Entry) : Entry.plays id e = (e.clipOf == some id) := by
  unfold Entry.plays Entry.clipOf
  cases e.body <;> simp

theorem State.contextHolds_iff (s : State) (id : Nat) : s.contextHolds id = true ↔ s.ledger.context = some (some id) := by
  unfold State.contextHolds State.ledger
  cases s.pe.ctx with
  | none => simp
  | some c =>
    obtain ⟨tag, body, counted, overrun, cut, first, last, due⟩ := c
    cases body <;> simp [Context.clipOf]

/-- The right-hand side of the law of the reference counts, read off the ledger. -/
theorem State.holders_eq (s : State) (id : Nat) :
    s.sq.entries.countP (Entry.plays id) + (if s.contextHolds id then 1 else 0) = s.ledger.holders id := by
  have hentries : s.sq.entries.countP (Entry.plays id) = s.ledger.entries.count (some id) := by
    rw [State.ledger, List.count, List.countP_map]
    exact List.countP_congr fun e _ => by rw [Entry.plays_eq]; rfl
  simp only [hentries, Ledger.holders, State.contextHolds_iff]

/-- The first part of the law: every reference count is what refers to the clip. -/
def State.RefsCounted (s : State) : Prop := ∀ id, id < 64 → (s.clip id).refs = s.ledger.holders id

/-- The engine states without a context (R90, R96). -/
def State.Resting (s : State) : Prop := s.pe.state = .idle ∨ s.pe.state = .returning

theorem State.refsLawful_iff (s : State) : s.RefsLawful ↔ s.RefsCounted ∧ (s.Resting → s.pe.ctx = none) :=
  ⟨fun h => ⟨fun id hid => (h.counted id hid).trans (s.holders_eq id), h.no_context⟩,
    fun h => ⟨fun id hid => (h.1 id hid).trans (s.holders_eq id).symm, h.2⟩⟩

theorem State.RefsLawful.refsCounted {s : State} (h : s.RefsLawful) : s.RefsCounted := (s.refsLawful_iff.mp h).1

theorem State.ledger_congr {s t : State} (hctx : t.pe.ctx = s.pe.ctx) (hentries : t.sq.entries = s.sq.entries) :
    t.ledger = s.ledger := by
  rw [State.ledger, State.ledger, hctx, hentries]

theorem State.ctx_eq_none_iff (s : State) : s.pe.ctx = none ↔ s.ledger.context = none := by simp [State.ledger]

theorem State.RefsCounted.congr {s t : State} (hs : s.RefsCounted) (hrefs : ∀ id, (t.clip id).refs = (s.clip id).refs)
    (hledger : t.ledger = s.ledger) : t.RefsCounted := fun id hid => by rw [hrefs, hledger, hs id hid]

theorem State.RefsCounted.keep {s t : State} (hs : s.RefsCounted) (hcs : t.cs = s.cs) (hledger : t.ledger = s.ledger) :
    t.RefsCounted := hs.congr (fun id => by rw [State.clip_congr id hcs]) hledger

namespace State.RefsLawful

variable {s t : State}

/-- Reference counts and ledger as they were, and no rest begun: the law stands. -/
theorem congr (hs : s.RefsLawful) (hrefs : ∀ id, (t.clip id).refs = (s.clip id).refs) (hledger : t.ledger = s.ledger)
    (hrest : t.Resting → s.Resting) : t.RefsLawful :=
  t.refsLawful_iff.mpr ⟨hs.refsCounted.congr hrefs hledger, fun ht => by
    rw [State.ctx_eq_none_iff, hledger, ← State.ctx_eq_none_iff]
    exact hs.no_context (hrest ht)⟩

theorem keep (hs : s.RefsLawful) (hcs : t.cs = s.cs) (hledger : t.ledger = s.ledger) (hrest : t.Resting → s.Resting) :
    t.RefsLawful := hs.congr (fun id => by rw [State.clip_congr id hcs]) hledger hrest

/-- A state with the same three blocks. -/
theorem keep_blocks (hs : s.RefsLawful) (h : t.playback = s.playback) : t.RefsLawful := by
  obtain ⟨hcs, hsq, hpe⟩ := State.playback_eq_iff.mp h
  exact hs.keep hcs (State.ledger_congr (by rw [hpe]) (by rw [hsq])) (by rw [State.Resting, hpe]; exact id)

/-- Where a context is, the engine does not rest. -/
theorem not_resting (hs : s.RefsLawful) {c : Context} (hc : s.pe.ctx = some c) : ¬ s.Resting := fun h => by
  have := hs.no_context h
  simp [hc] at this

end State.RefsLawful

/-! ### What the operations leave of the ledger -/

section ledger
variable (s : State)

theorem State.setPe_ledger {e : Engine} (h : e.ctx = s.pe.ctx) : (s.setPe e).ledger = s.ledger := State.ledger_congr h rfl

theorem State.setCtx_ledger {c : Option Context} (h : c.map Context.clipOf = s.pe.ctx.map Context.clipOf) :
    (s.setCtx c).ledger = s.ledger := by
  simp [State.ledger, h]

theorem State.raise_ledger (c : Cause) (d : Option Detail) : (s.raise c d).ledger = s.ledger :=
  State.ledger_congr (by simp) (by simp)

theorem State.enterState_ledger (new : EngineState) (cause : Option EngineCause) :
    (s.enterState new cause).ledger = s.ledger :=
  State.ledger_congr (by rw [State.enterState_pe]) (by simp)

theorem State.fireWatch_ledger : s.fireWatch.ledger = s.ledger := State.ledger_congr (by simp) s.fireWatch_entries

theorem State.enterStopped_ledger (new : EngineState) (cause : Option EngineCause) :
    (s.enterStopped new cause).ledger = s.ledger := (State.fireWatch_ledger _).trans (s.enterState_ledger new cause)

theorem State.enterTripped_ledger (cause : EngineCause) (ch : Option Nat) : (s.enterTripped cause ch).ledger = s.ledger :=
  State.ledger_congr (by rw [State.enterTripped_pe]) (by simp [State.enterTripped, State.fireWatch_entries])

/-- A change of an entry that goes on naming its clip. -/
theorem State.mapEntry_ledger {pos : Nat} {f : Entry → Entry}
    (h : ∀ e, s.sq.entries[pos]? = some e → (f e).clipOf = e.clipOf) : (s.mapEntry pos f).ledger = s.ledger := by
  have hentries : (s.sq.entries.modify pos f).map Entry.clipOf = s.sq.entries.map Entry.clipOf := by
    refine List.ext_getElem? fun i => ?_
    rw [List.getElem?_map, List.getElem?_map, List.getElem?_modify]
    cases he : s.sq.entries[i]? with
    | none => rfl
    | some e =>
      by_cases hi : pos = i
      · subst hi
        simp [h e he]
      · simp [hi]
  simp [State.ledger, State.mapEntry, hentries]

theorem Entry.clipOf_mapRuntime (e : Entry) (f : Runtime → Runtime) : (e.mapRuntime f).clipOf = e.clipOf := by
  obtain ⟨tag, body⟩ := e
  cases body <;> rfl

theorem State.mapHeld_ledger (f : Runtime → Runtime) : (s.mapHeld f).ledger = s.ledger :=
  s.mapEntry_ledger fun e _ => e.clipOf_mapRuntime f

theorem Context.clipOf_newPass (c : Context) (overrun : Bool) : (c.newPass overrun).clipOf = c.clipOf := by
  unfold Context.newPass Context.clipOf
  cases c.body <;> rfl

theorem Context.clipOf_advanced (c : Context) : c.advanced.clipOf = c.clipOf := by
  unfold Context.advanced Context.clipOf
  cases c.body <;> rfl

theorem Context.clipOf_mapStats (c : Context) (f : StatRecord → StatRecord) : (c.mapStats f).clipOf = c.clipOf := by
  unfold Context.mapStats Context.clipOf
  cases hb : c.body <;> simp [hb]

theorem State.latchPending_ledger (g : Nat) : (s.latchPending g).ledger = s.ledger :=
  State.ledger_congr (by simp) (by simp)

/-- A reload point changes the gain set of a context, not its clip (R79). -/
theorem State.reloadPoint_ledger : s.reloadPoint.ledger = s.ledger := by
  unfold State.reloadPoint
  split
  · next c _ _ _ hc _ =>
    split
    · next p hb =>
      rw [State.fireWatch_ledger, State.latchPending_ledger]
      exact s.setCtx_ledger (by simp [hc, Context.clipOf, hb])
    · exact s.fireWatch_ledger
  · exact s.fireWatch_ledger

/-- A change of the context, if there is one, that goes on playing its clip. -/
theorem Context.map_clipOf {f : Context → Context} (h : ∀ c, (f c).clipOf = c.clipOf) (ctx : Option Context) :
    (ctx.map f).map Context.clipOf = ctx.map Context.clipOf := by
  simp [Function.comp_def, h]

theorem State.setCut_ledger : s.setCut.ledger = s.ledger := s.setCtx_ledger (Context.map_clipOf (fun _ => by rfl) _)

theorem State.mapStat_ledger (ch : Nat) (f : StatRecord → StatRecord) : (s.mapStat ch f).ledger = s.ledger := by
  rw [State.ledger, State.mapStat_pe, State.mapStat_sq, Context.map_clipOf fun c => c.clipOf_mapStats _]
  rfl

theorem State.dropCaptureDue_ledger : s.dropCaptureDue.ledger = s.ledger :=
  s.setCtx_ledger (Context.map_clipOf (fun _ => by rfl) _)

theorem State.stampLast_ledger : s.stampLast.ledger = s.ledger :=
  s.setCtx_ledger (Context.map_clipOf (fun _ => by rfl) _)

theorem State.stampFirst_ledger : s.stampFirst.ledger = s.ledger := by
  unfold State.stampFirst
  split
  · next c hc =>
    split
    · rfl
    · exact (State.setCtx_ledger _ (by simp [hc, Context.clipOf])).trans (s.mapHeld_ledger _)
  · rfl

theorem State.rampStep_ledger : s.rampStep.ledger = s.ledger :=
  State.ledger_congr (by rw [State.rampStep_pe, Engine.ramped_ctx]) (by simp)

theorem Engine.cut_ctx_clipOf (e : Engine) : e.cut.ctx.map Context.clipOf = e.ctx.map Context.clipOf := by
  unfold Engine.cut
  split
  · exact Context.map_clipOf (fun _ => by rfl) _
  · exact Context.map_clipOf (fun _ => by rfl) _
  · rfl

theorem State.markCompare_ledger (p : PlayPosition) (m : Nat) : (s.markCompare p m).ledger = s.ledger := by
  rw [State.ledger, State.markCompare_pe, State.markCompare_sq, State.ledger]
  split
  · rw [Engine.cut_ctx_clipOf]
  · rfl

theorem State.countPass_ledger {c : Context} (hc : s.pe.ctx = some c) : (s.countPass c).ledger = s.ledger := by
  unfold State.countPass
  split
  · rfl
  · exact (State.setCtx_ledger _ (by simp [hc, Context.clipOf])).trans (s.mapHeld_ledger _)

theorem State.addDone_ledger (tag : Nat) (kind : PlayKind) (flushed notify : Bool) (r : Runtime) :
    (s.addDone tag kind flushed notify r).ledger = s.ledger := by
  refine State.ledger_congr (by simp) ?_
  unfold State.addDone
  dsimp only
  split <;> simp

theorem State.dropRef_ledger (id : Nat) : (s.dropRef id).ledger = s.ledger := rfl

theorem State.addRef_ledger (id : Nat) : (s.addRef id).ledger = s.ledger := rfl

theorem State.leaveEntry_ledger (flushed : Bool) (e : Entry) : (s.leaveEntry flushed e).ledger = s.ledger := by
  unfold State.leaveEntry
  split
  · exact (State.addDone_ledger _ _ _ _ _ _).trans (s.dropRef_ledger _)
  · exact s.addDone_ledger _ _ _ _ _
  · rfl
  · rfl

theorem State.dropContextRef_ledger (c : Context) : (s.dropContextRef c).ledger = s.ledger := by
  unfold State.dropContextRef
  split <;> rfl

end ledger

/-! ### Reference counts (R36) -/

section refs
variable (s : State)

/-- A clip's record replaced by one with the same count. -/
theorem State.clip_setClip_refs (id j : Nat) (c : Clip) (h : c.refs = (s.clip id).refs) :
    ((s.setClip id c).clip j).refs = (s.clip j).refs := by
  by_cases hj : j = id
  · subst hj
    by_cases hb : j < 64
    · rw [State.clip_setClip_same s j c hb, h]
    · simp [State.clip, State.setClip, hb]
  · rw [State.clip_setClip_other s id j c hj]

theorem State.addRef_refs (j : Nat) {id : Nat} (h : id < 64) :
    ((s.addRef j).clip id).refs = (s.clip id).refs + if some j = some id then 1 else 0 := by
  by_cases hj : id = j
  · subst hj
    simp [State.addRef, State.clip_setClip_same s id _ h]
  · simp [State.addRef, State.clip_setClip_other s j id _ hj, Ne.symm hj]

theorem State.dropRef_refs (j : Nat) {id : Nat} (h : id < 64) :
    ((s.dropRef j).clip id).refs = (s.clip id).refs - if some j = some id then 1 else 0 := by
  by_cases hj : id = j
  · subst hj
    simp [State.dropRef, State.clip_setClip_same s id _ h]
  · simp [State.dropRef, State.clip_setClip_other s j id _ hj, Ne.symm hj]

theorem State.leaveEntry_refs (flushed : Bool) (e : Entry) {id : Nat} (h : id < 64) :
    ((s.leaveEntry flushed e).clip id).refs = (s.clip id).refs - if e.clipOf = some id then 1 else 0 := by
  obtain ⟨tag, body⟩ := e
  unfold State.leaveEntry Entry.clipOf
  cases body
  case play f r => exact (congrArg Clip.refs (State.addDone_clip _ _ _ _ _ _ id)).trans (s.dropRef_refs f.clip h)
  case dwell f r => exact congrArg Clip.refs (s.addDone_clip _ _ _ _ _ id)
  case loopOpen => rfl
  case loopClose => rfl

theorem State.dropContextRef_refs (c : Context) {id : Nat} (h : id < 64) :
    ((s.dropContextRef c).clip id).refs = (s.clip id).refs - if c.clipOf = some id then 1 else 0 := by
  unfold State.dropContextRef Context.clipOf
  cases c.body
  case play p => exact s.dropRef_refs p.clip h
  case dwell => rfl

end refs

/-! ### Entries and visits -/

/-- The clip of an entry that leaves is referred to once less. -/
theorem Ledger.holders_cons (ctx : Option (Option Nat)) (e : Option Nat) (es : List (Option Nat)) (id : Nat) :
    Ledger.holders { context := ctx, entries := e :: es } id
      = Ledger.holders { context := ctx, entries := es } id + if e = some id then 1 else 0 := by
  simp only [Ledger.holders, List.count_cons, beq_iff_eq]
  omega

theorem Ledger.holders_append_singleton (ctx : Option (Option Nat)) (e : Option Nat) (es : List (Option Nat)) (id : Nat) :
    Ledger.holders { context := ctx, entries := es ++ [e] } id
      = Ledger.holders { context := ctx, entries := es } id + if e = some id then 1 else 0 := by
  simp only [Ledger.holders, List.count_append, List.count_singleton, beq_iff_eq]
  omega

theorem Ledger.holders_context (c : Option Nat) (es : List (Option Nat)) (id : Nat) :
    Ledger.holders { context := some c, entries := es } id
      = Ledger.holders { context := none, entries := es } id + if c = some id then 1 else 0 := by
  simp [Ledger.holders]

/-- Retirement drops a reference with every entry (R57, R58). -/
theorem State.RefsCounted.retire : ∀ (n : Nat) {s : State}, s.RefsCounted → (s.retire n).RefsCounted
  | 0, _, hs => hs
  | n + 1, s, hs => by
    unfold State.retire
    split
    · exact hs
    · next e rest he =>
      refine State.RefsCounted.retire n fun id hid => ?_
      have hold : (s.clip id).refs = _ := hs id hid
      rw [State.ledger, he, List.map_cons, Ledger.holders_cons] at hold
      rw [State.leaveEntry_refs _ _ _ hid, State.leaveEntry_ledger, State.setSq_clip, hold, Nat.add_sub_cancel]
      rfl

theorem State.RefsCounted.realRun {s : State} (hs : s.RefsCounted) (start : Nat) : (s.realRun start).RefsCounted :=
  State.RefsCounted.retire _ (hs.keep (by simp) (State.ledger_congr (by simp) rfl))

/-- A visit that leaves the context takes its reference with it, whatever it writes into the entry played (R90, R91). -/
theorem State.RefsCounted.dropVisit {s : State} (hs : s.RefsCounted) {c : Context} (hc : s.pe.ctx = some c)
    (f : Runtime → Runtime) : (((s.mapHeld f).dropContextRef c).setCtx none).RefsCounted := fun id hid => by
  have hold : (s.clip id).refs = _ := hs id hid
  rw [State.ledger, hc, Option.map_some, Ledger.holders_context] at hold
  have hentries : (((s.mapHeld f).dropContextRef c).setCtx none).ledger.entries = s.ledger.entries :=
    (congrArg Ledger.entries (State.dropContextRef_ledger _ c)).trans (congrArg Ledger.entries (s.mapHeld_ledger f))
  have hledger : (((s.mapHeld f).dropContextRef c).setCtx none).ledger = { context := none, entries := s.ledger.entries } := by
    rw [← hentries]
    rfl
  rw [State.setCtx_clip, State.dropContextRef_refs _ _ hid, State.mapHeld_clip, hold, Nat.add_sub_cancel, hledger]
  rfl

/-- A context release drops the context's reference, and those of the entries that retire with it (R90). -/
theorem State.RefsCounted.releaseContext {s : State} (hs : s.RefsCounted) : s.releaseContext.RefsLawful := by
  refine (State.refsLawful_iff _).mpr ⟨?_, fun _ => by rw [State.releaseContext_pe]⟩
  unfold State.releaseContext
  split
  · exact hs
  · next c hc =>
    split
    · exact (hs.dropVisit hc _).realRun _
    · exact hs.dropVisit hc _

/-- A visit is loaded where the counts have room for what its context refers to (R78). -/
theorem State.refsCounted_visitLoaded {s : State} {c : Context}
    (h : ∀ id, id < 64 → (s.clip id).refs = Ledger.holders { context := some c.clipOf, entries := s.ledger.entries } id) :
    ((s.setCtx (some c)).passStart).reloadPoint.RefsCounted := fun id hid => by
  rw [State.reloadPoint_ledger, State.reloadPoint_clip, State.passStart_clip, State.setCtx_clip, h id hid]
  rfl

/-- A visit that begins without a context takes one reference, for a PLAY (R78). -/
theorem State.RefsCounted.beginVisit {s : State} (hs : s.RefsCounted) (hc : s.pe.ctx = none) : s.beginVisit.RefsCounted := by
  have hledger : (s.mapHeld Runtime.begun).ledger = s.ledger := s.mapHeld_ledger _
  have hfree : s.ledger = { context := none, entries := s.ledger.entries } := by simp [State.ledger, hc]
  unfold State.beginVisit
  split
  · next f r _ =>
    split
    · exact hs
    · refine State.refsCounted_visitLoaded fun id hid => ?_
      rw [State.addRef_refs _ _ hid, State.mapHeld_clip, hs id hid, State.addRef_ledger, hledger, Ledger.holders_context, hfree]
      rfl
  · refine State.refsCounted_visitLoaded fun id hid => ?_
    rw [State.mapHeld_clip, hs id hid, hledger, Ledger.holders_context, hfree]
    rfl
  · exact hs

end Sys2Proof.Machine
end

section
/-! The law of the reference counts, kept by every operation of playback (R36, R78, R90). -/

namespace Sys2Proof.Machine

open Sys2Proof

/-- A visit's end leaves the engine without a context and changes nothing else of it (R91). -/
theorem State.endVisit_pe (s : State) (c : Context) : (s.endVisit c).pe = { s.pe with ctx := none } := by
  simp [State.endVisit]

namespace State.RefsLawful

variable {s : State}

/-! ### Actions (R85, R95) -/

theorem setPe (hs : s.RefsLawful) {e : Engine} (hctx : e.ctx = s.pe.ctx) (hstate : e.state = s.pe.state) :
    (s.setPe e).RefsLawful :=
  hs.keep rfl (s.setPe_ledger hctx) (by rw [State.Resting, State.setPe_pe, hstate]; exact id)

theorem enterState (hs : s.RefsLawful) {new : EngineState} (hidle : new ≠ .idle) (hret : new ≠ .returning)
    (cause : Option EngineCause) : (s.enterState new cause).RefsLawful :=
  hs.keep (by simp) (s.enterState_ledger new cause) fun h => by
    rw [State.Resting, State.enterState_pe] at h
    exact absurd h (not_or.mpr ⟨hidle, hret⟩)

theorem enterRampOut (hs : s.RefsLawful) (target : Target) (cause : EngineCause) : (s.enterRampOut target cause).RefsLawful :=
  (hs.setPe (by rfl) (by rfl)).enterState (by nofun) (by nofun) _

theorem enterTripped (hs : s.RefsLawful) (cause : EngineCause) (ch : Option Nat) : (s.enterTripped cause ch).RefsLawful :=
  hs.keep (by simp) (s.enterTripped_ledger cause ch) fun h => by
    rw [State.Resting, State.enterTripped_pe] at h
    rcases h with h | h <;> cases h

/-- The engine stops in IDLE and releases its context (R84, R89, R90). -/
theorem stopIdle (hs : s.RefsLawful) (e : Engine) (hctx : e.ctx = s.pe.ctx) (cause : Option EngineCause) :
    (((s.setPe e).enterStopped .idle cause).releaseContext).RefsLawful :=
  State.RefsCounted.releaseContext
    (hs.refsCounted.keep (by simp) ((State.enterStopped_ledger _ _ _).trans (s.setPe_ledger hctx)))

theorem actionEffect (hs : s.RefsLawful) (a : Action) (cause : EngineCause) (ch : Option Nat) :
    (s.actionEffect a cause ch).RefsLawful := by
  unfold State.actionEffect
  cases a
  case trip => exact hs.enterTripped _ _
  case stop =>
    dsimp only
    split
    · exact hs.setPe rfl rfl
    · exact hs.stopIdle _ (by rfl) _
    · exact hs.enterRampOut _ _
  case pause => exact hs.enterRampOut _ _
  case note => exact hs

theorem applyAction (hs : s.RefsLawful) (a : Action) (cause : EngineCause) (ch : Option Nat) :
    (s.applyAction a cause ch).RefsLawful := by
  unfold State.applyAction
  dsimp only
  split
  · exact (hs.setPe (by rfl) (by rfl)).actionEffect a cause ch
  · exact hs.setPe rfl rfl

/-! ### Detectors, ports and results (R117, R124, R131) -/

theorem fireDetector (hs : s.RefsLawful) (r : LimitRecord) : (s.fireDetector r).RefsLawful := by
  have hraised : (s.raise .limit (some (.limit r))).RefsLawful := hs.keep_blocks (by simp [State.playback])
  unfold State.fireDetector
  dsimp only
  split
  · exact hraised
  · exact hraised.applyAction _ _ _

theorem setLimits (hs : s.RefsLawful) (ch : Nat) (l : ChannelLimits) : (s.setLimits ch l).RefsLawful := hs.keep_blocks rfl

theorem evalEnvelope (hs : s.RefsLawful) (ch : Nat) (f : Int) (stamp : Nat) : (s.evalEnvelope ch f stamp).RefsLawful := by
  unfold State.evalEnvelope
  dsimp only
  split
  · split
    · exact (hs.setLimits _ _).fireDetector _
    · exact hs.setLimits _ _
  · exact hs

theorem evalTracking (hs : s.RefsLawful) (ch : Nat) (f : Int) (stamp : Nat) : (s.evalTracking ch f stamp).RefsLawful := by
  unfold State.evalTracking
  dsimp only
  split
  · split
    · exact (hs.setLimits _ _).fireDetector _
    · exact hs.setLimits _ _
  · exact hs

theorem evalClamp (hs : s.RefsLawful) (ch : Nat) : (s.evalClamp ch).RefsLawful := by
  unfold State.evalClamp
  dsimp only
  split
  · split
    · exact (hs.setLimits _ _).fireDetector _
    · exact hs.setLimits _ _
  · exact hs

theorem mapStat (hs : s.RefsLawful) (ch : Nat) (f : StatRecord → StatRecord) : (s.mapStat ch f).RefsLawful :=
  hs.keep (by simp) (s.mapStat_ledger ch f) (by rw [State.Resting, State.mapStat_pe]; exact id)

theorem takeFeedback (hs : s.RefsLawful) (ch : Nat) (f : Int) : (s.takeFeedback ch f).RefsLawful := by
  unfold State.takeFeedback
  split
  · exact hs.mapStat _ _
  · exact hs

theorem faultChannel (hs : s.RefsLawful) (ch : Nat) (cause : FaultCause) : (s.faultChannel ch cause).RefsLawful := by
  unfold State.faultChannel
  dsimp only
  split
  · exact State.RefsLawful.applyAction (hs.keep_blocks (by simp [State.playback])) _ _ _
  · exact hs.keep_blocks (by simp [State.playback])

theorem closeWindow (hs : s.RefsLawful) (ch : Nat) : (s.closeWindow ch).RefsLawful := by
  obtain ⟨p, cause, h | h | h⟩ := s.closeWindow_cases ch
  · rw [h]; exact hs
  · rw [h]; exact hs.keep_blocks rfl
  · have hset : (s.setPort ch p).RefsLawful := hs.keep_blocks rfl
    rw [h]; exact hset.faultChannel ch cause

theorem takeResponse (hs : s.RefsLawful) (ch : Nat) (w : Window) (f sp : Int) (st : ServoStatus) :
    (s.takeResponse ch w f sp st).RefsLawful := by
  unfold State.takeResponse
  generalize hu : s.setPort ch _ = u
  have hu : u.RefsLawful := hu ▸ hs.keep_blocks rfl
  unfold State.actOnStatus
  split
  · exact hu.faultChannel ch _
  · exact hu.keep_blocks (by simp [State.playback])
  · exact ((hu.takeFeedback ch f).evalEnvelope ch f _).evalTracking ch f _
  · exact hu

theorem handOn (hs : s.RefsLawful) (cr : Nat × DriveResult) : (s.handOn cr).RefsLawful := by
  have hset : (s.setDrive cr.1 { s.drive cr.1 with lastOutput := cr.2.command }).RefsLawful := hs.keep_blocks rfl
  have hcounted : ∀ b : Bool, (if b then (s.setDrive cr.1 { s.drive cr.1 with lastOutput := cr.2.command }).mapStat cr.1
      (countIndications cr.2) else s.setDrive cr.1 { s.drive cr.1 with lastOutput := cr.2.command }).RefsLawful := by
    intro b
    split
    · exact hset.mapStat _ _
    · exact hset
  unfold State.handOn
  dsimp only
  split
  · exact (hcounted _).evalClamp _
  · exact hcounted _

theorem foldl {α : Type} {f : State → α → State} (hf : ∀ (t : State) a, t.RefsLawful → (f t a).RefsLawful) (l : List α)
    (hs : s.RefsLawful) : (l.foldl f s).RefsLawful := List.foldlRecOn l f hs fun t ht a _ => hf t a ht

/-! ### Passes and visits (R78, R88 to R91) -/

/-- A context that is replaced by one of the same clip, and what a pass start does beside (R88). -/
theorem setCtx (hs : s.RefsLawful) {c : Option Context} (h : c.map Context.clipOf = s.pe.ctx.map Context.clipOf) :
    (s.setCtx c).RefsLawful := hs.keep rfl (s.setCtx_ledger h) id

theorem passStart (hs : s.RefsLawful) : s.passStart.RefsLawful := hs.keep_blocks (by simp [State.playback])

theorem reloadPoint (hs : s.RefsLawful) : s.reloadPoint.RefsLawful :=
  hs.keep (by simp) s.reloadPoint_ledger (by
    obtain ⟨ctx, h⟩ := s.reloadPoint_pe
    rw [State.Resting, h]
    exact id)

theorem newPass (hs : s.RefsLawful) {c : Context} (hc : s.pe.ctx = some c) (overrun : Bool) :
    (s.setCtx (some (c.newPass overrun))).RefsLawful := hs.setCtx (by simp [hc, Context.clipOf_newPass])

theorem overrunOut (hs : s.RefsLawful) {c : Context} (hc : s.pe.ctx = some c) (cause : EngineCause) :
    (s.overrunOut c cause).RefsLawful :=
  passStart ((hs.enterRampOut .idle cause).newPass (by rw [State.enterRampOut, State.enterState_pe]; exact hc) true)

/-- A visit begins while the engine does not rest (R78). -/
theorem beginVisit (hs : s.RefsCounted) (hc : s.pe.ctx = none)
    (hrest : ¬ s.Resting) : s.beginVisit.RefsLawful :=
  (State.refsLawful_iff _).mpr ⟨hs.beginVisit hc, fun h => by
    obtain ⟨ctx, hpe⟩ := s.beginVisit_pe
    rw [State.Resting, hpe] at h
    exact absurd h hrest⟩

/-- A pass end in RAMP_IN or RUNNING: an overrun pass, the next visit, or a further pass (R88). -/
theorem passEndPlaying (hs : s.RefsLawful) : s.passEndPlaying.RefsLawful := by
  unfold State.passEndPlaying
  split
  · exact hs
  · next c0 hc0 =>
    dsimp only
    have hcounted : (s.countPass c0).RefsLawful := hs.keep (by simp) (s.countPass_ledger hc0) (by
      unfold State.countPass
      split <;> exact id)
    have hc : (s.countPass c0).pe.ctx = some (if c0.overrun then c0 else { c0 with counted := c0.counted + 1 }) := by
      unfold State.countPass
      split
      · exact hc0
      · rfl
    generalize s.countPass c0 = s1 at hcounted hc ⊢
    generalize (if c0.overrun then c0 else { c0 with counted := c0.counted + 1 }) = c at hc ⊢
    split
    · split
      · exact hcounted.overrunOut hc _
      · split
        · exact hcounted.overrunOut hc _
        · refine State.RefsLawful.beginVisit ((hcounted.refsCounted.dropVisit hc _).realRun _) ?_ ?_
          · rw [State.realRun_pe, State.endVisit_pe]
          · rw [State.Resting, State.realRun_pe, State.endVisit_pe]
            exact hcounted.not_resting hc
    · exact (hcounted.newPass hc false).passStart.reloadPoint

theorem passEndRampOut (hs : s.RefsLawful) : s.passEndRampOut.RefsLawful := by
  unfold State.passEndRampOut
  split
  · exact hs
  · next c hc => exact (hs.newPass hc _).passStart

theorem endRampOut (hs : s.RefsLawful) : s.endRampOut.RefsLawful := by
  unfold State.endRampOut
  dsimp only
  split
  · exact State.RefsLawful.keep (hs.setPe (e := { s.pe with target := none, lam := 0 }) rfl rfl) (by simp)
      (State.enterStopped_ledger _ _ _) fun h => by
        rw [State.Resting, State.enterStopped_pe] at h
        rcases h with h | h <;> cases h
  · exact hs.stopIdle _ (by rfl) _

theorem advanceStage (hs : s.RefsLawful) : s.advanceStage.RefsLawful := by
  unfold State.advanceStage
  split
  · exact hs
  · next c hc =>
    split
    · split
      · split
        · exact hs.passEndRampOut
        · exact hs.passEndPlaying
      · exact hs.setCtx (by simp [hc, Context.clipOf_advanced])
    · exact hs

/-! ### The update (R87, R98) -/

theorem rampStep (hs : s.RefsLawful) : s.rampStep.RefsLawful :=
  hs.keep (by simp) s.rampStep_ledger fun h => by
    rw [State.Resting, State.rampStep_pe] at h
    unfold Engine.ramped at h
    split at h
    · dsimp only at h
      split at h <;> simp at h
    · exact h
    · exact h

theorem stampFirst (hs : s.RefsLawful) : s.stampFirst.RefsLawful :=
  hs.keep (by simp) s.stampFirst_ledger (by
    unfold State.stampFirst
    (repeat' split) <;> exact id)

theorem dropCaptureDue (hs : s.RefsLawful) : s.dropCaptureDue.RefsLawful := hs.keep rfl s.dropCaptureDue_ledger id

theorem stampLast (hs : s.RefsLawful) : s.stampLast.RefsLawful := hs.keep rfl s.stampLast_ledger id

theorem markCompare (hs : s.RefsLawful) (p : PlayPosition) (m : Nat) : (s.markCompare p m).RefsLawful :=
  hs.keep (by simp) (s.markCompare_ledger p m) (by
    rw [State.Resting, State.markCompare_pe]
    split
    · rw [Engine.cut_state]; exact id
    · exact id)

theorem markStage (hs : s.RefsLawful) : s.markStage.RefsLawful := by
  unfold State.markStage
  split
  · exact hs
  · exact foldl (fun t m ht => markCompare ht _ m) _ hs

theorem playedUpdate (hs : s.RefsLawful) : s.playedUpdate.RefsLawful := by
  have hhanded := foldl (fun t cr ht => handOn ht cr) s.rampStep.stampFirst.computeAll hs.rampStep.stampFirst.dropCaptureDue
  have hadvanced := hhanded.markStage.stampLast.advanceStage
  unfold State.playedUpdate
  dsimp only
  split
  · exact endRampOut hadvanced
  · exact hadvanced

/-- An update that plays nothing; in RETURN, where it can end, there is no context (R97). -/
theorem restUpdate (hs : s.RefsLawful) : s.restUpdate.RefsLawful := by
  unfold State.restUpdate
  dsimp only
  split
  · next h =>
    have hrests : s.Rests := fun hp => by simp [h.1, EngineState.playing] at hp
    obtain ⟨d, hd⟩ := State.handOnAll_of_rests hrests s
    rw [hd]
    exact hs.keep (by simp) (State.enterStopped_ledger _ _ _) fun _ => .inr h.1
  · exact foldl (fun t cr ht => handOn ht cr) _ hs

theorem raiseUpdate (hs : s.RefsLawful) : s.raiseUpdate.RefsLawful := by
  have hcounted : s.countUpdate.RefsLawful := hs.setPe rfl rfl
  have hengine : s.countUpdate.engineUpdate.RefsLawful := by
    unfold State.engineUpdate
    split
    · exact hcounted.playedUpdate
    · exact hcounted.restUpdate
  have hclosed : s.countUpdate.engineUpdate.closeWindows.RefsLawful := foldl (fun t ch ht => closeWindow ht ch) _ hengine
  rw [State.raiseUpdate_eq]
  exact hclosed.keep_blocks (by simp [State.playback, State.portUpdate])

end State.RefsLawful
end Sys2Proof.Machine
end

section
/-! The law of the reference counts at the requests, the resets and the verifier, and so at every step. -/

namespace Sys2Proof.Machine

open Sys2Proof

namespace State.RefsLawful

variable {s : State}

/-- A change of the Clip Store that leaves the counts. -/
theorem of_refs (hs : s.RefsLawful) {t : State} (hsq : t.sq = s.sq) (hpe : t.pe = s.pe)
    (hrefs : ∀ id, (t.clip id).refs = (s.clip id).refs) : t.RefsLawful :=
  hs.congr hrefs (State.ledger_congr (by rw [hpe]) (by rw [hsq])) (by rw [State.Resting, hpe]; exact id)

/-! ### The Clip Store (R30 to R38) -/

theorem takeOpenClip (hs : s.RefsLawful) (id mask upsample length checksum : Nat) :
    (takeOpenClip id mask upsample length checksum s).1.RefsLawful := by
  unfold Machine.takeOpenClip
  dsimp only
  split
  · exact hs
  split
  · exact hs
  split
  · exact hs
  split
  · exact hs
  split
  · exact hs
  split
  · exact hs
  · exact hs.of_refs rfl rfl fun j => s.clip_setClip_refs id j _ rfl

theorem takeClipData (hs : s.RefsLawful) (id offset : Nat) (points : List Point) :
    (takeClipData id offset points s).1.RefsLawful := by
  unfold Machine.takeClipData
  split
  · exact hs
  split
  · split
    · exact hs
    split
    · exact hs
    · exact hs.of_refs rfl rfl fun j => s.clip_setClip_refs id j _ rfl
  · exact hs

theorem takeCloseClip (hs : s.RefsLawful) (id : Nat) : (takeCloseClip id s).1.RefsLawful := by
  unfold Machine.takeCloseClip
  split
  · exact hs
  split
  · split
    · refine hs.of_refs (by simp) (by simp) fun j => ?_
      rw [accept_fst, State.raise_clip]
      exact s.clip_setClip_refs id j _ rfl
    · exact hs.of_refs rfl rfl fun j => s.clip_setClip_refs id j _ rfl
  · exact hs

theorem freeClip (hs : s.RefsLawful) (id : Nat) : (s.freeClip id).RefsLawful :=
  hs.of_refs rfl rfl fun j => s.clip_setClip_refs id j _ rfl

theorem takeFreeClip (hs : s.RefsLawful) (id : Nat) : (takeFreeClip id s).1.RefsLawful := by
  rcases takeFreeClip_cases id s with h | ⟨-, -, -, h⟩
  · rw [h]; exact hs
  · rw [h]
    have hleft : (s.leaveOrder id).RefsLawful := hs.of_refs rfl rfl fun _ => rfl
    split
    · exact hleft.freeClip id
    · exact hs.freeClip id

theorem completeVerification (hs : s.RefsLawful) (id : Nat) (l : ClipLoad) : (s.completeVerification id l).RefsLawful := by
  refine hs.of_refs (by simp) (by simp) fun j => ?_
  unfold State.completeVerification
  dsimp only
  rw [State.raise_clip]
  exact s.clip_setClip_refs id j _ rfl

end State.RefsLawful

/-! ### The Segment Queue (R56, R62, R69) -/

theorem State.placeEntry_ledger (s : State) (e : Entry) :
    (s.placeEntry e).ledger = { context := s.ledger.context, entries := s.ledger.entries ++ [e.clipOf] } := by
  have hentries : (s.placeEntry e).sq.entries = s.sq.entries ++ [e] := by
    unfold State.placeEntry
    dsimp only
    split <;> rfl
  simp [State.ledger, hentries]

theorem State.placeEntry_refs (s : State) (e : Entry) {id : Nat} (h : id < 64) :
    ((s.placeEntry e).clip id).refs = (s.clip id).refs + if e.clipOf = some id then 1 else 0 := by
  obtain ⟨tag, body⟩ := e
  unfold State.placeEntry Entry.clipOf
  cases body
  case play f r => exact State.addRef_refs _ f.clip h
  all_goals rfl

namespace State.RefsLawful

variable {s : State}

theorem placeEntry (hs : s.RefsLawful) (e : Entry) : (s.placeEntry e).RefsLawful :=
  (State.refsLawful_iff _).mpr ⟨fun id hid => by
    rw [State.placeEntry_refs s e hid, State.placeEntry_ledger, Ledger.holders_append_singleton, hs.refsCounted id hid],
    fun h => by
      rw [State.placeEntry_pe]
      exact hs.no_context (by simpa [State.Resting] using h)⟩

theorem takeAppendEntry (hs : s.RefsLawful) (a : AppendFields) : (takeAppendEntry a s).1.RefsLawful := by
  unfold Machine.takeAppendEntry
  split
  · exact hs
  · split
    · exact hs
    · exact hs.placeEntry _

end State.RefsLawful

/-- No field change makes an entry name another clip (R62). -/
theorem changeField_clipOf {b b' : EntryBody} {c : FieldChange} (h : changeField b c = some b') (tag : Nat) :
    Entry.clipOf { tag := tag, body := b' } = Entry.clipOf { tag := tag, body := b } := by
  unfold changeField at h
  split at h
  case h_1 => split at h <;> cases h; rfl
  case h_2 => split at h <;> cases h; rfl
  case h_3 => obtain ⟨v, -, rfl⟩ := Option.map_eq_some_iff.mp h; rfl
  case h_4 => obtain ⟨v, -, rfl⟩ := Option.map_eq_some_iff.mp h; rfl
  case h_5 => obtain ⟨v, -, rfl⟩ := Option.map_eq_some_iff.mp h; rfl
  case h_6 => obtain ⟨v, -, rfl⟩ := Option.map_eq_some_iff.mp h; rfl
  case h_7 => obtain ⟨v, -, rfl⟩ := Option.map_eq_some_iff.mp h; rfl
  case h_8 => split at h <;> cases h; rfl
  case h_9 => split at h <;> cases h; rfl
  case h_10 => cases h

theorem changeFields_clipOf (tag : Nat) : ∀ (changes : List FieldChange) {b b' : EntryBody}, changeFields b changes = some b' →
    Entry.clipOf { tag := tag, body := b' } = Entry.clipOf { tag := tag, body := b }
  | [], _, _, h => by cases h; rfl
  | c :: rest, b, b', h => by
    obtain ⟨b1, h1, hrest⟩ := Option.bind_eq_some_iff.mp h
    exact (changeFields_clipOf tag rest hrest).trans (changeField_clipOf h1 tag)

/-- An entry replaced by one that names the same clip (R64, R67). -/
theorem State.replaceEntry_ledger {s : State} {pos : Nat} {old new : Entry} (hold : s.sq.entries[pos]? = some old)
    (hclip : new.clipOf = old.clipOf) : (s.replaceEntry pos old new).ledger = s.ledger := by
  have hplaced : ∀ b : Bool, (s.mapEntry pos fun _ => if b then new.mapRuntime Runtime.skipInterrupted else new).ledger
      = s.ledger := fun b => s.mapEntry_ledger fun e he => by
    obtain rfl : old = e := Option.some.inj (hold.symm.trans he)
    split
    · rw [Entry.clipOf_mapRuntime, hclip]
    · exact hclip
  unfold State.replaceEntry
  dsimp only
  split
  · rw [State.setCut_ledger]
    split
    · exact hplaced _
    · exact hplaced _
  · split
    · exact hplaced _
    · exact hplaced _

theorem State.replaceEntry_state (s : State) (pos : Nat) (old new : Entry) :
    (s.replaceEntry pos old new).pe.state = s.pe.state := by
  unfold State.replaceEntry
  dsimp only
  (repeat' split) <;> rfl

/-- Every entry that leaves drops the reference of its clip (R69). -/
theorem State.foldl_leaveEntry_refs (flushed : Bool) {id : Nat} (h : id < 64) :
    ∀ (es : List Entry) (s : State),
      ((es.foldl (fun t e => t.leaveEntry flushed e) s).clip id).refs
        = (s.clip id).refs - (es.map Entry.clipOf).count (some id)
  | [], _ => rfl
  | e :: rest, s => by
    rw [List.foldl_cons, State.foldl_leaveEntry_refs flushed h rest, State.leaveEntry_refs s flushed e h, List.map_cons,
      List.count_cons]
    simp only [beq_iff_eq]
    omega

namespace State.RefsLawful

variable {s : State}

theorem takeModifyEntry (hs : s.RefsLawful) (entry : Nat) (changes : List FieldChange) :
    (takeModifyEntry entry changes s).1.RefsLawful := by
  unfold Machine.takeModifyEntry
  split
  · exact hs
  split
  · exact hs
  split
  · exact hs
  · next old hold =>
    split
    · exact hs
    split
    · exact hs
    · next body hbody =>
      exact hs.keep (by simp) (State.replaceEntry_ledger hold (changeFields_clipOf old.tag changes hbody))
        (by rw [State.Resting, accept_fst, State.replaceEntry_state]; exact id)

/-- A flushed queue is empty, and every count has lost its entries (R69). -/
theorem takeFlushQueue (hs : s.RefsLawful) : (takeFlushQueue s).1.RefsLawful := by
  unfold Machine.takeFlushQueue
  split
  · exact hs
  · next hidle =>
    dsimp only
    generalize hq : s.setSq { s.sq with entries := [], cursor := 0, stack := [], tailDepth := 0 } = emptied
    have hledger := foldl_keeps State.ledger (fun t e => t.leaveEntry true e) (fun t e => t.leaveEntry_ledger true e)
      s.sq.entries emptied
    have hpe := foldl_keeps State.pe (fun t e => t.leaveEntry true e) (fun t e => t.leaveEntry_pe true e) s.sq.entries emptied
    have hnone : s.pe.ctx = none := hs.no_context (.inl (not_not.mp hidle))
    rw [accept_fst]
    refine (State.refsLawful_iff _).mpr ⟨fun id hid => ?_, fun _ => by rw [hpe, ← hq]; exact hnone⟩
    rw [State.foldl_leaveEntry_refs true hid, hledger, ← hq, State.setSq_clip, hs.refsCounted id hid]
    simp [State.ledger, Ledger.holders, hnone]

/-! ### The Playback Engine (R71, R76, R81 to R84, R96, R99) -/

theorem takeAdvanceWatch (hs : s.RefsLawful) : (takeAdvanceWatch s).1.RefsLawful := by
  unfold Machine.takeAdvanceWatch
  split
  · exact hs.keep rfl rfl id
  · exact hs.keep (by simp) (State.raise_ledger _ _ _) (by simp [State.Resting])

theorem takeStart (hs : s.RefsLawful) : (takeStart s).1.RefsLawful := by
  unfold Machine.takeStart
  split
  · exact hs
  next hidle =>
  split
  · exact hs
  split
  · exact hs
  split
  · exact hs
  · dsimp only
    have hnone : s.pe.ctx = none := hs.no_context (.inl (not_not.mp hidle))
    have hbegun : ((s.realRun s.sq.cursor).beginVisit).RefsCounted :=
      (hs.refsCounted.realRun _).beginVisit (by rw [State.realRun_pe]; exact hnone)
    refine (State.refsLawful_iff _).mpr ⟨?_, fun h => ?_⟩
    · exact hbegun.keep (by simp) ((State.enterState_ledger _ _ _).trans (State.setPe_ledger _ rfl))
    · rw [State.Resting, accept_fst, State.enterState_pe] at h
      rcases h with h | h <;> cases h

theorem takePause (hs : s.RefsLawful) : (takePause s).1.RefsLawful := by
  unfold Machine.takePause
  split
  · exact hs.enterRampOut _ _
  · exact hs.enterRampOut _ _
  all_goals exact hs

theorem takeResume (hs : s.RefsLawful) : (takeResume s).1.RefsLawful := by
  unfold Machine.takeResume
  split
  · split
    · exact (hs.setPe (by rfl) (by rfl)).enterState (by nofun) (by nofun) _
    · exact hs
  · exact (hs.setPe (by rfl) (by rfl)).enterState (by nofun) (by nofun) _
  · exact hs

theorem takeStop (hs : s.RefsLawful) : (takeStop s).1.RefsLawful := by
  unfold Machine.takeStop
  split
  · exact hs.enterRampOut _ _
  · exact hs.enterRampOut _ _
  · split
    · exact hs.setPe rfl rfl
    · exact hs
  · exact hs.stopIdle _ (by rfl) _
  all_goals exact hs

theorem takeClearTrip (hs : s.RefsLawful) : (takeClearTrip s).1.RefsLawful := by
  unfold Machine.takeClearTrip
  split
  · exact hs
  split
  · exact hs
  · have hreleased := hs.refsCounted.releaseContext
    refine (State.refsLawful_iff _).mpr ⟨?_, fun _ => ?_⟩
    · exact hreleased.refsCounted.keep (by simp) (State.enterState_ledger _ _ _)
    · rw [accept_fst, State.enterState_pe, State.releaseContext_pe]

theorem takeSetRamp (hs : s.RefsLawful) (ri ro : Nat) : (takeSetRamp ri ro s).1.RefsLawful := by
  unfold Machine.takeSetRamp
  split
  · exact hs
  · exact hs.setPe rfl rfl

theorem takeSetTimebase (hs : s.RefsLawful) (rate source : Nat) : (takeSetTimebase rate source s).1.RefsLawful := by
  unfold Machine.takeSetTimebase
  (repeat' split) <;> first | exact hs | exact hs.setPe rfl rfl

theorem takingOf (hs : s.RefsLawful) (r : Request) : (takingOf r s).1.RefsLawful := by
  cases hr : movesPlayback r with
  | false => exact hs.keep_blocks (takingOf_playback hr s)
  | true =>
    cases r <;> first | contradiction | skip
    case openClip => exact hs.takeOpenClip _ _ _ _ _
    case clipData => exact hs.takeClipData _ _ _
    case closeClip => exact hs.takeCloseClip _
    case freeClip => exact hs.takeFreeClip _
    case appendEntry => exact hs.takeAppendEntry _
    case modifyEntry => exact hs.takeModifyEntry _ _
    case flushQueue => exact hs.takeFlushQueue
    case advanceWatch => exact hs.takeAdvanceWatch
    case start => exact hs.takeStart
    case pause => exact hs.takePause
    case resume => exact hs.takeResume
    case stop => exact hs.takeStop
    case clearTrip => exact hs.takeClearTrip
    case setRamp => exact hs.takeSetRamp _ _
    case setTimebase => exact hs.takeSetTimebase _ _

end State.RefsLawful

/-! ### The resets (R43, R197) -/

/-- A state whose clips are not referred to, with an empty queue and no context. -/
theorem State.refsLawful_of_empty {t : State} (hrefs : ∀ id, id < 64 → (t.clip id).refs = 0) (hentries : t.sq.entries = [])
    (hctx : t.pe.ctx = none) : t.RefsLawful :=
  t.refsLawful_iff.mpr ⟨fun id hid => by simp [hrefs id hid, State.ledger, Ledger.holders, hentries, hctx], fun _ => hctx⟩

theorem State.warmResetClips_refs (s : State) (id : Nat) : (s.warmResetClips.clip id).refs = 0 := by
  unfold State.warmResetClips
  dsimp only
  exact congrArg Clip.refs (State.clip_cleared _ id)

theorem State.warmReset_refsLawful (s : State) : s.warmReset.RefsLawful :=
  State.refsLawful_of_empty (fun id _ => by rw [State.clip_congr id s.warmReset_cs, s.warmResetClips_refs]) rfl rfl

theorem State.makeFullReset_refsLawful (s : State) (source : ResetSource) : (s.makeFullReset source).RefsLawful :=
  State.refsLawful_of_empty (fun id _ => by rw [makeFullReset_clip]; rfl) rfl rfl

theorem refsLawful_keptByOperations : KeptByOperations State.RefsLawful where
  line _ _ _ _ hs := hs.keep_blocks rfl
  taking r _ hs := hs.takingOf r
  warmReset s _ _ := s.warmReset_refsLawful
  fullReset source s _ := s.makeFullReset_refsLawful source
  update _ hs := hs.raiseUpdate
  sourceInternal _ hs := hs.setPe rfl rfl
  action _ a cause ch hs := hs.applyAction a cause ch
  record _ _ _ _ _ hs := hs.keep_blocks (by simp [State.playback])
  rampIn _ _ hs := hs.rampStep
  rampOut _ _ _ hs := hs.rampStep.endRampOut
  passEnd _ _ _ hs := hs.passEndPlaying
  passEndRampOut _ _ _ hs := hs.passEndRampOut
  response _ ch w f sp st _ _ hs := hs.takeResponse ch w f sp st
  envelope _ ch f stamp hs := hs.evalEnvelope ch f stamp
  tracking _ ch f stamp hs := hs.evalTracking ch f stamp
  clampRate _ ch hs := hs.evalClamp ch
  window _ ch hs := hs.closeWindow ch
  rigReady _ _ hs := hs.keep_blocks rfl
  markEdge _ _ _ _ hs := hs.keep_blocks (by simp [State.playback])
  verified _ id _ l _ _ hs := hs.completeVerification id l

/-- Settles O54: every operation changes the ledger and the counts together, and a state that rests is entered by a release or
from one that rests. -/
theorem stepKeepsReferenceCounts : Obligations.StepKeepsReferenceCounts :=
  fun _ _ hs h => refsLawful_keptByOperations.of_step hs h

end Sys2Proof.Machine
end

section
/-! The checksum of a clip in closed form, and the points of a Clip Data at their storage indices (R28, R31, R34). -/

namespace Sys2Proof.Machine

open Sys2Proof

/-! ### The checksum (R34) -/

/-- The sum of the points in which each enters once for every point from itself to the end. -/
def suffixSum : List Point → Nat
  | [] => 0
  | p :: rest => (rest.length + 1) * p.toNat + suffixSum rest

/-- The suffix sum as a sum over the places, counted from `k`. -/
theorem suffixSum_eq_zipIdx : ∀ (points : List Point) (k : Nat),
    ((points.zipIdx k).map fun (p, i) => (points.length + k - i) * p.toNat).sum = suffixSum points
  | [], _ => rfl
  | p :: rest, k => by
    have hshift : rest.length + 1 + k = rest.length + (k + 1) := by omega
    have hfirst : rest.length + (k + 1) - k = rest.length + 1 := by omega
    rw [List.zipIdx_cons, List.map_cons, List.sum_cons, List.length_cons, suffixSum, ← suffixSum_eq_zipIdx rest (k + 1)]
    simp only [hshift, hfirst]

/-- The running sums taken from any two residues. -/
theorem foldl_checksumStep : ∀ (points : List Point) (a b : Nat),
    points.foldl checksumStep (a % 65536, b % 65536)
      = ((a + (points.map BitVec.toNat).sum) % 65536, (b + points.length * a + suffixSum points) % 65536)
  | [], a, b => by simp [suffixSum]
  | p :: rest, a, b => by
    have hstep : checksumStep (a % 65536, b % 65536) p = ((a + p.toNat) % 65536, (b + (a + p.toNat)) % 65536) := by
      simp [checksumStep]
    have hb : b + (a + p.toNat) + rest.length * (a + p.toNat) + suffixSum rest
        = b + (rest.length + 1) * a + suffixSum (p :: rest) := by
      rw [suffixSum]
      ring
    rw [List.foldl_cons, hstep, foldl_checksumStep rest, hb, List.map_cons, List.sum_cons, List.length_cons, Nat.add_assoc]

/-- Settles O12, by induction on the points with the running sums generalised. -/
theorem checksumClosedForm : Obligations.ChecksumClosedForm := by
  intro points
  have hsums := foldl_checksumStep points 0 0
  simp only [Nat.zero_mod, Nat.zero_add, Nat.mul_zero] at hsums
  rw [checksumOf, hsums, ← suffixSum_eq_zipIdx points 0]
  rfl

/-! ### The places of a clip's points (R28) -/

theorem pointAddress_eq {l : ClipLoad} {i : Nat} (h : i / 4096 < l.pages.length) :
    pointAddress l i = l.pages[i / 4096] * 4096 + i % 4096 := by
  rw [← List.getD_eq_getElem _ 0 h]
  rfl

/-- Distinct pages, and enough of them, put the points at distinct addresses. -/
theorem pointAddress_injective {l : ClipLoad} (hnodup : l.pages.Nodup) {i j : Nat} (hi : i < l.pages.length * 4096)
    (hj : j < l.pages.length * 4096) (h : pointAddress l i = pointAddress l j) : i = j := by
  have hpi : i / 4096 < l.pages.length := by omega
  have hpj : j / 4096 < l.pages.length := by omega
  rw [pointAddress_eq hpi, pointAddress_eq hpj] at h
  have hpage : l.pages[i / 4096] = l.pages[j / 4096] := by omega
  have hplace : i / 4096 = j / 4096 := hnodup.getElem_inj_iff.mp hpage
  omega

/-- Points stored at distinct places read back. -/
theorem ramRead_storePoints_same (l : ClipLoad) :
    ∀ (points : List Point) (i : Nat) {m : Ram}, ramWf m = true →
      (∀ j k, j < points.length → k < points.length → pointAddress l (i + j) = pointAddress l (i + k) → j = k) →
      ∀ k p, points[k]? = some p → ramRead (storePoints m l i points) (pointAddress l (i + k)) = p
  | [], _, _, _, _, _, _, hk => by simp at hk
  | q :: rest, i, m, hm, hinj, 0, p, hk => by
    obtain rfl : q = p := by simpa using hk
    have hlater : ∀ k, k < rest.length → pointAddress l (i + 1 + k) ≠ pointAddress l i := fun k hk heq => by
      have := hinj (k + 1) 0 (by simpa using hk) (by simp) (by rwa [show i + (k + 1) = i + 1 + k by omega])
      omega
    show ramRead (storePoints (ramWrite m (pointAddress l i) q) l (i + 1) rest) (pointAddress l i) = q
    rw [ramRead_storePoints_other l rest (i + 1) _ hlater]
    exact ramRead_ramWrite_same hm
  | q :: rest, i, m, hm, hinj, k + 1, p, hk => by
    have hrest : ∀ j k, j < rest.length → k < rest.length →
        pointAddress l (i + 1 + j) = pointAddress l (i + 1 + k) → j = k := fun j k hj hk heq => by
      have := hinj (j + 1) (k + 1) (by simpa using hj) (by simpa using hk)
        (by rwa [show i + (j + 1) = i + 1 + j by omega, show i + (k + 1) = i + 1 + k by omega])
      omega
    rw [storePoints, show i + (k + 1) = i + 1 + k by omega]
    exact ramRead_storePoints_same l rest (i + 1) (ramWf_ramWrite hm _ q) hrest k p (by simpa using hk)

/-! ### Clip Data (R31) -/

/-- The Clip Store after a Clip Data that passes its checks. -/
def State.dataStored (s : State) (id : Nat) (l : ClipLoad) (points : List Point) : State :=
  { s with cs := { s.cs with
      clips := s.cs.clips.setIfInBounds id { s.clip id with load := some { l with received := l.received + points.length } },
      points := storePoints s.cs.points l l.received points } }

theorem takeClipData_of_checked {s : State} {id : Nat} {l : ClipLoad} {points : List Point} (hid : id < 64)
    (hmin : 1 ≤ points.length) (hmax : points.length ≤ 500) (hstate : (s.clip id).state = .loading)
    (hload : (s.clip id).load = some l) (hfit : l.received + points.length ≤ clipPoints l) :
    takeClipData id l.received points s
      = accept (s.dataStored id l points) (beBytes 4 (l.received + points.length)) := by
  rw [takeClipData, if_neg (by omega), hstate, hload]
  dsimp only
  rw [if_neg (not_not.mpr rfl), if_neg (by omega)]
  rfl

/-- What an answer makes of the line depends on the line alone. -/
theorem State.answered_sli_congr {s t : State} (h : t.sli = s.sli) (code tag : Nat) (status : Status) (fields : List Byte) :
    (t.answered code tag status fields).sli = (s.answered code tag status fields).sli := by
  unfold State.answered State.placeFrame
  rw [h]
  cases s.sli.leaving <;> rfl

/-- Settles O8: the points lie at distinct addresses, so each is read back and every other word stands. -/
theorem clipDataResult : Obligations.ClipDataResult := by
  intro tag id points l s hfree hwf hid hmin hmax hstate hload hfit hnodup hlong
  have htaking := takeClipData_of_checked hid hmin hmax hstate hload hfit
  refine ⟨_, exec_of_taking (c := .clipData tag id l.received points) rfl nofun hfree htaking, ?_⟩
  have hcs : ((s.dataStored id l points).answered 0x11 tag .ok (beBytes 4 (l.received + points.length))).cs
      = (s.dataStored id l points).cs := State.placeFrame_cs _ _
  have hdistinct : ∀ j k, j < points.length → k < points.length →
      pointAddress l (l.received + j) = pointAddress l (l.received + k) → j = k := fun j k hj hk heq => by
    have := pointAddress_injective hnodup (by omega) (by omega) heq
    omega
  refine ⟨?stored, ?others, ?points, ?words, ?_, ?_, ?_, ?line, ?_⟩
  case stored => exact (State.clip_congr id hcs).trans (s.clip_setClip_same id _ hid)
  case others => exact fun j hj => (State.clip_congr j hcs).trans (s.clip_setClip_other id j _ hj)
  case points =>
    intro k p hk
    exact (congrArg (fun cs => clipPoint cs l (l.received + k)) hcs).trans
      (ramRead_storePoints_same l points l.received hwf hdistinct k p hk)
  case words =>
    intro a ha
    exact (congrArg (fun cs : ClipStore => ramRead cs.points a) hcs).trans
      (ramRead_storePoints_other l points l.received _ fun k hk => (ha k hk).symm)
  case line => exact State.answered_sli_congr (s := s) (t := s.dataStored id l points) rfl _ _ _ _
  all_goals simp [State.answered, State.dataStored]

end Sys2Proof.Machine
end

section
/-! The requests of the Clip Store that pass their checks, the verifier, and the requests that only read. -/

namespace Sys2Proof.Machine

open Sys2Proof

/-! ### Open Clip and Close Clip (R30, R32) -/

/-- The part after an Open Clip: the lowest free pages are the clip's. -/
def State.clipOpened (s : State) (id upsample length checksum need : Nat) (chans : List Nat) : State :=
  { s with cs := { s.cs with
      freePages := s.cs.freePages.drop need,
      clips := s.cs.clips.setIfInBounds id
        { state := .loading,
          load := some { chans := chans, upsample := upsample, length := length, pages := s.cs.freePages.take need,
                         expected := checksum, received := 0 },
          computed := none, failReason := none, refs := (s.clip id).refs } } }

theorem takeOpenClip_of_checked {s : State} {id mask upsample length : Nat} (hid : id < 64)
    (hstate : (s.clip id).state = .free) (hchans : maskChannels mask ≠ [])
    (hupsample : upsample = 1 ∨ upsample = 2 ∨ upsample = 4 ∨ upsample = 8) (hlength : 1 ≤ length)
    (hpoints : length * (maskChannels mask).length ≤ 8388608)
    (hpages : pagesFor (length * (maskChannels mask).length) ≤ s.cs.freePages.length) (checksum : Nat) :
    takeOpenClip id mask upsample length checksum s
      = accept (s.clipOpened id upsample length checksum (pagesFor (length * (maskChannels mask).length)) (maskChannels mask))
          (beBytes 2 (pagesFor (length * (maskChannels mask).length))) := by
  rw [takeOpenClip, if_neg (by omega), if_neg (not_not.mpr hstate), if_neg hchans, if_neg (not_not.mpr hupsample),
    if_neg (not_or.mpr ⟨by omega, not_lt.mpr hpoints⟩), if_neg (not_lt.mpr hpages)]
  rfl

/-- Settles O7: no check of R29 refuses, so the clip takes its pages. -/
theorem openClipResult : Obligations.OpenClipResult := by
  rintro tag id mask upsample length checksum _ _ s hfree hid hstate rfl hchans hupsample hlength hpoints rfl hpages
  exact exec_of_taking (c := .openClip tag id mask upsample length checksum) rfl nofun hfree
    (takeOpenClip_of_checked hid hstate hchans hupsample hlength hpoints hpages checksum)

theorem takeCloseClip_of_loading {s : State} {id : Nat} {l : ClipLoad} (hid : id < 64) (hstate : (s.clip id).state = .loading)
    (hload : (s.clip id).load = some l) :
    takeCloseClip id s
      = if l.received < clipPoints l then
          accept ((s.setClip id { s.clip id with state := .failed, failReason := some .incomplete }).raise .clip
            (some (.clip id .incomplete))) [4]
        else accept { s with cs := { s.cs with
            clips := s.cs.clips.setIfInBounds id { s.clip id with state := .verifying }, order := s.cs.order ++ [id],
            verifierSince := if s.cs.order = [] then s.clock else s.cs.verifierSince } } [2] := by
  rw [takeCloseClip, if_neg (by omega), hstate, hload]
  rfl

/-- Settles O9: the two cases of R32 by the points received. -/
theorem closeClipResult : Obligations.CloseClipResult := by
  intro tag id l s hfree hid hstate hload
  have htaking := takeCloseClip_of_loading hid hstate hload
  exact ⟨fun hfew => exec_of_taking (c := .closeClip tag id) rfl nofun hfree (htaking.trans (if_pos hfew)),
    fun hall => exec_of_taking (c := .closeClip tag id) rfl nofun hfree (htaking.trans (if_neg (not_lt.mpr hall)))⟩

/-! ### Free Clip (R38) -/

theorem takeFreeClip_of_referenced {s : State} {id : Nat} (hid : id < 64) (h : 0 < (s.clip id).refs) :
    takeFreeClip id s = refuse s .inUse := by
  rw [takeFreeClip, if_neg (by omega), if_pos h]

theorem takeFreeClip_of_free {s : State} {id : Nat} (hid : id < 64) (hrefs : (s.clip id).refs = 0)
    (hstate : (s.clip id).state = .free) : takeFreeClip id s = accept s (beBytes 2 s.cs.freePages.length) := by
  rw [takeFreeClip, if_neg (by omega), if_neg (by omega), hstate]

/-- The part after a Free Clip of a clip that is not FREE. -/
def State.clipFreed (s : State) (id : Nat) : State :=
  { s with cs := { s.cs with
      freePages := mergePages (s.clipPages id) s.cs.freePages,
      clips := s.cs.clips.setIfInBounds id { state := .free, load := none, computed := none, failReason := none, refs := 0 },
      order := if (s.clip id).state = .verifying then s.cs.order.filter (· != id) else s.cs.order,
      verifierSince := if (s.clip id).state = .verifying ∧ s.cs.order.head? = some id then s.clock else s.cs.verifierSince } }

theorem takeFreeClip_of_held {s : State} {id : Nat} (hid : id < 64) (hrefs : (s.clip id).refs = 0)
    (hstate : (s.clip id).state ≠ .free) :
    takeFreeClip id s = accept (s.clipFreed id) (beBytes 2 (s.clipFreed id).cs.freePages.length) := by
  have hfreed : ∀ t : State, t.clip id = s.clip id →
      t.freeClip id = { t with cs := { t.cs with
        freePages := mergePages (s.clipPages id) t.cs.freePages,
        clips := t.cs.clips.setIfInBounds id
          { state := .free, load := none, computed := none, failReason := none, refs := 0 } } } := by
    intro t ht
    rw [State.freeClip, ht, hrefs]
    rfl
  rw [takeFreeClip, if_neg (by omega), if_neg (by omega), State.clipFreed]
  cases h : (s.clip id).state
  case free => exact absurd h hstate
  case verifying =>
    simp only [hfreed (s.leaveOrder id) rfl]
    simp [State.leaveOrder]
  all_goals simp [hfreed s rfl]

/-- Settles O10: refused, nothing, or the clip is freed, by the count and the clip's state. -/
theorem freeClipResult : Obligations.FreeClipResult := by
  intro tag id s hfree hid
  refine ⟨fun h => ?referenced, fun hrefs hstate => ?free, ?held⟩
  case referenced => exact exec_of_taking (c := .freeClip tag id) rfl nofun hfree (takeFreeClip_of_referenced hid h)
  case free => exact exec_of_taking (c := .freeClip tag id) rfl nofun hfree (takeFreeClip_of_free hid hrefs hstate)
  case held =>
    rintro _ hrefs hstate rfl
    exact exec_of_taking (c := .freeClip tag id) rfl nofun hfree (takeFreeClip_of_held hid hrefs hstate)

/-! ### The verifier (R33, R35) -/

/-- The verifier finishes with the clip at the front of the order. -/
theorem State.completeVerification_of_front {s : State} {id : Nat} {rest : List Nat} (horder : s.cs.order = id :: rest)
    (l : ClipLoad) {sum : Nat} (hsum : sum = checksumOf (clipPointList s.cs l)) :
    s.completeVerification id l
      = State.raise { s with cs := { s.cs with
          clips := s.cs.clips.setIfInBounds id
            { s.clip id with
              state := if sum = l.expected then .ready else .failed, computed := some sum,
              failReason := if sum = l.expected then none else some .checksum },
          order := rest.filter (· != id), verifierSince := s.clock } }
        .clip (some (.clip id (if sum = l.expected then .ready else .checksum))) := by
  subst hsum
  simp [State.completeVerification, State.leaveOrder, State.setClip, horder]

/-- Settles O11: the row is the completion once the front clip's time has passed, and the passing of time before. -/
theorem verificationCompleteResult : Obligations.VerificationCompleteResult := by
  intro at' id rest l s horder hload
  have hrow : exec (.verificationComplete at') s
      = if s.cs.verifierSince + clipPoints l * 3125 ≤ max s.clock at' then .next ((s.tick at').completeVerification id l)
        else .next (s.tick at') := by
    show execVerificationComplete at' s = _
    simp [execVerificationComplete, horder, hload]
  refine ⟨fun hdue sum hsum => ?due, fun hearly => hrow.trans (if_neg (not_le.mpr hearly))⟩
  case due =>
    exact (hrow.trans (if_pos hdue)).trans
      (congrArg Host.Outcome.next (State.completeVerification_of_front (s := s.tick at') horder l hsum))

/-! ### The reading requests -/

/-- A request that only reads: accepted, in the state as it was. -/
theorem exec_of_reading {c : Instr} {tag : Nat} {r : Request} {s : State} {fields : List Byte}
    (h : c.asRequest = some (tag, r)) (hr : r ≠ .resetPart) (hfree : s.repliesHeld < 2)
    (ht : takingOf r s = accept s fields) : exec c s = .next (s.answered (requestCode r) tag .ok fields) :=
  exec_of_taking h hr hfree ht

/-- An absent number is filled with zeros (R198). -/
theorem optionalBytes_beBytes (w : Nat) (o : Option Nat) : optionalBytes w (beBytes w) o = beBytes w (o.getD 0) := by
  have hzero : ∀ n, beBytes n 0 = List.replicate n 0 := fun n => by
    induction n with
    | zero => rfl
    | succ n ih => rw [beBytes, ih, Nat.zero_div, List.replicate_succ]; rfl
  cases o with
  | none => exact (hzero w).symm
  | some v => rfl

theorem flagBytes_eq (b : Bool) : flagBytes b = beBytes 1 (if b then 1 else 0) := by
  cases b <;> rfl

/-- A Read Queue reply starts with the length, the cursor, the tail depth and the watch (section 11.4). -/
theorem queueBytes_take (q : SegmentQueue) (position : Nat) (withStats : Bool) :
    (queueBytes q position withStats).take 4
      = beBytes 1 q.entries.length ++ beBytes 1 q.cursor ++ beBytes 1 q.tailDepth ++ beBytes 1 (if q.watch then 1 else 0) := by
  rw [← flagBytes_eq]
  rfl

theorem takeReadQueue_of_inRange {position withStats : Nat} (hp : position < 64) (hw : withStats < 2) (s : State) :
    takeReadQueue position withStats s = accept s (queueBytes s.sq position (withStats == 1)) := by
  have hin : ¬ 63 < position := by omega
  interval_cases withStats <;> exact if_neg hin

/-- Settles O16: each request is accepted in the state as it was, with the fields of its rule. -/
theorem readRequestsChangeNothing : Obligations.ReadRequestsChangeNothing := by
  intro tag s hfree
  refine ⟨?clipInfo, ?storeInfo, ?readQueue, ?readDone, ?readEngine, ?readGainSet, ?readChannel, ?readCapture, ?captureInfo,
    ?queryIdentity, ?queryStatus⟩
  case clipInfo =>
    intro id position hid hp
    exact exec_of_reading (c := .clipInfo tag id position) rfl nofun hfree (if_neg (by omega))
  case storeInfo =>
    rw [← optionalBytes_beBytes]
    exact exec_of_reading (c := .storeInfo tag) rfl nofun hfree rfl
  case readQueue =>
    intro position withStats hp hw
    exact ⟨exec_of_reading (c := .readQueue tag position withStats) rfl nofun hfree (takeReadQueue_of_inRange hp hw s),
      queueBytes_take s.sq position _⟩
  case readDone =>
    intro sequence
    rw [← optionalBytes_beBytes]
    exact exec_of_reading (c := .readDone tag sequence) rfl nofun hfree (by
      simp only [takingOf, takeReadDone, Option.isSome_map])
  case readEngine => exact exec_of_reading (c := .readEngine tag) rfl nofun hfree rfl
  case readGainSet =>
    intro set hset
    rw [← flagBytes_eq]
    exact exec_of_reading (c := .readGainSet tag set) rfl nofun hfree (if_neg (by omega))
  case readChannel =>
    intro ch hch
    exact exec_of_reading (c := .readChannel tag ch) rfl nofun hfree (if_neg (by omega))
  case readCapture =>
    intro sequence offset count h hmin hmax hcommitted hsequence hfit
    refine exec_of_reading (c := .readCapture tag sequence offset count) rfl nofun hfree ?_
    have hwords : ¬ headerWords h < offset + count := not_lt.mpr hfit
    simp only [takingOf, takeReadCapture, hcommitted, hsequence, ne_eq, not_true_eq_false, if_neg hwords, if_false]
    exact if_neg (by omega)
  case captureInfo => exact exec_of_reading (c := .captureInfo tag) rfl nofun hfree rfl
  case queryIdentity => exact exec_of_reading (c := .queryIdentity tag) rfl nofun hfree rfl
  case queryStatus => exact exec_of_reading (c := .queryStatus tag 0) rfl nofun hfree rfl

end Sys2Proof.Machine
end

section
/-! The agenda of a state: what the laws of the queue and of the schedule read of it. The operations of playback keep it, move it
by a run of the advance routine, or load and release its context (R45, R46, R50, R60, R77). -/

namespace Sys2Proof.Machine

open Sys2Proof

/-! ### The agenda -/

/-- The entries, the loop stack and the context by their tags, with the cursor and the done ring. -/
structure Agenda where
  tags : List Nat
  cursor : Nat
  frames : List Nat
  ring : List DoneRecord
  next : Nat
  context : Option Nat

/-- The agenda of a state. -/
def State.agenda (s : State) : Agenda :=
  { tags := s.sq.entries.map (·.tag), cursor := s.sq.cursor, frames := s.sq.stack.map (·.tag), ring := s.sq.doneRing,
    next := s.sq.nextSeq, context := s.pe.ctx.map (·.tag) }

theorem State.agenda_congr {s t : State} (hsq : t.sq = s.sq) (hctx : t.pe.ctx = s.pe.ctx) : t.agenda = s.agenda := by
  rw [State.agenda, State.agenda, hsq, hctx]

theorem State.agenda_context_none {s : State} (h : s.pe.ctx = none) : s.agenda.context = none := by
  rw [State.agenda, h, Option.map_none]

theorem findTag_eq (es : List Entry) (tag : Nat) : findTag es tag = (es.map (·.tag)).idxOf? tag := by
  rw [findTag, List.idxOf?, List.findIdx?_map]
  rfl

/-! ### The open loops (R50) -/

/-- The frames, innermost first, name tags at falling places below `hi`, the outermost at `lo` or above. -/
def FramesOpen (tags : List Nat) (lo : Nat) : Nat → List Nat → Prop
  | hi, [] => lo ≤ hi
  | hi, t :: rest => ∃ p, tags.idxOf? t = some p ∧ p < hi ∧ FramesOpen tags lo p rest

theorem FramesOpen.le {tags : List Nat} {lo : Nat} : ∀ {frames : List Nat} {hi : Nat}, FramesOpen tags lo hi frames → lo ≤ hi
  | [], _, h => h
  | _ :: _, _, ⟨_, _, hlt, hrest⟩ => hrest.le.trans hlt.le

theorem FramesOpen.mono {tags : List Nat} {lo hi hi' : Nat} (hle : hi ≤ hi') :
    ∀ {frames : List Nat}, FramesOpen tags lo hi frames → FramesOpen tags lo hi' frames
  | [], h => Nat.le_trans h hle
  | _ :: _, ⟨p, hp, hlt, hrest⟩ => ⟨p, hp, hlt.trans_le hle, hrest⟩

theorem FramesOpen.floor {tags : List Nat} {lo lo' : Nat} (hle : lo' ≤ lo) :
    ∀ {frames : List Nat} {hi : Nat}, FramesOpen tags lo hi frames → FramesOpen tags lo' hi frames
  | [], _, h => Nat.le_trans hle h
  | _ :: _, _, ⟨p, hp, hlt, hrest⟩ => ⟨p, hp, hlt, hrest.floor hle⟩

/-- Entries that join at the tail leave the open loops where they are. -/
theorem FramesOpen.append {tags : List Nat} {lo : Nat} (more : List Nat) :
    ∀ {frames : List Nat} {hi : Nat}, FramesOpen tags lo hi frames → FramesOpen (tags ++ more) lo hi frames
  | [], _, h => h
  | _ :: _, _, ⟨p, hp, hlt, hrest⟩ => by
    refine ⟨p, ?_, hlt, hrest.append more⟩
    rw [List.idxOf?, List.findIdx?_append, ← List.idxOf?, hp]
    rfl

/-- When the entry at the front leaves, every place falls by one. -/
theorem FramesOpen.tail {tag : Nat} {tags : List Nat} {lo : Nat} :
    ∀ {frames : List Nat} {hi : Nat}, FramesOpen (tag :: tags) (lo + 1) (hi + 1) frames → FramesOpen tags lo hi frames
  | [], _, h => Nat.le_of_succ_le_succ h
  | t :: _, _, ⟨p, hp, hlt, hrest⟩ => by
    obtain ⟨q, rfl⟩ : ∃ q, p = q + 1 := ⟨p - 1, by have := hrest.le; omega⟩
    refine ⟨q, ?_, Nat.lt_of_succ_lt_succ hlt, hrest.tail⟩
    rw [List.idxOf?_cons] at hp
    split at hp
    · cases hp
    · obtain ⟨q', hq', heq⟩ := Option.map_eq_some_iff.mp hp
      rw [hq', Nat.succ.inj heq]

/-- The place of the outermost open loop, or `hi` while no loop is open. -/
def outermost (tags : List Nat) (hi : Nat) (frames : List Nat) : Nat :=
  match frames.getLast? with
  | none => hi
  | some t => (tags.idxOf? t).getD 0

theorem outermost_cons {tags : List Nat} {t p : Nat} (hp : tags.idxOf? t = some p) (hi : Nat) (rest : List Nat) :
    outermost tags hi (t :: rest) = outermost tags p rest := by
  unfold outermost
  rw [List.getLast?_cons]
  cases rest.getLast? <;> simp [hp]

/-- Nothing is open before the outermost loop. -/
theorem FramesOpen.from_outermost {tags : List Nat} {lo : Nat} :
    ∀ {frames : List Nat} {hi : Nat}, FramesOpen tags lo hi frames → FramesOpen tags (outermost tags hi frames) hi frames
  | [], hi, _ => Nat.le_refl hi
  | _ :: rest, hi, ⟨p, hp, hlt, hrest⟩ => ⟨p, hp, hlt, by rw [outermost_cons hp]; exact hrest.from_outermost⟩

/-- The open loops in the words of the law: each frame's entry before the cursor, and an inner one after an outer one. -/
theorem framesOpen_iff (es : List Entry) : ∀ (stack : List LoopFrame) (hi : Nat),
    FramesOpen (es.map (·.tag)) 0 hi (stack.map (·.tag))
      ↔ (∀ fr ∈ stack, ∃ p, findTag es fr.tag = some p ∧ p < hi)
        ∧ stack.Pairwise fun inner outer => ∀ p q, findTag es inner.tag = some p → findTag es outer.tag = some q → q < p
  | [], hi => by simp [FramesOpen]
  | fr :: rest, hi => by
    simp only [List.map_cons, FramesOpen, framesOpen_iff es rest, List.pairwise_cons, List.forall_mem_cons, ← findTag_eq]
    constructor
    · rintro ⟨p, hp, hlt, hbehind, hnested⟩
      refine ⟨⟨⟨p, hp, hlt⟩, fun x hx => ?_⟩, fun x hx p' q hp' hq => ?_, hnested⟩
      · obtain ⟨q, hq, hqp⟩ := hbehind x hx
        exact ⟨q, hq, hqp.trans hlt⟩
      · obtain ⟨q', hq', hqp⟩ := hbehind x hx
        obtain rfl : p = p' := Option.some.inj (hp.symm.trans hp')
        obtain rfl : q' = q := Option.some.inj (hq'.symm.trans hq)
        exact hqp
    · rintro ⟨⟨⟨p, hp, hlt⟩, hbehind⟩, hinner, hnested⟩
      refine ⟨p, hp, hlt, fun x hx => ?_, hnested⟩
      obtain ⟨q, hq, -⟩ := hbehind x hx
      exact ⟨q, hq, hinner x hx p q hp hq⟩

/-- In a list without repetitions a tag is found where it stands. -/
theorem idxOf?_of_getElem? {tags : List Nat} (hnodup : tags.Nodup) {i t : Nat} (h : tags[i]? = some t) :
    tags.idxOf? t = some i := by
  obtain ⟨hi, rfl⟩ := List.getElem?_eq_some_iff.mp h
  rw [List.idxOf?_eq_some_iff]
  exact ⟨hi, rfl, fun j hj heq => absurd (hnodup.getElem_inj_iff.mp heq) (by omega)⟩

/-! ### The advance routine (R51 to R53) -/

/-- A run of the advance routine stays in the queue and keeps the open loops behind the cursor. -/
theorem scan_framesOpen {es : List Entry} (hnodup : (es.map (·.tag)).Nodup) :
    ∀ (fuel : Nat) {cursor : Nat} {stack : List LoopFrame}, cursor ≤ es.length →
      FramesOpen (es.map (·.tag)) 0 cursor (stack.map (·.tag)) →
      (scan es fuel cursor stack).1 ≤ es.length
        ∧ FramesOpen (es.map (·.tag)) 0 (scan es fuel cursor stack).1 ((scan es fuel cursor stack).2.map (·.tag))
  | 0, _, _, hc, hf => ⟨hc, hf⟩
  | fuel + 1, cursor, stack, hc, hf => by
    unfold scan
    cases he : es[cursor]? with
    | none => exact ⟨hc, hf⟩
    | some e =>
      have hin : cursor < es.length := (List.getElem?_eq_some_iff.mp he).1
      have hplace : (es.map (·.tag)).idxOf? e.tag = some cursor := idxOf?_of_getElem? hnodup (by simp [he])
      have hnext : FramesOpen (es.map (·.tag)) 0 (cursor + 1) (stack.map (·.tag)) := hf.mono cursor.le_succ
      dsimp only
      split
      · exact ⟨hc, hf⟩
      cases e.body with
      | play => exact scan_framesOpen hnodup fuel hin hnext
      | dwell => exact scan_framesOpen hnodup fuel hin hnext
      | loopOpen count => exact scan_framesOpen hnodup fuel hin ⟨cursor, hplace, cursor.lt_succ_self, hf⟩
      | loopClose =>
        cases stack with
        | nil => exact scan_framesOpen hnodup fuel hin hnext
        | cons frame rest =>
          obtain ⟨opener, hopener, hlt, hrest⟩ := hf
          have hfound : findTag es frame.tag = some opener := (findTag_eq es frame.tag).trans hopener
          have hleft : FramesOpen (es.map (·.tag)) 0 (cursor + 1) (rest.map (·.tag)) :=
            hrest.mono (hlt.le.trans cursor.le_succ)
          simp only [hfound]
          split
          · exact scan_framesOpen hnodup fuel (by omega) ⟨opener, hopener, opener.lt_succ_self, hrest⟩
          · exact scan_framesOpen hnodup fuel hin hleft

/-! ### The laws, read off the agenda -/

/-- The laws of the queue's size, its tags and the done ring's numbers. -/
structure Agenda.Numbered (a : Agenda) : Prop where
  entries_bound : a.tags.length ≤ 64
  tags_distinct : a.tags.Nodup
  ring_bound : a.ring.length ≤ 32
  next_bound : a.next < 4294967296
  ring_sequences : ∀ i r, a.ring[i]? = some r →
    r.sequence < 4294967296 ∧ (r.sequence + (a.ring.length - i)) % 4294967296 = a.next

/-- The laws that tie the cursor, the loop stack and the context to the entries. -/
structure Agenda.Scheduled (a : Agenda) : Prop where
  cursor_bound : a.cursor ≤ a.tags.length
  tags_distinct : a.tags.Nodup
  frames : FramesOpen a.tags 0 a.cursor a.frames
  held : ∀ tag, a.context = some tag → a.tags[a.cursor]? = some tag

theorem State.queueLawful_iff (s : State) : s.QueueLawful ↔ s.agenda.Numbered := by
  constructor
  · rintro ⟨hentries, htags, hring, hnext, hseq⟩
    exact ⟨by rwa [State.agenda, List.length_map], htags, hring, hnext, hseq⟩
  · rintro ⟨hentries, htags, hring, hnext, hseq⟩
    exact ⟨by rwa [State.agenda, List.length_map] at hentries, htags, hring, hnext, hseq⟩

theorem State.scheduleLawful_iff (s : State) :
    s.ScheduleLawful ↔ s.agenda.Scheduled ∧ (s.Resting → s.pe.ctx = none) := by
  have hframes := framesOpen_iff s.sq.entries s.sq.stack s.sq.cursor
  have hheld : (∀ c, s.pe.ctx = some c → ∃ e, s.cursorEntry = some e ∧ e.tag = c.tag)
      ↔ ∀ tag, s.agenda.context = some tag → s.agenda.tags[s.agenda.cursor]? = some tag := by
    simp only [State.agenda, Option.map_eq_some_iff, List.getElem?_map]
    exact ⟨fun h tag ⟨c, hc, htag⟩ => htag ▸ h c hc, fun h c hc => h c.tag ⟨c, hc, rfl⟩⟩
  have hcursor : s.sq.cursor ≤ s.sq.entries.length ↔ s.agenda.cursor ≤ s.agenda.tags.length := by simp [State.agenda]
  constructor
  · rintro ⟨hc, htags, hbehind, hnested, hh, hnone⟩
    exact ⟨⟨hcursor.mp hc, htags, hframes.mpr ⟨hbehind, hnested⟩, hheld.mp hh⟩, hnone⟩
  · rintro ⟨⟨hc, htags, hf, hh⟩, hnone⟩
    obtain ⟨hbehind, hnested⟩ := hframes.mp hf
    exact ⟨hcursor.mpr hc, htags, hbehind, hnested, hheld.mpr hh, hnone⟩

/-! ### Done records (R57 to R60) -/

/-- From `a` to `b` the ring takes at most a done record, under the next sequence number. -/
def Agenda.Recorded (a b : Agenda) : Prop :=
  b = a ∨ ∃ r : DoneRecord, r.sequence = a.next
    ∧ b = { a with ring := pushDone a.ring r, next := (a.next + 1) % 4294967296 }

theorem Agenda.Scheduled.recorded {a b : Agenda} (ha : a.Scheduled) (h : a.Recorded b) : b.Scheduled := by
  rcases h with rfl | ⟨r, -, rfl⟩
  · exact ha
  · exact ⟨ha.cursor_bound, ha.tags_distinct, ha.frames, ha.held⟩

theorem Agenda.Recorded.places {a b : Agenda} (h : a.Recorded b) :
    b.tags = a.tags ∧ b.cursor = a.cursor ∧ b.frames = a.frames := by
  rcases h with rfl | ⟨r, -, rfl⟩ <;> exact ⟨rfl, rfl, rfl⟩

/-- A record joins the ring behind the newest 31 of it. -/
theorem pushDone_eq {ring : List DoneRecord} (h : ring.length ≤ 32) (r : DoneRecord) :
    pushDone ring r = ring.drop (ring.length - 31) ++ [r] := by
  unfold pushDone
  split
  · rfl
  · next hfew =>
    have hfew : ring.length < 32 := not_le.mp hfew
    rw [Nat.sub_eq_zero_of_le (by omega : ring.length ≤ 31), List.drop_zero]

theorem Agenda.Numbered.recorded {a b : Agenda} (ha : a.Numbered) (h : a.Recorded b) : b.Numbered := by
  rcases h with rfl | ⟨r, hr, rfl⟩
  · exact ha
  · have hring := ha.ring_bound
    have hnext := ha.next_bound
    refine ⟨ha.entries_bound, ha.tags_distinct, ?_, Nat.mod_lt _ (by decide), fun i x hx => ?_⟩
    · dsimp only
      rw [pushDone_eq hring, List.length_append, List.length_drop, List.length_singleton]
      omega
    · dsimp only at hx ⊢
      rw [pushDone_eq hring] at hx ⊢
      rw [List.length_append, List.length_drop, List.length_singleton]
      by_cases hi : i < (a.ring.drop (a.ring.length - 31)).length
      · rw [List.getElem?_append_left hi, List.getElem?_drop] at hx
        rw [List.length_drop] at hi
        obtain ⟨hlt, hseq⟩ := ha.ring_sequences _ x hx
        exact ⟨hlt, by omega⟩
      · rw [List.getElem?_append_right (not_lt.mp hi), List.getElem?_singleton] at hx
        rw [List.length_drop] at hi hx
        obtain ⟨hlast, hx⟩ := Option.ite_none_right_eq_some.mp hx
        rw [← Option.some.inj hx, hr]
        exact ⟨hnext, by omega⟩

theorem State.addDone_recorded (s : State) (tag : Nat) (kind : PlayKind) (flushed notify : Bool) (r : Runtime) :
    s.agenda.Recorded (s.addDone tag kind flushed notify r).agenda := by
  unfold State.addDone
  dsimp only
  generalize hrecord : ({ sequence := s.sq.nextSeq, .. } : DoneRecord) = record
  refine .inr ⟨record, by rw [← hrecord]; rfl, ?_⟩
  split
  · exact State.agenda_congr (State.raise_sq _ _ _) (by rw [State.raise_pe])
  · rfl

theorem State.leaveEntry_recorded (s : State) (flushed : Bool) (e : Entry) :
    s.agenda.Recorded (s.leaveEntry flushed e).agenda := by
  unfold State.leaveEntry
  split
  · exact State.addDone_recorded _ _ _ _ _ _
  · exact State.addDone_recorded _ _ _ _ _ _
  · exact .inl rfl
  · exact .inl rfl

/-! ### Retirement (R57) -/

theorem Agenda.Numbered.retire : ∀ (n : Nat) {s : State}, s.agenda.Numbered → (s.retire n).agenda.Numbered
  | 0, _, hs => hs
  | n + 1, s, hs => by
    unfold State.retire
    split
    · exact hs
    · next e rest he =>
      have htags : s.agenda.tags = e.tag :: rest.map (·.tag) := by rw [State.agenda, he, List.map_cons]
      have hbound := hs.entries_bound
      rw [htags, List.length_cons] at hbound
      refine Agenda.Numbered.retire n (.recorded ?_ (State.leaveEntry_recorded _ _ _))
      exact ⟨Nat.le_of_succ_le hbound, (htags ▸ hs.tags_distinct).of_cons, hs.ring_bound, hs.next_bound, hs.ring_sequences⟩

theorem Agenda.Numbered.realRun {s : State} (hs : s.agenda.Numbered) (start : Nat) : (s.realRun start).agenda.Numbered :=
  Agenda.Numbered.retire _ ⟨hs.entries_bound, hs.tags_distinct, hs.ring_bound, hs.next_bound, hs.ring_sequences⟩

/-- Entries before the cursor and before every open loop retire without disturbing either. -/
theorem Agenda.Scheduled.retire : ∀ (n : Nat) {s : State}, s.agenda.Scheduled → s.pe.ctx = none →
    FramesOpen s.agenda.tags n s.agenda.cursor s.agenda.frames → (s.retire n).agenda.Scheduled
  | 0, _, hs, _, _ => hs
  | n + 1, s, hs, hctx, hopen => by
    unfold State.retire
    split
    · exact hs
    · next e rest he =>
      have htags : s.agenda.tags = e.tag :: rest.map (·.tag) := by rw [State.agenda, he, List.map_cons]
      obtain ⟨c, hc⟩ : ∃ c, s.agenda.cursor = c + 1 := ⟨s.agenda.cursor - 1, by have := hopen.le; omega⟩
      have hfall : s.sq.cursor - 1 = c := by rw [show s.sq.cursor = c + 1 from hc]; rfl
      generalize hu : s.setSq { s.sq with entries := rest, cursor := s.sq.cursor - 1 } = u
      have huc : u.agenda.cursor = c := by rw [← hu]; exact hfall
      have hopen' : FramesOpen u.agenda.tags n u.agenda.cursor u.agenda.frames := by
        rw [huc, ← hu]
        exact FramesOpen.tail (htags ▸ hc ▸ hopen)
      have huctx : u.pe.ctx = none := by rw [← hu]; exact hctx
      have hu' : u.agenda.Scheduled := by
        refine ⟨?_, ?_, ?_, fun tag h => ?_⟩
        · have hbound := hs.cursor_bound
          rw [htags, hc, List.length_cons] at hbound
          rw [huc, ← hu]
          exact Nat.le_of_succ_le_succ hbound
        · rw [← hu]
          exact (htags ▸ hs.tags_distinct).of_cons
        · exact hopen'.floor n.zero_le
        · rw [State.agenda_context_none huctx] at h
          cases h
      have hrecorded := u.leaveEntry_recorded false e
      obtain ⟨htags', hcursor', hframes'⟩ := hrecorded.places
      refine Agenda.Scheduled.retire n (hu'.recorded hrecorded) (by rw [State.leaveEntry_pe]; exact huctx) ?_
      rw [htags', hcursor', hframes']
      exact hopen'

theorem State.retireCount_eq (s : State) : s.retireCount = outermost s.agenda.tags s.agenda.cursor s.agenda.frames := by
  unfold State.retireCount outermost State.agenda
  dsimp only
  rw [List.getLast?_map]
  cases s.sq.stack.getLast? with
  | none => rfl
  | some frame => simp only [Option.map_some, findTag_eq]

/-- A real run from the cursor or beyond, with no context, keeps the schedule (R51, R57). -/
theorem Agenda.Scheduled.realRun {s : State} (hs : s.agenda.Scheduled) (hctx : s.pe.ctx = none) {start : Nat}
    (hge : s.sq.cursor ≤ start) (hle : start ≤ s.sq.entries.length) : (s.realRun start).agenda.Scheduled := by
  obtain ⟨hbound, hopen⟩ := scan_framesOpen hs.tags_distinct (advanceFuel s.sq.entries) hle (hs.frames.mono hge)
  unfold State.realRun State.advanceFrom
  dsimp only
  rw [State.retireCount_eq]
  refine Agenda.Scheduled.retire _ ⟨?_, hs.tags_distinct, hopen, fun tag h => ?_⟩ hctx hopen.from_outermost
  · simpa [State.agenda] using hbound
  · rw [State.agenda_context_none (by exact hctx)] at h
    cases h

end Sys2Proof.Machine
end

section
/-! What the operations of playback make of the agenda: most keep it; a release, a next visit and a Start move it. A law that these
moves, the requests of the Segment Queue and an emptied queue keep, every operation of the part keeps. -/

namespace Sys2Proof.Machine

open Sys2Proof

/-! ### Operations that keep the agenda -/

section agenda
variable (s : State)

/-- Once the advance watch has fired the queue differs in its flag alone (R72). -/
theorem State.fireWatch_sq : s.fireWatch.sq = { s.sq with watch := false } := by
  unfold State.fireWatch
  split
  · exact State.raise_sq _ _ _
  · next h => rw [← Bool.eq_false_iff.mpr h]

theorem State.fireWatch_agenda : s.fireWatch.agenda = s.agenda := by
  rw [State.agenda, State.fireWatch_sq, State.fireWatch_pe]
  rfl

theorem State.enterStopped_agenda (new : EngineState) (cause : Option EngineCause) :
    (s.enterStopped new cause).agenda = s.agenda :=
  (State.fireWatch_agenda _).trans (State.agenda_congr (by simp) (by rw [State.enterState_pe]))

theorem State.enterTripped_agenda (cause : EngineCause) (ch : Option Nat) : (s.enterTripped cause ch).agenda = s.agenda :=
  (State.fireWatch_agenda _).trans (State.agenda_congr (by simp) (by rw [State.raise_pe, State.enterState_pe]; rfl))

/-- A change of an entry that leaves its tag. -/
theorem State.mapEntry_agenda {pos : Nat} {f : Entry → Entry}
    (h : ∀ e, s.sq.entries[pos]? = some e → (f e).tag = e.tag) : (s.mapEntry pos f).agenda = s.agenda := by
  have hentries : (s.sq.entries.modify pos f).map (·.tag) = s.sq.entries.map (·.tag) := by
    refine List.ext_getElem? fun i => ?_
    rw [List.getElem?_map, List.getElem?_map, List.getElem?_modify]
    cases he : s.sq.entries[i]? with
    | none => rfl
    | some e =>
      by_cases hi : pos = i
      · subst hi
        simp [h e he]
      · simp [hi]
  simp [State.agenda, State.mapEntry, hentries]

theorem Entry.tag_mapRuntime (e : Entry) (f : Runtime → Runtime) : (e.mapRuntime f).tag = e.tag := by
  obtain ⟨tag, body⟩ := e
  cases body <;> rfl

theorem State.mapHeld_agenda (f : Runtime → Runtime) : (s.mapHeld f).agenda = s.agenda :=
  s.mapEntry_agenda fun e _ => e.tag_mapRuntime f

/-- A context replaced by one of the same entry. -/
theorem State.setCtx_agenda {c : Option Context} (h : c.map (·.tag) = s.pe.ctx.map (·.tag)) :
    (s.setCtx c).agenda = s.agenda := by
  simp [State.agenda, h]

theorem Context.map_tag {f : Context → Context} (h : ∀ c, (f c).tag = c.tag) (ctx : Option Context) :
    (ctx.map f).map (·.tag) = ctx.map (·.tag) := by
  simp [Function.comp_def, h]

theorem State.setCut_agenda : s.setCut.agenda = s.agenda := s.setCtx_agenda (Context.map_tag (fun _ => by rfl) _)

theorem State.dropCaptureDue_agenda : s.dropCaptureDue.agenda = s.agenda :=
  s.setCtx_agenda (Context.map_tag (fun _ => by rfl) _)

theorem State.stampLast_agenda : s.stampLast.agenda = s.agenda := s.setCtx_agenda (Context.map_tag (fun _ => by rfl) _)

theorem State.stampFirst_agenda : s.stampFirst.agenda = s.agenda := by
  unfold State.stampFirst
  split
  · next c hc =>
    split
    · rfl
    · exact (State.setCtx_agenda _ (by simp [hc])).trans (s.mapHeld_agenda _)
  · rfl

theorem State.countPass_agenda {c : Context} (hc : s.pe.ctx = some c) : (s.countPass c).agenda = s.agenda := by
  unfold State.countPass
  split
  · rfl
  · exact (State.setCtx_agenda _ (by simp [hc])).trans (s.mapHeld_agenda _)

theorem Context.tag_mapStats (c : Context) (f : StatRecord → StatRecord) : (c.mapStats f).tag = c.tag := by
  unfold Context.mapStats
  split <;> rfl

theorem State.mapStat_agenda (ch : Nat) (f : StatRecord → StatRecord) : (s.mapStat ch f).agenda = s.agenda := by
  rw [State.agenda, State.mapStat_pe, State.mapStat_sq, Context.map_tag fun c => c.tag_mapStats _]
  rfl

theorem State.rampStep_agenda : s.rampStep.agenda = s.agenda :=
  State.agenda_congr (by simp) (by rw [State.rampStep_pe, Engine.ramped_ctx])

theorem State.markCompare_agenda (p : PlayPosition) (m : Nat) : (s.markCompare p m).agenda = s.agenda := by
  have hcut : s.pe.cut.ctx.map (·.tag) = s.pe.ctx.map (·.tag) := by
    unfold Engine.cut
    split
    · exact Context.map_tag (fun _ => by rfl) _
    · exact Context.map_tag (fun _ => by rfl) _
    · rfl
  rw [State.agenda, State.markCompare_pe, State.markCompare_sq]
  split
  · rw [hcut]; rfl
  · rfl

theorem Context.tag_advanced (c : Context) : c.advanced.tag = c.tag := by
  unfold Context.advanced
  split <;> rfl

theorem State.latchPending_agenda (g : Nat) : (s.latchPending g).agenda = s.agenda :=
  State.agenda_congr (by simp) (by simp)

/-- A reload point gives the context a gain set (R79). -/
theorem State.reloadPoint_agenda : s.reloadPoint.agenda = s.agenda := by
  unfold State.reloadPoint
  split
  · next c _ _ _ hc _ =>
    split
    · rw [State.fireWatch_agenda, State.latchPending_agenda]
      exact s.setCtx_agenda (by simp [hc])
    · exact s.fireWatch_agenda
  · exact s.fireWatch_agenda

/-! ### Visits (R78, R90, R91) -/

/-- A visit that leaves the context. -/
theorem State.dropVisit_agenda (c : Context) (f : Runtime → Runtime) :
    (((s.mapHeld f).dropContextRef c).setCtx none).agenda = { s.agenda with context := none } := by
  rw [← s.mapHeld_agenda f]
  simp [State.agenda]

/-- Everything a release does to the agenda: nothing without a context; a real run after a finished visit; else the context goes. -/
theorem State.releaseContext_cases :
    s.releaseContext.agenda = { s.agenda with context := none }
      ∨ ∃ c, s.pe.ctx = some c ∧ s.releaseContext = (s.endVisit c).realRun (s.sq.cursor + 1) := by
  unfold State.releaseContext
  split
  · next h =>
    left
    rw [← State.agenda_context_none h]
  · next c hc =>
    split
    · exact .inr ⟨c, hc, rfl⟩
    · exact .inl (s.dropVisit_agenda c _)

/-- Everything the beginning of a visit does to the agenda: the context is loaded with the entry at the cursor, or nothing. -/
theorem State.beginVisit_agenda_cases :
    s.beginVisit.agenda = s.agenda
      ∨ ∃ tag, s.agenda.tags[s.agenda.cursor]? = some tag ∧ s.beginVisit.agenda = { s.agenda with context := some tag } := by
  have htag : ∀ {e : Entry}, s.cursorEntry = some e → s.agenda.tags[s.agenda.cursor]? = some e.tag := fun {e} he => by
    have he : s.sq.entries[s.sq.cursor]? = some e := he
    simp [State.agenda, he]
  have hloaded : ∀ (t : State) (c : Context), t.sq = (s.mapHeld Runtime.begun).sq →
      ((t.setCtx (some c)).passStart).reloadPoint.agenda = { s.agenda with context := some c.tag } := fun t c ht => by
    rw [State.reloadPoint_agenda, ← s.mapHeld_agenda Runtime.begun]
    simp [State.agenda, ht]
  unfold State.beginVisit
  split
  · next tag f r he =>
    split
    · exact .inl rfl
    · exact .inr ⟨tag, htag he, hloaded _ _ (by simp)⟩
  · next tag f r he => exact .inr ⟨tag, htag he, hloaded _ _ rfl⟩
  · exact .inl rfl

theorem State.placeEntry_agenda (e : Entry) :
    (s.placeEntry e).agenda = { s.agenda with tags := s.agenda.tags ++ [e.tag] } := by
  obtain ⟨tag, body⟩ := e
  cases body <;> simp [State.placeEntry, State.agenda]

end agenda

/-- A replaced entry keeps its tag, and its frame too (R64, R67). -/
theorem State.replaceEntry_agenda {s : State} {pos : Nat} {old new : Entry} (hold : s.sq.entries[pos]? = some old)
    (htag : new.tag = old.tag) : (s.replaceEntry pos old new).agenda = s.agenda := by
  have hplaced : ∀ b : Bool, (s.mapEntry pos fun _ => if b then new.mapRuntime Runtime.skipInterrupted else new).agenda
      = s.agenda := fun b => s.mapEntry_agenda fun e he => by
    obtain rfl : old = e := Option.some.inj (hold.symm.trans he)
    split
    · rw [Entry.tag_mapRuntime, htag]
    · exact htag
  have hframed : ∀ (t : State) (tag count : Nat),
      (t.setSq { t.sq with stack := reframe tag count t.sq.stack }).agenda = t.agenda := fun t tag count => by
    have htags : (reframe tag count t.sq.stack).map (·.tag) = t.sq.stack.map (·.tag) := by
      rw [reframe, List.map_map]
      refine List.map_congr_left fun fr _ => ?_
      rw [Function.comp_apply]
      split <;> rfl
    simp [State.agenda, htags]
  unfold State.replaceEntry
  dsimp only
  split
  · rw [State.setCut_agenda]
    split
    · exact (hframed _ _ _).trans (hplaced _)
    · exact hplaced _
  · split
    · exact (hframed _ _ _).trans (hplaced _)
    · exact hplaced _

/-! ### The moves of the two laws -/

theorem State.ctx_eq_none_iff_agenda (s : State) : s.pe.ctx = none ↔ s.agenda.context = none := by simp [State.agenda]

theorem Agenda.Numbered.withContext {a : Agenda} (ha : a.Numbered) (ctx : Option Nat) :
    ({ a with context := ctx } : Agenda).Numbered :=
  ⟨ha.entries_bound, ha.tags_distinct, ha.ring_bound, ha.next_bound, ha.ring_sequences⟩

theorem Agenda.Numbered.beginVisit {s : State} (hs : s.agenda.Numbered) : s.beginVisit.agenda.Numbered := by
  rcases s.beginVisit_agenda_cases with h | ⟨tag, -, h⟩
  · rw [h]; exact hs
  · rw [h]; exact hs.withContext _

theorem Agenda.Scheduled.withoutContext {a : Agenda} (ha : a.Scheduled) : ({ a with context := none } : Agenda).Scheduled :=
  ⟨ha.cursor_bound, ha.tags_distinct, ha.frames, nofun⟩

theorem Agenda.Scheduled.beginVisit {s : State} (hs : s.agenda.Scheduled) : s.beginVisit.agenda.Scheduled := by
  rcases s.beginVisit_agenda_cases with h | ⟨tag, htag, h⟩
  · rw [h]; exact hs
  · rw [h]
    exact ⟨hs.cursor_bound, hs.tags_distinct, hs.frames, fun tag' h' => Option.some.inj h' ▸ htag⟩

/-- After a visit the advance routine runs from the entry behind the one that the context held (R90, R91). -/
theorem Agenda.Scheduled.afterVisit {s : State} (hs : s.agenda.Scheduled) {c : Context} (hc : s.pe.ctx = some c) :
    ((s.endVisit c).realRun (s.sq.cursor + 1)).agenda.Scheduled := by
  have hended : (s.endVisit c).agenda = { s.agenda with context := none } := by rw [State.endVisit, State.dropVisit_agenda]
  have hcursor : (s.endVisit c).sq.cursor = s.sq.cursor := congrArg Agenda.cursor hended
  have hlength : (s.endVisit c).sq.entries.length = s.sq.entries.length := by
    simpa [State.agenda] using congrArg (fun a => a.tags.length) hended
  have hin : s.sq.cursor < s.sq.entries.length := by
    have hheld := (List.getElem?_eq_some_iff.mp (hs.held c.tag (by rw [State.agenda, hc]; rfl))).1
    simpa [State.agenda] using hheld
  refine Agenda.Scheduled.realRun (hended ▸ hs.withoutContext) (by rw [State.endVisit_pe]) ?_ ?_
  · rw [hcursor]; exact s.sq.cursor.le_succ
  · rw [hlength]; exact hin

/-- An entry that passes the checks finds room and carries a new tag (R55). -/
theorem appendCheck_none {s : State} {e : Entry} (h : appendCheck s e = none) :
    s.sq.entries.length < 64 ∧ e.tag ∉ s.agenda.tags := by
  unfold appendCheck at h
  split at h
  · cases h
  split at h
  · cases h
  · next hroom hnew =>
    refine ⟨not_le.mp hroom, fun hmem => hnew ?_⟩
    rw [findTag_eq, List.isSome_idxOf?]
    exact hmem

theorem tags_distinct_append {tags : List Nat} (h : tags.Nodup) {tag : Nat} (hnew : tag ∉ tags) : (tags ++ [tag]).Nodup :=
  List.nodup_append_comm.mp (List.nodup_cons.mpr ⟨hnew, h⟩)

/-! ### The requests of the Clip Store -/

theorem takeOpenClip_sq_pe (id mask upsample length checksum : Nat) (s : State) :
    (takeOpenClip id mask upsample length checksum s).1.sq = s.sq ∧ (takeOpenClip id mask upsample length checksum s).1.pe = s.pe := by
  unfold takeOpenClip
  dsimp only
  (repeat' split) <;> exact ⟨rfl, rfl⟩

theorem takeClipData_sq_pe (id offset : Nat) (points : List Point) (s : State) :
    (takeClipData id offset points s).1.sq = s.sq ∧ (takeClipData id offset points s).1.pe = s.pe := by
  unfold takeClipData
  (repeat' split) <;> exact ⟨rfl, rfl⟩

theorem takeCloseClip_sq_pe (id : Nat) (s : State) : (takeCloseClip id s).1.sq = s.sq ∧ (takeCloseClip id s).1.pe = s.pe := by
  unfold takeCloseClip
  (repeat' split) <;> simp

theorem takeFreeClip_sq_pe (id : Nat) (s : State) : (takeFreeClip id s).1.sq = s.sq ∧ (takeFreeClip id s).1.pe = s.pe := by
  rcases takeFreeClip_cases id s with h | ⟨-, -, -, h⟩
  · simp [h]
  · rw [h]
    split <;> simp

/-! ### Laws of the agenda -/

/-- A law that reads of the part the agenda and whether the engine rests, and that a release, a next visit, a Start, the
requests of the Segment Queue and an emptied queue keep. -/
structure KeptByAgenda (P : State → Prop) : Prop where
  keep : ∀ s t : State, t.agenda = s.agenda → (t.Resting → s.Resting) → P s → P t
  release : ∀ s t u : State, t.agenda = s.agenda → u.agenda = t.releaseContext.agenda → P s → P u
  nextVisit : ∀ (s : State) (c : Context), s.pe.ctx = some c → P s → P ((s.endVisit c).realRun (s.sq.cursor + 1)).beginVisit
  start : ∀ s t : State, s.pe.state = .idle → t.agenda = ((s.realRun s.sq.cursor).beginVisit).agenda → ¬ t.Resting → P s → P t
  append : ∀ (s : State) (e : Entry), appendCheck s e = none → P s → P (s.placeEntry e)
  flush : ∀ s, P s → P (takeFlushQueue s).1
  empty : ∀ t : State, t.sq = SegmentQueue.reset → t.pe.ctx = none → P t

end Sys2Proof.Machine
end

section
/-! A law of the agenda is kept by every operation of the part: the operations that touch neither queue nor context, the actions, the
passes and the update. -/

namespace Sys2Proof.Machine

open Sys2Proof

namespace KeptByAgenda

variable {P : State → Prop} (hP : KeptByAgenda P)
include hP

/-! ### What leaves the queue and the engine alone -/

theorem same {s t : State} (hsq : t.sq = s.sq) (hpe : t.pe = s.pe) (hs : P s) : P t :=
  hP.keep s t (State.agenda_congr hsq (by rw [hpe])) (by rw [State.Resting, hpe]; exact id) hs

theorem blocks {s t : State} (h : t.playback = s.playback) (hs : P s) : P t := by
  obtain ⟨-, hsq, hpe⟩ := State.playback_eq_iff.mp h
  exact hP.same hsq hpe hs

theorem setPe {s : State} {e : Engine} (hctx : e.ctx = s.pe.ctx) (hstate : e.state = s.pe.state) (hs : P s) : P (s.setPe e) :=
  hP.keep s _ (State.agenda_congr rfl hctx) (by rw [State.Resting, State.setPe_pe, hstate]; exact id) hs

theorem setCtx {s : State} {c : Option Context} (h : c.map (·.tag) = s.pe.ctx.map (·.tag)) (hs : P s) : P (s.setCtx c) :=
  hP.keep s _ (s.setCtx_agenda h) id hs

/-- A request of the Clip Store leaves the queue and the engine alone. -/
theorem store {s t : State} (h : t.sq = s.sq ∧ t.pe = s.pe) (hs : P s) : P t := hP.same h.1 h.2 hs

/-! ### Actions (R85, R95) -/

theorem enterState {s : State} {new : EngineState} (hidle : new ≠ .idle) (hret : new ≠ .returning)
    (cause : Option EngineCause) (hs : P s) : P (s.enterState new cause) :=
  hP.keep s _ (State.agenda_congr (by simp) (by rw [State.enterState_pe])) (fun h => by
    rw [State.Resting, State.enterState_pe] at h
    exact absurd h (not_or.mpr ⟨hidle, hret⟩)) hs

theorem enterRampOut {s : State} (target : Target) (cause : EngineCause) (hs : P s) : P (s.enterRampOut target cause) :=
  hP.enterState (by nofun) (by nofun) _ (hP.setPe (by rfl) (by rfl) hs)

theorem enterTripped {s : State} (cause : EngineCause) (ch : Option Nat) (hs : P s) : P (s.enterTripped cause ch) :=
  hP.keep s _ (s.enterTripped_agenda cause ch) (fun h => by
    rw [State.Resting, State.enterTripped_pe] at h
    rcases h with h | h <;> cases h) hs

/-- The engine stops in IDLE and releases its context (R84, R89, R90). -/
theorem stopIdle {s : State} (e : Engine) (hctx : e.ctx = s.pe.ctx) (cause : Option EngineCause) (hs : P s) :
    P (((s.setPe e).enterStopped .idle cause).releaseContext) :=
  hP.release s _ _ ((State.enterStopped_agenda _ _ _).trans (State.agenda_congr (by rfl) hctx)) rfl hs

theorem actionEffect {s : State} (a : Action) (cause : EngineCause) (ch : Option Nat) (hs : P s) :
    P (s.actionEffect a cause ch) := by
  unfold State.actionEffect
  cases a
  case trip => exact hP.enterTripped _ _ hs
  case stop =>
    dsimp only
    split
    · exact hP.setPe (by rfl) (by rfl) hs
    · exact hP.stopIdle _ (by rfl) _ hs
    · exact hP.enterRampOut _ _ hs
  case pause => exact hP.enterRampOut _ _ hs
  case note => exact hs

theorem applyAction {s : State} (a : Action) (cause : EngineCause) (ch : Option Nat) (hs : P s) :
    P (s.applyAction a cause ch) := by
  unfold State.applyAction
  dsimp only
  split
  · exact hP.actionEffect a cause ch (hP.setPe (by rfl) (by rfl) hs)
  · exact hP.setPe (by rfl) (by rfl) hs

/-! ### Detectors, ports and results (R117, R124, R131) -/

theorem fireDetector {s : State} (r : LimitRecord) (hs : P s) : P (s.fireDetector r) := by
  have hraised : P (s.raise .limit (some (.limit r))) := hP.same (by simp) (by simp) hs
  unfold State.fireDetector
  dsimp only
  split
  · exact hraised
  · exact hP.applyAction _ _ _ hraised

theorem setLimits {s : State} (ch : Nat) (l : ChannelLimits) (hs : P s) : P (s.setLimits ch l) := hP.same (by rfl) (by rfl) hs

theorem evalEnvelope {s : State} (ch : Nat) (f : Int) (stamp : Nat) (hs : P s) : P (s.evalEnvelope ch f stamp) := by
  unfold State.evalEnvelope
  dsimp only
  split
  · split
    · exact hP.fireDetector _ (hP.setLimits _ _ hs)
    · exact hP.setLimits _ _ hs
  · exact hs

theorem evalTracking {s : State} (ch : Nat) (f : Int) (stamp : Nat) (hs : P s) : P (s.evalTracking ch f stamp) := by
  unfold State.evalTracking
  dsimp only
  split
  · split
    · exact hP.fireDetector _ (hP.setLimits _ _ hs)
    · exact hP.setLimits _ _ hs
  · exact hs

theorem evalClamp {s : State} (ch : Nat) (hs : P s) : P (s.evalClamp ch) := by
  unfold State.evalClamp
  dsimp only
  split
  · split
    · exact hP.fireDetector _ (hP.setLimits _ _ hs)
    · exact hP.setLimits _ _ hs
  · exact hs

theorem mapStat {s : State} (ch : Nat) (f : StatRecord → StatRecord) (hs : P s) : P (s.mapStat ch f) :=
  hP.keep s _ (s.mapStat_agenda ch f) (by rw [State.Resting, State.mapStat_pe]; exact id) hs

theorem takeFeedback {s : State} (ch : Nat) (f : Int) (hs : P s) : P (s.takeFeedback ch f) := by
  unfold State.takeFeedback
  split
  · exact hP.mapStat _ _ hs
  · exact hs

theorem faultChannel {s : State} (ch : Nat) (cause : FaultCause) (hs : P s) : P (s.faultChannel ch cause) := by
  unfold State.faultChannel
  dsimp only
  split
  · exact hP.applyAction _ _ _ (hP.same (by simp) (by simp) hs)
  · exact hP.same (by simp) (by simp) hs

theorem closeWindow {s : State} (ch : Nat) (hs : P s) : P (s.closeWindow ch) := by
  obtain ⟨p, cause, h | h | h⟩ := s.closeWindow_cases ch
  · rw [h]; exact hs
  · rw [h]; exact hP.same (by rfl) (by rfl) hs
  · rw [h]; exact hP.faultChannel ch cause (hP.same (by rfl) (by rfl) hs)

theorem takeResponse {s : State} (ch : Nat) (w : Window) (f sp : Int) (st : ServoStatus) (hs : P s) :
    P (s.takeResponse ch w f sp st) := by
  unfold State.takeResponse
  generalize hu : s.setPort ch _ = u
  have hu : P u := hu ▸ hP.same (by rfl) (by rfl) hs
  unfold State.actOnStatus
  split
  · exact hP.faultChannel ch _ hu
  · exact hP.same (by simp) (by simp) hu
  · exact hP.evalTracking ch f _ (hP.evalEnvelope ch f _ (hP.takeFeedback ch f hu))
  · exact hu

theorem handOn {s : State} (cr : Nat × DriveResult) (hs : P s) : P (s.handOn cr) := by
  obtain ⟨ch, r⟩ := cr
  have hset : P (s.setDrive ch { s.drive ch with lastOutput := r.command }) := hP.same (by rfl) (by rfl) hs
  unfold State.handOn
  dsimp only
  generalize s.setDrive ch { s.drive ch with lastOutput := r.command } = u at hset ⊢
  have hcounted : P (if r.dynamic = true then u.mapStat ch (countIndications r) else u) := by
    split
    · exact hP.mapStat _ _ hset
    · exact hset
  split
  · exact hP.evalClamp _ hcounted
  · exact hcounted

/-! ### Passes and visits (R78, R88 to R91) -/

theorem passStart {s : State} (hs : P s) : P s.passStart := hP.same (by rfl) (by rfl) hs

theorem newPass {s : State} {c : Context} (hc : s.pe.ctx = some c) (overrun : Bool) (hs : P s) :
    P (s.setCtx (some (c.newPass overrun))).passStart := hP.passStart (hP.setCtx (by rw [hc]; rfl) hs)

theorem reloadPoint {s : State} (hs : P s) : P s.reloadPoint :=
  hP.keep s _ s.reloadPoint_agenda (by
    obtain ⟨ctx, h⟩ := s.reloadPoint_pe
    rw [State.Resting, h]
    exact id) hs

theorem overrunOut {s : State} {c : Context} (hc : s.pe.ctx = some c) (cause : EngineCause) (hs : P s) :
    P (s.overrunOut c cause) :=
  hP.newPass (by rw [State.enterRampOut, State.enterState_pe]; exact hc) true (hP.enterRampOut .idle cause hs)

/-- A pass end in RAMP_IN or RUNNING: an overrun pass, the next visit, or a further pass (R88). -/
theorem passEndPlaying {s : State} (hs : P s) : P s.passEndPlaying := by
  unfold State.passEndPlaying
  split
  · exact hs
  · next c0 hc0 =>
    dsimp only
    have hcounted : P (s.countPass c0) := hP.keep s _ (s.countPass_agenda hc0) (by
      unfold State.countPass
      split <;> exact id) hs
    have hc : (s.countPass c0).pe.ctx = some (if c0.overrun then c0 else { c0 with counted := c0.counted + 1 }) := by
      unfold State.countPass
      split
      · exact hc0
      · rfl
    generalize s.countPass c0 = s1 at hcounted hc ⊢
    generalize (if c0.overrun then c0 else { c0 with counted := c0.counted + 1 }) = c at hc ⊢
    split
    · split
      · exact hP.overrunOut hc _ hcounted
      · split
        · exact hP.overrunOut hc _ hcounted
        · exact hP.nextVisit s1 c hc hcounted
    · exact hP.reloadPoint (hP.newPass hc false hcounted)

theorem passEndRampOut {s : State} (hs : P s) : P s.passEndRampOut := by
  unfold State.passEndRampOut
  split
  · exact hs
  · next c hc => exact hP.newPass hc _ hs

theorem endRampOut {s : State} (hs : P s) : P s.endRampOut := by
  unfold State.endRampOut
  dsimp only
  split
  · refine hP.keep s _ ((State.enterStopped_agenda _ _ _).trans (State.agenda_congr rfl rfl)) (fun h => ?_) hs
    rw [State.Resting, State.enterStopped_pe] at h
    rcases h with h | h <;> cases h
  · exact hP.stopIdle _ (by rfl) _ hs

theorem advanceStage {s : State} (hs : P s) : P s.advanceStage := by
  unfold State.advanceStage
  split
  · exact hs
  · next c hc =>
    split
    · split
      · split
        · exact hP.passEndRampOut hs
        · exact hP.passEndPlaying hs
      · exact hP.setCtx (by simp [hc, Context.tag_advanced]) hs
    · exact hs

/-! ### The update (R87, R98) -/

theorem rampStep {s : State} (hs : P s) : P s.rampStep :=
  hP.keep s _ s.rampStep_agenda (fun h => by
    rw [State.Resting, State.rampStep_pe] at h
    unfold Engine.ramped at h
    split at h
    · dsimp only at h
      split at h <;> simp at h
    · exact h
    · exact h) hs

theorem stampFirst {s : State} (hs : P s) : P s.stampFirst :=
  hP.keep s _ s.stampFirst_agenda (by
    unfold State.stampFirst
    (repeat' split) <;> exact id) hs

theorem markStage {s : State} (hs : P s) : P s.markStage := by
  unfold State.markStage
  split
  · exact hs
  · refine List.foldlRecOn _ _ hs fun t ht m _ => hP.keep t _ (t.markCompare_agenda _ m) ?_ ht
    rw [State.Resting, State.markCompare_pe]
    split
    · rw [Engine.cut_state]; exact id
    · exact id

theorem playedUpdate {s : State} (hs : P s) : P s.playedUpdate := by
  have hstamped : P s.rampStep.stampFirst.dropCaptureDue :=
    hP.keep _ _ (State.dropCaptureDue_agenda _) id (hP.stampFirst (hP.rampStep hs))
  have hhanded := List.foldlRecOn s.rampStep.stampFirst.computeAll State.handOn hstamped fun _ ht cr _ => hP.handOn cr ht
  have hadvanced := hP.advanceStage (hP.keep _ _ (State.stampLast_agenda _) id (hP.markStage hhanded))
  unfold State.playedUpdate
  dsimp only
  split
  · exact hP.endRampOut hadvanced
  · exact hadvanced

/-- An update that plays nothing; it enters IDLE from RETURN alone, which rests already (R97). -/
theorem restUpdate {s : State} (hs : P s) : P s.restUpdate := by
  unfold State.restUpdate
  dsimp only
  split
  · next h =>
    have hrests : s.Rests := fun hp => by simp [h.1, EngineState.playing] at hp
    obtain ⟨d, hd⟩ := State.handOnAll_of_rests hrests s
    rw [hd]
    exact hP.keep s _ (State.enterStopped_agenda _ _ _) (fun _ => .inr h.1) hs
  · exact List.foldlRecOn _ _ hs fun _ ht cr _ => hP.handOn cr ht

theorem raiseUpdate {s : State} (hs : P s) : P s.raiseUpdate := by
  have hcounted : P s.countUpdate := hP.setPe (by rfl) (by rfl) hs
  have hengine : P s.countUpdate.engineUpdate := by
    unfold State.engineUpdate
    split
    · exact hP.playedUpdate hcounted
    · exact hP.restUpdate hcounted
  have hclosed : P s.countUpdate.engineUpdate.closeWindows := 
    List.foldlRecOn _ _ hengine fun _ ht ch _ => hP.closeWindow ch ht
  rw [State.raiseUpdate_eq]
  exact hP.same (by simp [State.portUpdate]) (by simp [State.portUpdate]) hclosed

/-! ### The requests (R55, R62, R71, R76, R81 to R84, R96, R99) -/

theorem takeAppendEntry {s : State} (a : AppendFields) (hs : P s) : P (takeAppendEntry a s).1 := by
  unfold Machine.takeAppendEntry
  split
  · exact hs
  · split
    · exact hs
    · next e _ _ hcheck => exact hP.append s e hcheck hs

theorem takeModifyEntry {s : State} (entry : Nat) (changes : List FieldChange) (hs : P s) :
    P (takeModifyEntry entry changes s).1 := by
  unfold Machine.takeModifyEntry
  split
  · exact hs
  split
  · exact hs
  split
  · exact hs
  · next old hold =>
    split
    · exact hs
    split
    · exact hs
    · exact hP.keep s _ (State.replaceEntry_agenda hold rfl)
        (by rw [State.Resting, accept_fst, State.replaceEntry_state]; exact id) hs

theorem takeAdvanceWatch {s : State} (hs : P s) : P (takeAdvanceWatch s).1 := by
  unfold Machine.takeAdvanceWatch
  split
  · exact hP.keep s _ rfl id hs
  · have hcleared : P (s.setSq { s.sq with watch := false }) := hP.keep s _ rfl id hs
    exact hP.same (by simp) (by simp) hcleared

theorem takeStart {s : State} (hs : P s) : P (takeStart s).1 := by
  unfold Machine.takeStart
  split
  · exact hs
  next hidle =>
  split
  · exact hs
  split
  · exact hs
  split
  · exact hs
  · refine hP.start s _ (not_not.mp hidle) (State.agenda_congr (State.enterState_sq _ _ _) ?_) (fun h => ?_) hs
    · rw [accept_fst, State.enterState_pe]
      rfl
    · rw [State.Resting, accept_fst, State.enterState_pe] at h
      rcases h with h | h <;> cases h

theorem takePause {s : State} (hs : P s) : P (takePause s).1 := by
  unfold Machine.takePause
  split
  · exact hP.enterRampOut _ _ hs
  · exact hP.enterRampOut _ _ hs
  all_goals exact hs

theorem takeResume {s : State} (hs : P s) : P (takeResume s).1 := by
  unfold Machine.takeResume
  split
  · split
    · exact hP.enterState (by nofun) (by nofun) _ (hP.setPe (by rfl) (by rfl) hs)
    · exact hs
  · exact hP.enterState (by nofun) (by nofun) _ (hP.setPe (by rfl) (by rfl) hs)
  · exact hs

theorem takeStop {s : State} (hs : P s) : P (takeStop s).1 := by
  unfold Machine.takeStop
  split
  · exact hP.enterRampOut _ _ hs
  · exact hP.enterRampOut _ _ hs
  · split
    · exact hP.setPe (by rfl) (by rfl) hs
    · exact hs
  · exact hP.stopIdle _ (by rfl) _ hs
  all_goals exact hs

theorem takeClearTrip {s : State} (hs : P s) : P (takeClearTrip s).1 := by
  unfold Machine.takeClearTrip
  split
  · exact hs
  split
  · exact hs
  · exact hP.release s s _ rfl (State.agenda_congr (State.enterState_sq _ _ _)
      (by rw [accept_fst, State.enterState_pe])) hs

theorem taking (r : Request) {s : State} (hs : P s) : P (takingOf r s).1 := by
  cases hr : movesPlayback r with
  | false => exact hP.blocks (takingOf_playback hr s) hs
  | true =>
    cases r <;> first | contradiction | skip
    case openClip => exact hP.store (takeOpenClip_sq_pe _ _ _ _ _ s) hs
    case clipData => exact hP.store (takeClipData_sq_pe _ _ _ s) hs
    case closeClip => exact hP.store (takeCloseClip_sq_pe _ s) hs
    case freeClip => exact hP.store (takeFreeClip_sq_pe _ s) hs
    case appendEntry => exact hP.takeAppendEntry _ hs
    case modifyEntry => exact hP.takeModifyEntry _ _ hs
    case flushQueue => exact hP.flush s hs
    case advanceWatch => exact hP.takeAdvanceWatch hs
    case start => exact hP.takeStart hs
    case pause => exact hP.takePause hs
    case resume => exact hP.takeResume hs
    case stop => exact hP.takeStop hs
    case clearTrip => exact hP.takeClearTrip hs
    case setRamp =>
      simp only [takingOf, takeSetRamp]
      split
      · exact hs
      · exact hP.setPe (by rfl) (by rfl) hs
    case setTimebase =>
      simp only [takingOf, takeSetTimebase]
      split
      · exact hs
      split
      · exact hs
      split
      · exact hs
      · exact hP.setPe (by rfl) (by rfl) hs

/-- Such a law is kept by every operation of the part. -/
theorem keptByOperations : KeptByOperations P where
  line _ _ _ _ := hP.same (by rfl) (by rfl)
  taking r _ := hP.taking r
  warmReset _ _ _ := hP.empty _ rfl rfl
  fullReset _ _ _ := hP.empty _ rfl rfl
  update _ := hP.raiseUpdate
  sourceInternal _ := hP.setPe (by rfl) (by rfl)
  action _ a cause ch := hP.applyAction a cause ch
  record _ _ _ _ _ := hP.same (by simp) (by simp)
  rampIn _ _ := hP.rampStep
  rampOut _ _ _ hs := hP.endRampOut (hP.rampStep hs)
  passEnd _ _ _ := hP.passEndPlaying
  passEndRampOut _ _ _ := hP.passEndRampOut
  response _ ch w f sp st _ _ := hP.takeResponse ch w f sp st
  envelope _ ch f stamp := hP.evalEnvelope ch f stamp
  tracking _ ch f stamp := hP.evalTracking ch f stamp
  clampRate _ ch := hP.evalClamp ch
  window _ ch := hP.closeWindow ch
  rigReady _ _ := hP.same (by rfl) (by rfl)
  markEdge _ _ _ _ := hP.same (by simp) (by simp)
  verified _ _ _ _ _ _ := hP.same (by simp) (by simp)

end KeptByAgenda

/-! ### The two laws -/

/-- Nothing that playback does to the agenda breaks the numbering: the context is not read, and a run retires entries from the
front. -/
theorem numbered_keptByAgenda : KeptByAgenda fun s => s.agenda.Numbered where
  keep _ _ h _ hs := h ▸ hs
  release s t u h hu hs := by
    have ht : t.agenda.Numbered := h ▸ hs
    rw [hu]
    rcases t.releaseContext_cases with h | ⟨c, -, h⟩
    · rw [h]
      exact ht.withContext none
    · rw [h]
      refine Agenda.Numbered.realRun ?_ _
      rw [State.endVisit, State.dropVisit_agenda]
      exact ht.withContext none
  nextVisit s c _ hs := by
    refine Agenda.Numbered.beginVisit (Agenda.Numbered.realRun ?_ _)
    rw [State.endVisit, State.dropVisit_agenda]
    exact hs.withContext none
  start s t _ h _ hs := by
    rw [h]
    exact Agenda.Numbered.beginVisit (hs.realRun _)
  append s e hcheck hs := by
    obtain ⟨hroom, hnew⟩ := appendCheck_none hcheck
    rw [State.placeEntry_agenda]
    refine ⟨?_, tags_distinct_append hs.tags_distinct hnew, hs.ring_bound, hs.next_bound, hs.ring_sequences⟩
    simpa [State.agenda] using hroom
  flush s hs := by
    unfold takeFlushQueue
    split
    · exact hs
    · refine List.foldlRecOn (motive := fun u : State => u.agenda.Numbered) _ _ ?_ fun u hu e _ =>
        hu.recorded (u.leaveEntry_recorded true e)
      exact ⟨Nat.zero_le _, .nil, hs.ring_bound, hs.next_bound, hs.ring_sequences⟩
  empty t hsq _ := by
    rw [State.agenda, hsq]
    exact ⟨Nat.zero_le _, .nil, Nat.zero_le _, Nat.zero_lt_succ _, fun i r h => by simp [SegmentQueue.reset] at h⟩

/-- The schedule is moved where no context holds an entry: at the end of a visit, in IDLE, and in an emptied queue. -/
theorem scheduled_keptByAgenda : KeptByAgenda State.ScheduleLawful where
  keep s t h hrest hs := by
    obtain ⟨hs, hnone⟩ := s.scheduleLawful_iff.mp hs
    refine t.scheduleLawful_iff.mpr ⟨h ▸ hs, fun ht => ?_⟩
    rw [State.ctx_eq_none_iff_agenda, h, ← State.ctx_eq_none_iff_agenda]
    exact hnone (hrest ht)
  release s t u h hu hs := by
    have ht : t.agenda.Scheduled := h ▸ (s.scheduleLawful_iff.mp hs).1
    have hnone : u.pe.ctx = none := by
      rw [State.ctx_eq_none_iff_agenda, hu, ← State.ctx_eq_none_iff_agenda, State.releaseContext_pe]
    refine u.scheduleLawful_iff.mpr ⟨?_, fun _ => hnone⟩
    rw [hu]
    rcases t.releaseContext_cases with h | ⟨c, hc, h⟩
    · rw [h]
      exact ht.withoutContext
    · rw [h]
      exact ht.afterVisit hc
  nextVisit s c hc hs := by
    obtain ⟨hsched, hnone⟩ := s.scheduleLawful_iff.mp hs
    refine State.scheduleLawful_iff _ |>.mpr ⟨(hsched.afterVisit hc).beginVisit, fun h => ?_⟩
    obtain ⟨ctx, hpe⟩ := State.beginVisit_pe ((s.endVisit c).realRun (s.sq.cursor + 1))
    rw [State.Resting, hpe, State.realRun_pe, State.endVisit_pe] at h
    rw [hnone h] at hc
    cases hc
  start s t hidle h hrest hs := by
    obtain ⟨hsched, hnone⟩ := s.scheduleLawful_iff.mp hs
    have hcursor := hs.cursor_bound
    refine t.scheduleLawful_iff.mpr ⟨?_, fun ht => absurd ht hrest⟩
    rw [h]
    exact (hsched.realRun (hnone (.inl hidle)) le_rfl hcursor).beginVisit
  append s e hcheck hs := by
    obtain ⟨hsched, hnone⟩ := s.scheduleLawful_iff.mp hs
    obtain ⟨-, hnew⟩ := appendCheck_none hcheck
    refine State.scheduleLawful_iff _ |>.mpr ⟨?_, fun h => ?_⟩
    · rw [State.placeEntry_agenda]
      refine ⟨?_, tags_distinct_append hsched.tags_distinct hnew, hsched.frames.append _, fun tag h => ?_⟩
      · exact hsched.cursor_bound.trans (by simp)
      · obtain ⟨hlt, hget⟩ := List.getElem?_eq_some_iff.mp (hsched.held tag h)
        exact (List.getElem?_append_left hlt).trans (hsched.held tag h)
    · rw [State.Resting, State.placeEntry_pe] at h
      rw [State.placeEntry_pe]
      exact hnone h
  flush s hs := by
    unfold takeFlushQueue
    split
    · exact hs
    · next hidle =>
      obtain ⟨hsched, hnone⟩ := s.scheduleLawful_iff.mp hs
      have hctx : s.pe.ctx = none := hnone (.inl (not_not.mp hidle))
      refine (State.scheduleLawful_iff _).mpr ((?_ : _ ∧ State.pe _ = s.pe).imp id fun h _ => by rw [accept_fst, h, hctx])
      refine List.foldlRecOn (motive := fun u : State => u.agenda.Scheduled ∧ u.pe = s.pe) _ _ ⟨?_, rfl⟩ fun u hu e _ =>
        ⟨hu.1.recorded (u.leaveEntry_recorded true e), by rw [State.leaveEntry_pe, hu.2]⟩
      exact ⟨Nat.le_refl 0, .nil, Nat.le_refl 0, fun tag h => by rw [State.agenda_context_none (by exact hctx)] at h; cases h⟩
  empty t hsq hctx := by
    refine t.scheduleLawful_iff.mpr ⟨?_, fun _ => hctx⟩
    rw [State.agenda, hsq, hctx]
    exact ⟨Nat.le_refl 0, .nil, Nat.le_refl 0, nofun⟩

/-- Settles O55: an operation keeps the agenda, numbers a done record, or moves the schedule while no context holds an entry. -/
theorem stepKeepsQueueLawful : Obligations.StepKeepsQueueLawful := by
  refine ⟨fun s t hs h => ?_, fun s t hs h => scheduled_keptByAgenda.keptByOperations.of_step hs h⟩
  exact t.queueLawful_iff.mpr (numbered_keptByAgenda.keptByOperations.of_step (s.queueLawful_iff.mp hs) h)

end Sys2Proof.Machine
end

section
/-! An Append Entry that passes the first checks of R55, by the entry's kind (R49, R56). -/

namespace Sys2Proof.Machine

open Sys2Proof

/-! ### The checks (R55) -/

theorem takeAppendEntry_of_checked {a : AppendFields} {e : Entry} {s : State} (he : appendEntryOf a = some e)
    (hcheck : appendCheck s e = none) :
    takeAppendEntry a s = accept (s.placeEntry e) (beBytes 1 s.sq.entries.length) := by
  simp only [takeAppendEntry, he, hcheck]

theorem takeAppendEntry_of_refused {a : AppendFields} {e : Entry} {s : State} {st : Status} (he : appendEntryOf a = some e)
    (hcheck : appendCheck s e = some st) : takeAppendEntry a s = refuse s st := by
  simp only [takeAppendEntry, he, hcheck]

/-- No entry carries a tag that none is found with. -/
theorem findTag_eq_none_iff {es : List Entry} {tag : Nat} : findTag es tag = none ↔ ∀ e ∈ es, e.tag ≠ tag := by
  simp [findTag]

section room
variable {s : State} {tag : Nat} (hroom : s.sq.entries.length < 64) (hnew : ∀ e ∈ s.sq.entries, e.tag ≠ tag)
include hroom hnew

theorem appendCheck_play (f : PlayFields) (r : Runtime) :
    appendCheck s { tag := tag, body := .play f r } = playCheck s f := by
  rw [appendCheck, if_neg (not_le.mpr hroom), if_neg (by simp [findTag_eq_none_iff.mpr hnew])]

theorem appendCheck_dwell (f : DwellFields) (r : Runtime) : appendCheck s { tag := tag, body := .dwell f r } = none := by
  rw [appendCheck, if_neg (not_le.mpr hroom), if_neg (by simp [findTag_eq_none_iff.mpr hnew])]

theorem appendCheck_loopOpen (count : Nat) :
    appendCheck s { tag := tag, body := .loopOpen count } = if 6 ≤ s.sq.tailDepth then some .nesting else none := by
  rw [appendCheck, if_neg (not_le.mpr hroom), if_neg (by simp [findTag_eq_none_iff.mpr hnew])]

theorem appendCheck_loopClose :
    appendCheck s { tag := tag, body := .loopClose } = if s.sq.tailDepth = 0 then some .unbalanced else none := by
  rw [appendCheck, if_neg (not_le.mpr hroom), if_neg (by simp [findTag_eq_none_iff.mpr hnew])]

end room

/-- A clip that is loading, verifying or READY can be played, as a whole or in a window within its length (R55). -/
theorem playCheck_of_loaded {s : State} {f : PlayFields} {l : ClipLoad} (hload : (s.clip f.clip).load = some l)
    (hfree : (s.clip f.clip).state ≠ .free) (hfailed : (s.clip f.clip).state ≠ .failed)
    (hwindow : ∀ first count, f.window = some (first, count) → first + count ≤ l.length) : playCheck s f = none := by
  have hfits : (match f.window with
      | none => none
      | some (first, count) => if first + count ≤ l.length then none else some Status.invalidValue) = none := by
    cases hw : f.window with
    | none => rfl
    | some w => exact if_pos (hwindow w.1 w.2 hw)
  unfold playCheck
  rw [hload]
  cases hstate : (s.clip f.clip).state
  case free => exact absurd hstate hfree
  case failed => exact absurd hstate hfailed
  all_goals exact hfits

/-! ### The entry placed (R56) -/

/-- Settles O13: no check of R55 refuses but the tail depth's, and the entry is placed by its kind. -/
theorem appendEntryResult : Obligations.AppendEntryResult := by
  intro tag etag s hfree hroom hnew
  refine ⟨?play, ?dwell, ?loopOpen, ?loopClose⟩
  case play =>
    intro clip flags gains passes first count l hclip hflags hgains hmin hmax hload hstate hfailed hwindow
    have hentry : appendEntryOf (.play etag clip flags gains passes first count) = some _ :=
      if_pos ⟨by omega, hflags, by omega, hmin, hmax, fun h => (hwindow h).1⟩
    refine exec_of_taking (c := .appendEntry tag _) rfl nofun hfree (takeAppendEntry_of_checked hentry ?_)
    rw [appendCheck_play hroom hnew]
    refine playCheck_of_loaded hload hstate hfailed fun first' count' h => ?_
    obtain ⟨hbit, h⟩ := Option.ite_none_right_eq_some.mp h
    cases h
    exact (hwindow hbit).2
  case dwell =>
    intro flags length hflags hmin hmax
    have hentry : appendEntryOf (.dwell etag flags length) = some _ := if_pos ⟨hflags, hmin, hmax⟩
    exact exec_of_taking (c := .appendEntry tag _) rfl nofun hfree
      (takeAppendEntry_of_checked hentry (appendCheck_dwell hroom hnew _ _))
  case loopOpen =>
    intro count hcount
    have hentry : appendEntryOf (.loopOpen etag count) = some _ := if_pos hcount
    have hcheck := appendCheck_loopOpen hroom hnew count
    split
    · next hdepth =>
      exact exec_of_taking (c := .appendEntry tag _) rfl nofun hfree
        (takeAppendEntry_of_checked hentry (hcheck.trans (if_neg (not_le.mpr hdepth))))
    · next hdepth =>
      exact exec_of_taking (c := .appendEntry tag _) rfl nofun hfree
        (takeAppendEntry_of_refused hentry (hcheck.trans (if_pos (not_lt.mp hdepth))))
  case loopClose =>
    have hentry : appendEntryOf (.loopClose etag) = some _ := rfl
    have hcheck := appendCheck_loopClose hroom hnew
    split
    · next hdepth =>
      exact exec_of_taking (c := .appendEntry tag _) rfl nofun hfree
        (takeAppendEntry_of_refused hentry (hcheck.trans (if_pos hdepth)))
    · next hdepth =>
      exact exec_of_taking (c := .appendEntry tag _) rfl nofun hfree
        (takeAppendEntry_of_checked hentry (hcheck.trans (if_neg hdepth)))

end Sys2Proof.Machine
end

section
/-! What leaving the queue does to the queue and to the clips, entry by entry and in a run, and what a release of the context does
(R57, R58, R90, R91). -/

namespace Sys2Proof.Machine

open Sys2Proof

/-! ### One entry (R58) -/

/-- The queue once an entry has left, with the done record it leaves. -/
def SegmentQueue.recorded (q : SegmentQueue) : Option DoneRecord → SegmentQueue
  | none => q
  | some r => { q with doneRing := pushDone q.doneRing r, nextSeq := (q.nextSeq + 1) % 4294967296 }

theorem State.addDone_sq (s : State) (tag : Nat) (kind : PlayKind) (flushed notify : Bool) (r : Runtime) :
    (s.addDone tag kind flushed notify r).sq = s.sq.recorded (some
      { sequence := s.sq.nextSeq, tag := tag, kind := kind, status := doneStatus flushed r, visits := r.visits,
        passes := r.passes, firstStamp := r.firstStamp, lastStamp := r.lastStamp, stats := r.stats }) := by
  unfold State.addDone
  dsimp only
  split
  · exact State.raise_sq _ _ _
  · rfl

theorem State.leaveEntry_sq (s : State) (flushed : Bool) (e : Entry) :
    (s.leaveEntry flushed e).sq = s.sq.recorded (e.doneRecord flushed s.sq.nextSeq) := by
  obtain ⟨tag, body⟩ := e
  cases body with
  | play => exact State.addDone_sq _ _ _ _ _ _
  | dwell => exact State.addDone_sq _ _ _ _ _ _
  | loopOpen => rfl
  | loopClose => rfl

/-- A clip that is referred to once less; a number beyond the table names no clip. -/
theorem State.dropRef_clip (s : State) (j id : Nat) :
    (s.dropRef j).clip id = { s.clip id with refs := (s.clip id).refs - if j = id then 1 else 0 } := by
  by_cases hj : id = j
  · subst hj
    by_cases hb : id < 64
    · simp [State.dropRef, State.clip_setClip_same s id _ hb]
    · simp [State.dropRef, State.clip, State.setClip, hb, Clip.reset]
  · simp [State.dropRef, State.clip_setClip_other s j id _ hj, Ne.symm hj]

theorem State.leaveEntry_clip (s : State) (flushed : Bool) (e : Entry) (id : Nat) :
    (s.leaveEntry flushed e).clip id
      = { s.clip id with refs := (s.clip id).refs - if e.plays id then 1 else 0 } := by
  obtain ⟨tag, body⟩ := e
  cases body with
  | play f r => simp [State.leaveEntry, Entry.plays, State.dropRef_clip]
  | dwell => simp [State.leaveEntry, Entry.plays]
  | loopOpen => rfl
  | loopClose => rfl

theorem State.dropContextRef_clip (s : State) (c : Context) (id : Nat) :
    (s.dropContextRef c).clip id
      = { s.clip id with refs := (s.clip id).refs - if c.clipOf = some id then 1 else 0 } := by
  unfold State.dropContextRef Context.clipOf
  cases c.body with
  | play p => simp [State.dropRef_clip]
  | dwell => rfl

/-- SEGMENT is the one cause that an entry raises as it leaves. -/
theorem State.leaveEntry_cause_other (s : State) (flushed : Bool) (e : Entry) {c : Cause} (hc : c ≠ .segment) :
    (s.leaveEntry flushed e).cause c = s.cause c := by
  have hdone : ∀ (t : State) tag kind notify r, (t.addDone tag kind flushed notify r).cause c = t.cause c := by
    intro t tag kind notify r
    unfold State.addDone
    dsimp only
    split
    · rw [State.raise_cause_other _ _ hc]; rfl
    · rfl
  obtain ⟨tag, body⟩ := e
  cases body with
  | play => exact hdone _ _ _ _ _
  | dwell => exact hdone _ _ _ _ _
  | loopOpen => rfl
  | loopClose => rfl

/-! ### Retirement (R57) -/

theorem State.retire_of_nil {s : State} (h : s.sq.entries = []) (n : Nat) : s.retire n = s := by
  cases n with
  | zero => rfl
  | succ n => simp only [State.retire, h]

theorem State.retire_of_cons {s : State} {e : Entry} {rest : List Entry} (h : s.sq.entries = e :: rest) (n : Nat) :
    s.retire (n + 1) = ((s.setSq { s.sq with entries := rest, cursor := s.sq.cursor - 1 }).leaveEntry false e).retire n := by
  simp only [State.retire, h]

theorem State.leaveEntry_entries (s : State) (flushed : Bool) (e : Entry) :
    (s.leaveEntry flushed e).sq.entries = s.sq.entries := by
  rw [State.leaveEntry_sq]
  cases e.doneRecord flushed s.sq.nextSeq <;> rfl

theorem State.retire_entries : ∀ (n : Nat) (s : State), (s.retire n).sq.entries = s.sq.entries.drop n
  | 0, _ => rfl
  | n + 1, s => by
    cases h : s.sq.entries with
    | nil => rw [State.retire_of_nil h, h, List.drop_nil]
    | cons e rest =>
      rw [State.retire_of_cons h, State.retire_entries n, State.leaveEntry_entries, List.drop_succ_cons]
      rfl

theorem State.retire_clip (id : Nat) : ∀ (n : Nat) (s : State),
    (s.retire n).clip id
      = { s.clip id with refs := (s.clip id).refs - (s.sq.entries.take n).countP (Entry.plays id) }
  | 0, _ => rfl
  | n + 1, s => by
    cases h : s.sq.entries with
    | nil => rw [State.retire_of_nil h]; rfl
    | cons e rest =>
      rw [State.retire_of_cons h, State.retire_clip id n, State.leaveEntry_entries, State.leaveEntry_clip, State.setSq_clip,
        List.take_succ_cons, List.countP_cons, Nat.sub_sub, Nat.add_comm]
      rfl

theorem State.retire_cause_other {c : Cause} (hc : c ≠ .segment) : ∀ (n : Nat) (s : State), (s.retire n).cause c = s.cause c
  | 0, _ => rfl
  | n + 1, s => by
    cases h : s.sq.entries with
    | nil => rw [State.retire_of_nil h]
    | cons e rest =>
      rw [State.retire_of_cons h, State.retire_cause_other hc n, State.leaveEntry_cause_other _ _ _ hc]
      rfl

/-! ### A real run (R51, R57) -/

/-- What a real run makes of the queue depends on the queue alone, and not on the advance watch. -/
theorem State.retire_sq_of_watch {b : Bool} : ∀ (n : Nat) {s t : State}, t.sq = { s.sq with watch := b } →
    (t.retire n).sq = { (s.retire n).sq with watch := b }
  | 0, _, _, h => h
  | n + 1, s, t, h => by
    have hentries : t.sq.entries = s.sq.entries := by rw [h]
    cases he : s.sq.entries with
    | nil => rw [State.retire_of_nil he, State.retire_of_nil (hentries.trans he), h]
    | cons e rest =>
      rw [State.retire_of_cons he, State.retire_of_cons (hentries.trans he)]
      refine State.retire_sq_of_watch n ?_
      rw [State.leaveEntry_sq, State.leaveEntry_sq, State.setSq_sq, State.setSq_sq, h]
      dsimp only
      cases e.doneRecord false s.sq.nextSeq <;> rfl

theorem State.realRun_sq_of_watch {b : Bool} {s t : State} (h : t.sq = { s.sq with watch := b }) (start : Nat) :
    (t.realRun start).sq = { (s.realRun start).sq with watch := b } := by
  have hrun : t.advanceFrom start = s.advanceFrom start := by rw [State.advanceFrom, h]; rfl
  unfold State.realRun
  rw [hrun, h]
  exact State.retire_sq_of_watch _ rfl

theorem State.realRun_sq_congr {s t : State} (h : t.sq = s.sq) (start : Nat) : (t.realRun start).sq = (s.realRun start).sq :=
  (State.realRun_sq_of_watch (b := s.sq.watch) h start).trans (State.realRun_sq_of_watch (s := s) rfl start).symm

theorem State.realRun_clip (s : State) (start id : Nat) :
    (s.realRun start).clip id
      = { s.clip id with refs := (s.clip id).refs
          - (s.sq.entries.take (s.sq.entries.length - (s.realRun start).sq.entries.length)).countP (Entry.plays id) } := by
  unfold State.realRun
  generalize hs1 : s.setSq { s.sq with cursor := (s.advanceFrom start).1, stack := (s.advanceFrom start).2 } = s1
  have hentries : s1.sq.entries = s.sq.entries := by rw [← hs1]; rfl
  have hclip : s1.clip id = s.clip id := by rw [← hs1]; exact s.setSq_clip _ id
  have htake : s.sq.entries.take (s.sq.entries.length - (s.sq.entries.drop s1.retireCount).length)
      = s.sq.entries.take s1.retireCount := by
    rw [List.length_drop, List.take_eq_take_iff]
    omega
  simp only [hs1, State.retire_clip, State.retire_entries, hentries, hclip, htake]

theorem State.realRun_cause_other (s : State) (start : Nat) {c : Cause} (hc : c ≠ .segment) :
    (s.realRun start).cause c = s.cause c := State.retire_cause_other hc _ _

/-! ### The release of the context (R90, R91) -/

/-- A visit's figures are added to the entry's as the statements say it. -/
theorem Runtime.addVisit_eq (r : Runtime) (c : Context) : r.addVisit c = c.addedTo r := by
  have hrecord : ∀ e v : StatRecord, addRecord e v =
      { channel := e.channel,
        span := match v.span with
          | none => e.span
          | some (peak, valley) => match e.span with
            | none => some (peak, valley)
            | some (peak', valley') => some (max peak' peak, min valley' valley)
        clamped := min 4294967295 (e.clamped + v.clamped), limited := min 4294967295 (e.limited + v.limited) } := by
    rintro ⟨ch, espan, cl, li⟩ ⟨ch', vspan, cl', li'⟩
    cases espan <;> cases vspan <;> rfl
  have hstats : ∀ o l, addStats o l = statsWith o l := by
    intro o l
    cases o with
    | none => rfl
    | some es => exact congrArg (fun f => some (List.zipWith f es l)) (funext fun e => funext fun v => hrecord e v)
  unfold Runtime.addVisit Context.addedTo
  cases c.body with
  | play p => simp only [hstats]
  | dwell => rfl

theorem State.endVisit_sq {s : State} {e : Entry} (he : s.cursorEntry = some e) (c : Context) :
    (s.endVisit c).sq = s.queueEnded c e.passes := by
  have hpasses : s.heldPasses = e.passes := by rw [State.heldPasses, he]; rfl
  simp only [State.endVisit, State.setCtx_sq, State.dropContextRef_sq, hpasses, Runtime.addVisit_eq]
  rfl

theorem State.interruptVisit_sq (s : State) (c : Context) : (s.interruptVisit c).sq = s.queueInterrupted c := by
  simp only [State.interruptVisit, State.setCtx_sq, State.dropContextRef_sq, Runtime.addVisit_eq]
  rfl

theorem State.visitFinished_iff {s : State} {e : Entry} (he : s.cursorEntry = some e) (c : Context) :
    s.visitFinished c = true ↔ c.cut = true ∨ e.passes ≤ c.counted := by
  rw [State.visitFinished, State.heldPasses, he, Bool.or_eq_true, decide_eq_true_eq]
  rfl

/-- The queue after a release, in the words of the statements. -/
theorem State.releaseContext_sq {s : State} {c : Context} {e : Entry} (hc : s.pe.ctx = some c)
    (he : s.cursorEntry = some e) : s.releaseContext.sq = s.queueReleased c e := by
  unfold State.releaseContext State.queueReleased
  simp only [hc, State.visitFinished_iff he]
  split
  · exact State.realRun_sq_congr (State.endVisit_sq he c) _
  · exact s.interruptVisit_sq c

/-- Entries that go on naming their clips. -/
theorem countP_plays_take {es es' : List Entry} (h : es'.map Entry.clipOf = es.map Entry.clipOf) (n id : Nat) :
    (es'.take n).countP (Entry.plays id) = (es.take n).countP (Entry.plays id) := by
  have hcount : ∀ l : List Entry, (l.take n).countP (Entry.plays id) = ((l.map Entry.clipOf).take n).count (some id) := by
    intro l
    rw [← List.map_take, List.count, List.countP_map]
    exact List.countP_congr fun e _ => by rw [Entry.plays_eq]; rfl
  rw [hcount, hcount, h]

/-- The clips after a release, in the words of the statements. -/
theorem State.releaseContext_clip {s : State} {c : Context} (hc : s.pe.ctx = some c) (id : Nat) :
    s.releaseContext.clip id = s.clipReleased s.releaseContext.sq id := by
  have hholds : (if s.contextHolds id = true then 1 else 0) = if c.clipOf = some id then 1 else 0 := by
    simp [State.contextHolds_iff, State.ledger, hc]
  have hdropped : ∀ f, (((s.mapHeld f).dropContextRef c).setCtx none).clip id
      = { s.clip id with refs := (s.clip id).refs - if c.clipOf = some id then 1 else 0 } := fun f => by
    rw [State.setCtx_clip, State.dropContextRef_clip, State.mapHeld_clip]
  have hentries : ∀ f, (((s.mapHeld f).dropContextRef c).setCtx none).sq.entries.map Entry.clipOf
      = s.sq.entries.map Entry.clipOf := fun f => by
    rw [State.setCtx_sq, State.dropContextRef_sq]
    exact congrArg Ledger.entries (s.mapHeld_ledger f)
  have hlength : ∀ f, (((s.mapHeld f).dropContextRef c).setCtx none).sq.entries.length = s.sq.entries.length := fun f => by
    simpa using congrArg List.length (hentries f)
  unfold State.clipReleased
  rw [hholds]
  unfold State.releaseContext
  simp only [hc]
  split
  · simp only [State.endVisit, State.realRun_clip, hdropped, hlength, countP_plays_take (hentries _)]
  · simp only [State.interruptVisit, hdropped, hlength, Nat.sub_self, List.take_zero, List.countP_nil, Nat.sub_zero]

theorem State.releaseContext_cause_other (s : State) {c : Cause} (hc : c ≠ .segment) :
    s.releaseContext.cause c = s.cause c := by
  have hdropped : ∀ (t : State) x, (t.dropContextRef x).cause c = t.cause c := fun t x => by
    unfold State.dropContextRef
    split <;> rfl
  unfold State.releaseContext
  split
  · rfl
  · split
    · rw [State.realRun_cause_other _ _ hc]
      exact hdropped _ _
    · exact hdropped _ _

end Sys2Proof.Machine
end

section
/-! The ends of the ramps and a pass end in RAMP_OUT, each taken alone (R72, R75, R89, R90). -/

namespace Sys2Proof.Machine

open Sys2Proof

/-! ### The advance watch (R72) -/

theorem State.fireWatch_of_clear {s : State} (h : s.sq.watch = false) : s.fireWatch = s := by
  simp [State.fireWatch, h]

theorem State.fireWatch_of_armed {s : State} (h : s.sq.watch = true) :
    s.fireWatch = State.raise { s with sq := { s.sq with watch := false } } .advance (some (.advance s.pe.counter)) :=
  if_pos h

theorem State.fireWatch_cause_advance (s : State) :
    s.fireWatch.cause .advance
      = if s.sq.watch then
          { s.cause .advance with count := min 255 ((s.cause .advance).count + 1), detail := some (.advance s.pe.counter) }
        else s.cause .advance := by
  cases h : s.sq.watch with
  | false => rw [State.fireWatch_of_clear h]; rfl
  | true => rw [State.fireWatch_of_armed h, State.raise_cause_same]; rfl

/-! ### The end of the ramp-in (R75) -/

/-- λ reaches 65536, and the engine enters RUNNING. -/
theorem exec_rampInComplete {s : State} (hstate : s.pe.state = .rampIn)
    (hlam : 65536 ≤ s.pe.lam + (65536 + (s.pe.ri - 1)) / s.pe.ri) :
    exec .rampInComplete s
      = .next (State.raise { s with pe := { s.pe with state := .running, lam := 65536 } }
          .engine (some (.engine .rampIn .running none))) := by
  have hfull : rampUp s.pe.lam s.pe.ri = 65536 := Nat.min_eq_left hlam
  have hrow : exec .rampInComplete s = .next s.rampStep := if_pos ⟨hstate, hfull⟩
  rw [hrow]
  simp only [State.rampStep, hstate, hfull, if_true]
  simp only [State.enterState, State.setPe]

/-! ### The end of the ramp-out (R89) -/

/-- The engine in the state that its ramp-out ended in, ENGINE raised. -/
def State.rampEnded (s : State) (new : EngineState) : State :=
  State.raise { s with pe := { s.pe with state := new, target := none, lam := 0 } }
    .engine (some (.engine .rampOut new s.pe.stopCause))

theorem State.rampEnded_pe (s : State) (new : EngineState) :
    (s.rampEnded new).pe = { s.pe with state := new, target := none, lam := 0 } := State.raise_pe _ _ _

theorem State.rampEnded_sq (s : State) (new : EngineState) : (s.rampEnded new).sq = s.sq := State.raise_sq _ _ _

section rampOut
variable {s : State} (hstate : s.pe.state = .rampOut) (hlam : s.pe.lam ≤ (65536 + (s.pe.ro - 1)) / s.pe.ro)
include hstate hlam

/-- λ reaches 0, and the ramp-out ends. -/
theorem exec_rampOutComplete :
    exec .rampOutComplete s = .next (State.endRampOut { s with pe := { s.pe with lam := 0 } }) := by
  have hzero : rampDown s.pe.lam s.pe.ro = 0 := Nat.sub_eq_zero_of_le hlam
  have hrow : exec .rampOutComplete s = .next s.rampStep.endRampOut := if_pos ⟨hstate, hzero⟩
  rw [hrow]
  simp only [State.rampStep, hstate, hzero, State.setPe]

theorem exec_rampOutComplete_paused (htarget : s.pe.target = some .paused) :
    exec .rampOutComplete s = .next (s.rampEnded .paused).fireWatch := by
  rw [exec_rampOutComplete hstate hlam]
  simp only [State.endRampOut, htarget, State.enterStopped, State.enterState, State.setPe, hstate]
  rfl

theorem exec_rampOutComplete_idle (htarget : s.pe.target = some .idle) :
    exec .rampOutComplete s = .next (s.rampEnded .idle).fireWatch.releaseContext := by
  rw [exec_rampOutComplete hstate hlam]
  simp only [State.endRampOut, htarget, State.enterStopped, State.enterState, State.setPe, hstate]
  rfl

end rampOut

theorem State.rampEnded_fireWatch_of_armed {s : State} (h : s.sq.watch = true) (new : EngineState) :
    (s.rampEnded new).fireWatch
      = State.raise { s.rampEnded new with sq := { s.sq with watch := false } } .advance (some (.advance s.pe.counter)) := by
  have hcounter : (s.rampEnded new).pe.counter = s.pe.counter := by rw [State.rampEnded_pe]
  rw [State.fireWatch_of_armed (by rw [State.rampEnded_sq]; exact h), State.rampEnded_sq, hcounter]

theorem State.rampEnded_fireWatch_of_clear {s : State} (h : s.sq.watch = false) (new : EngineState) :
    (s.rampEnded new).fireWatch = s.rampEnded new :=
  State.fireWatch_of_clear (by rw [State.rampEnded_sq]; exact h)

theorem State.releaseContext_of_none {s : State} (h : s.pe.ctx = none) : s.releaseContext = s := by
  simp only [State.releaseContext, h]

/-- A release reads of the queue all but the watch. -/
theorem State.queueReleased_of_watch {s t : State} {b : Bool} (h : t.sq = { s.sq with watch := b }) (c : Context) (e : Entry) :
    t.queueReleased c e = { s.queueReleased c e with watch := b } := by
  have hended : t.queueEnded c e.passes = { s.queueEnded c e.passes with watch := b } := by
    simp only [State.queueEnded, h]
  have hcursor : t.sq.cursor = s.sq.cursor := by rw [h]
  unfold State.queueReleased
  split
  · rw [hcursor]
    exact State.realRun_sq_of_watch (t := { t with sq := t.queueEnded c e.passes })
      (s := { s with sq := s.queueEnded c e.passes }) hended _
  · simp only [State.queueInterrupted, h]

/-- What a release makes of the clips is read off the clips, the context and the entries. -/
theorem State.clipReleased_congr {s t : State} (hcs : t.cs = s.cs) (hctx : t.pe.ctx = s.pe.ctx)
    (hentries : t.sq.entries = s.sq.entries) (q : SegmentQueue) (id : Nat) : t.clipReleased q id = s.clipReleased q id := by
  have hholds : t.contextHolds id = s.contextHolds id := by rw [State.contextHolds, hctx]; rfl
  rw [State.clipReleased, State.clipReleased, State.clip_congr id hcs, hholds, hentries]

/-! ### A pass end in RAMP_OUT (R89) -/

theorem exec_passEndInRampOut {s : State} {c : Context} (hstate : s.pe.state = .rampOut) (hc : s.pe.ctx = some c)
    (hend : s.passLength c ≤ c.elapsed + 1) :
    exec .passEndInRampOut s
      = .next { s with
          lm := s.lm.mapIdx fun _ l => { l with clamp := { state := .clear, count := 0 } },
          pe := { s.pe with ctx := some (c.newPass (s.visitFinished c)) } } := by
  have hpass : s.atPassEnd = true := by
    simp only [State.atPassEnd, hc]
    exact decide_eq_true hend
  have hrow : exec .passEndInRampOut s = .next s.passEndRampOut := if_pos ⟨hstate, hpass⟩
  rw [hrow]
  simp only [State.passEndRampOut, hc]
  rfl

/-- Settles O22: each row is its end of a ramp or of a pass, and a release is told by the queue and the clips it leaves. -/
theorem rampEventsResult : Obligations.RampEventsResult := by
  intro s
  refine ⟨exec_rampInComplete, ?pausedClear, ?pausedArmed, ?idleClear, ?idleArmed, ?released, ?play, ?dwell⟩
  case pausedClear =>
    intro hstate hlam hwatch htarget
    rw [exec_rampOutComplete_paused hstate hlam htarget, State.rampEnded_fireWatch_of_clear hwatch]
    rfl
  case pausedArmed =>
    rintro u hstate hlam hwatch htarget rfl
    rw [exec_rampOutComplete_paused hstate hlam htarget, State.rampEnded_fireWatch_of_armed hwatch]
    rfl
  case idleClear =>
    intro hstate hlam hwatch htarget hctx
    rw [exec_rampOutComplete_idle hstate hlam htarget, State.rampEnded_fireWatch_of_clear hwatch,
      State.releaseContext_of_none (by rw [State.rampEnded_pe]; exact hctx)]
    rfl
  case idleArmed =>
    rintro u hstate hlam hwatch htarget hctx rfl
    rw [exec_rampOutComplete_idle hstate hlam htarget,
      State.releaseContext_of_none (by rw [State.fireWatch_pe, State.rampEnded_pe]; exact hctx),
      State.rampEnded_fireWatch_of_armed hwatch]
    rfl
  case released =>
    intro c e hstate hlam htarget hctx hentry
    refine ⟨_, exec_rampOutComplete_idle hstate hlam htarget, ?_⟩
    have hw : (s.rampEnded .idle).fireWatch.sq = { s.sq with watch := false } := by
      rw [State.fireWatch_sq, State.rampEnded_sq]
    have hwctx : (s.rampEnded .idle).fireWatch.pe.ctx = some c := by rw [State.fireWatch_pe, State.rampEnded_pe]; exact hctx
    have hwentry : (s.rampEnded .idle).fireWatch.cursorEntry = some e := by rw [State.cursorEntry, hw]; exact hentry
    refine ⟨?pe, ?sq, ?clips, ?engine, ?advance, ?_⟩
    case pe => rw [State.releaseContext_pe, State.fireWatch_pe, State.rampEnded_pe]
    case sq => rw [State.releaseContext_sq hwctx hwentry, State.queueReleased_of_watch hw]
    case clips =>
      intro id _
      have hcs : (s.rampEnded .idle).fireWatch.cs = s.cs := (State.fireWatch_cs _).trans (State.raise_cs _ _ _)
      rw [State.releaseContext_clip hwctx]
      exact State.clipReleased_congr hcs (hwctx.trans hctx.symm) (by rw [hw]) _ id
    case engine =>
      rw [State.releaseContext_cause_other _ (by decide), State.fireWatch_cause_other _ (by decide), State.rampEnded,
        State.raise_cause_same]
    case advance =>
      rw [State.releaseContext_cause_other _ (by decide), State.fireWatch_cause_advance, State.rampEnded_sq, State.rampEnded_pe,
        State.rampEnded, State.raise_cause_other _ _ (by decide)]
      rfl
    all_goals simp [State.rampEnded]
  case play =>
    intro c p hstate hctx hbody hend
    have hend : s.passLength c ≤ c.elapsed + 1 := by simpa only [State.passLength, Context.elapsed, hbody] using hend
    rw [exec_passEndInRampOut hstate hctx hend]
    simp only [Context.newPass, hbody]
    rfl
  case dwell =>
    intro c elapsed f r hstate hctx hbody hentry hend
    have hend : s.passLength c ≤ c.elapsed + 1 := by
      simpa only [State.passLength, Context.elapsed, hbody, hentry] using hend
    have hfinished : s.visitFinished c = (c.cut || decide (1 ≤ c.counted)) := by
      rw [State.visitFinished, State.heldPasses, hentry]
      rfl
    rw [exec_passEndInRampOut hstate hctx hend]
    simp only [Context.newPass, hbody, hfinished]

end Sys2Proof.Machine
end

section
/-! A list of entries that leaves the queue: the done ring, the references and SEGMENT in the words of the statements; Flush Queue and
Advance Watch (R57 to R60, R69, R71). -/

namespace Sys2Proof.Machine

open Sys2Proof

/-! ### The records and the raisings of a list -/

theorem leavers_cons_of_none {e : Entry} (h : e.runtime = none) (sequence : Nat) (rest : List Entry) :
    leavers sequence (e :: rest) = leavers sequence rest := by
  simp [leavers, h]

/-- The entry in front takes the next number, and the rest go on behind it. -/
theorem leavers_cons_of_some {e : Entry} {r : Runtime} (h : e.runtime = some r) {sequence : Nat}
    (hseq : sequence < 4294967296) (rest : List Entry) :
    leavers sequence (e :: rest) = (e, sequence) :: leavers ((sequence + 1) % 4294967296) rest := by
  have hkept : (e :: rest).filter (fun e => e.runtime.isSome) = e :: rest.filter fun e => e.runtime.isSome :=
    List.filter_cons_of_pos (by rw [h]; rfl)
  rw [leavers, leavers, hkept, List.zipIdx_cons, List.map_cons, Nat.zero_add, List.zipIdx_succ, List.map_map]
  refine congrArg₂ List.cons (congrArg (Prod.mk e) (Nat.mod_eq_of_lt hseq)) ?_
  refine List.map_congr_left fun p _ => Prod.ext rfl ?_
  change (sequence + (p.2 + 1)) % 4294967296 = ((sequence + 1) % 4294967296 + p.2) % 4294967296
  omega

theorem Entry.doneRecord_eq_none_iff {e : Entry} {flushed : Bool} {sequence : Nat} :
    e.doneRecord flushed sequence = none ↔ e.runtime = none := by
  simp [Entry.doneRecord]

theorem doneRecords_cons_of_none {e : Entry} (h : e.runtime = none) (flushed : Bool) (sequence : Nat) (rest : List Entry) :
    doneRecords flushed sequence (e :: rest) = doneRecords flushed sequence rest := by
  rw [doneRecords, leavers_cons_of_none h]
  rfl

theorem doneRecords_cons_of_some {e : Entry} {r : Runtime} (h : e.runtime = some r) {flushed : Bool} {sequence : Nat}
    {record : DoneRecord} (hrecord : e.doneRecord flushed sequence = some record) (hseq : sequence < 4294967296)
    (rest : List Entry) :
    doneRecords flushed sequence (e :: rest) = record :: doneRecords flushed ((sequence + 1) % 4294967296) rest := by
  rw [doneRecords, leavers_cons_of_some h hseq]
  exact List.filterMap_cons_some (f := fun p : Entry × Nat => p.1.doneRecord flushed p.2) hrecord

theorem segmentRaisings_cons_of_none {e : Entry} (h : e.runtime = none) (sequence : Nat) (rest : List Entry) :
    segmentRaisings sequence (e :: rest) = segmentRaisings sequence rest := by
  rw [segmentRaisings, leavers_cons_of_none h]
  rfl

theorem segmentRaisings_cons_of_some {e : Entry} {r : Runtime} (h : e.runtime = some r) {sequence : Nat}
    (hseq : sequence < 4294967296) (rest : List Entry) :
    segmentRaisings sequence (e :: rest)
      = if e.notify then sequence :: segmentRaisings ((sequence + 1) % 4294967296) rest
        else segmentRaisings ((sequence + 1) % 4294967296) rest := by
  rw [segmentRaisings, leavers_cons_of_some h hseq]
  split
  next hn => exact congrArg (List.map (·.2)) (List.filter_cons_of_pos (p := fun p : Entry × Nat => p.1.notify) (a := (e, sequence)) hn)
  next hn => exact congrArg (List.map (·.2)) (List.filter_cons_of_neg (p := fun p : Entry × Nat => p.1.notify) (a := (e, sequence)) hn)

/-! ### The done ring (R60) -/

theorem pushDone_length_le {ring : List DoneRecord} (h : ring.length ≤ 32) (r : DoneRecord) :
    (pushDone ring r).length ≤ 32 := by
  rw [pushDone_eq h, List.length_append, List.length_drop, List.length_singleton]
  omega

/-- The newest 32 records are the same whether the ring was cut before or is cut at the end. -/
theorem drop_pushDone {ring : List DoneRecord} (h : ring.length ≤ 32) (r : DoneRecord) (more : List DoneRecord) :
    (pushDone ring r ++ more).drop ((pushDone ring r ++ more).length - 32)
      = (ring ++ r :: more).drop ((ring ++ r :: more).length - 32) := by
  have hcut : pushDone ring r ++ more = (ring ++ r :: more).drop (ring.length - 31) := by
    rw [pushDone_eq h, List.append_assoc, List.singleton_append, List.drop_append_of_le_length (Nat.sub_le _ _)]
  rw [hcut, List.drop_drop, List.length_drop, List.length_append, List.length_cons]
  congr 1
  omega

/-! ### SEGMENT (R58, R69) -/

/-- What a notice makes of the line depends on the line alone. -/
theorem State.placeNotice_sli_congr {s t : State} (h : t.sli = s.sli) (c : Cause) (n : Nat) :
    (t.placeNotice c n).sli = (s.placeNotice c n).sli := by
  unfold State.placeNotice State.placeFrame
  rw [h]
  split
  · rfl
  · cases s.sli.leaving <;> rfl

/-- Everything the leaving of an entry does outside the queue and the reference counts: SEGMENT, when its notify is set. -/
theorem State.leaveEntry_eq_raise (s : State) (flushed : Bool) (e : Entry) :
    ∃ u : State, u.eu = s.eu ∧ u.sli = s.sli ∧ u.cs.order = s.cs.order ∧ u.cs.verifierSince = s.cs.verifierSince
      ∧ s.leaveEntry flushed e = if e.notify then u.raise .segment (some (.segment s.sq.nextSeq)) else u := by
  obtain ⟨tag, body⟩ := e
  cases body with
  | play f r => exact ⟨_, by rfl, by rfl, by rfl, by rfl, rfl⟩
  | dwell f r => exact ⟨_, by rfl, by rfl, by rfl, by rfl, rfl⟩
  | loopOpen => exact ⟨s, rfl, rfl, rfl, rfl, rfl⟩
  | loopClose => exact ⟨s, rfl, rfl, rfl, rfl, rfl⟩

theorem State.leaveEntry_cause_segment (s : State) (flushed : Bool) (e : Entry) :
    (s.leaveEntry flushed e).cause .segment
      = if e.notify then
          { s.cause .segment with count := min 255 ((s.cause .segment).count + 1), detail := some (.segment s.sq.nextSeq) }
        else s.cause .segment := by
  obtain ⟨u, heu, -, -, -, hleave⟩ := s.leaveEntry_eq_raise flushed e
  have hcause : u.cause .segment = s.cause .segment := by rw [State.cause, heu, State.cause]
  rw [hleave]
  split
  · rw [State.raise_cause_same, hcause]
  · exact hcause

theorem State.leaveEntry_sli (s : State) (flushed : Bool) (e : Entry) :
    (s.leaveEntry flushed e).sli
      = if e.notify = true ∧ (s.cause .segment).count = 0 ∧ (s.cause .segment).enable = true
        then (s.placeNotice .segment 1).sli else s.sli := by
  obtain ⟨u, heu, hsli, -, -, hleave⟩ := s.leaveEntry_eq_raise flushed e
  have hcause : u.cause .segment = s.cause .segment := by rw [State.cause, heu, State.cause]
  rw [hleave]
  cases e.notify with
  | false => exact hsli
  | true =>
    rw [if_pos rfl, State.raise_eq]
    simp only [hcause, hsli, State.placeNotice_sli_congr hsli, true_and]

theorem State.leaveEntry_markSet (s : State) (flushed : Bool) (e : Entry) :
    (s.leaveEntry flushed e).eu.markSet = s.eu.markSet := by
  obtain ⟨u, heu, -, -, -, hleave⟩ := s.leaveEntry_eq_raise flushed e
  rw [hleave, ← heu]
  split
  · rw [State.raise_eq]; rfl
  · rfl

theorem State.leaveEntry_verifierSince (s : State) (flushed : Bool) (e : Entry) :
    (s.leaveEntry flushed e).cs.verifierSince = s.cs.verifierSince := by
  obtain ⟨u, -, -, -, hverifier, hleave⟩ := s.leaveEntry_eq_raise flushed e
  rw [hleave]
  split
  · rw [State.raise_cs, hverifier]
  · exact hverifier

/-! ### A list of entries leaves -/

theorem State.leaves_nil {s : State} (flushed : Bool) (hnext : s.sq.nextSeq < 4294967296) (hring : s.sq.doneRing.length ≤ 32) :
    s.Leaves flushed [] s where
  ring := by
    show s.sq.doneRing = (s.sq.doneRing ++ []).drop ((s.sq.doneRing ++ []).length - 32)
    rw [List.append_nil, Nat.sub_eq_zero_of_le hring, List.drop_zero]
  next := (Nat.mod_eq_of_lt hnext).symm
  refs _ := rfl
  segment := rfl
  causes _ _ := rfl
  line := rfl
  store := ⟨rfl, rfl, rfl, rfl⟩
  others := ⟨rfl, rfl, rfl, rfl, rfl, rfl, rfl, rfl, rfl⟩

/-- A marker leaves without a trace. -/
theorem State.Leaves.cons_of_none {s t : State} {flushed : Bool} {e : Entry} {rest : List Entry} (he : e.runtime = none)
    (h : (s.leaveEntry flushed e).Leaves flushed rest t) : s.Leaves flushed (e :: rest) t := by
  have hmarker : s.leaveEntry flushed e = s := by
    obtain ⟨tag, body⟩ := e
    cases body with
    | play => cases he
    | dwell => cases he
    | loopOpen => rfl
    | loopClose => rfl
  have hplays : ∀ id, ¬ e.plays id = true := by
    obtain ⟨tag, body⟩ := e
    cases body with
    | play => cases he
    | dwell => cases he
    | loopOpen => simp [Entry.plays]
    | loopClose => simp [Entry.plays]
  rw [hmarker] at h
  obtain ⟨hring, hnext, hrefs, hsegment, hcauses, hline, hstore, hothers⟩ := h
  refine ⟨?_, ?_, fun id => ?_, ?_, hcauses, ?_, hstore, hothers⟩
  · rw [doneRecords_cons_of_none he]; exact hring
  · rw [List.filter_cons_of_neg (by rw [he]; decide)]; exact hnext
  · rw [List.countP_cons_of_neg (hplays id)]; exact hrefs id
  · rw [segmentRaisings_cons_of_none he]; exact hsegment
  · rw [segmentRaisings_cons_of_none he]; exact hline

/-- SEGMENT after the raising of the entry in front and those of the rest. -/
theorem segment_cons (seq : Nat) (raised : List Nat) (c : CauseState) :
    (match raised.getLast? with
      | none => { c with count := min 255 (c.count + 1), detail := some (Detail.segment seq) }
      | some last => { c with count := min 255 (min 255 (c.count + 1) + raised.length), detail := some (.segment last) })
      = (match (seq :: raised).getLast? with
      | none => c
      | some last => { c with count := min 255 (c.count + (seq :: raised).length), detail := some (.segment last) }) := by
  have hcount : min 255 (min 255 (c.count + 1) + raised.length) = min 255 (c.count + (raised.length + 1)) := by omega
  rw [List.getLast?_cons, List.length_cons]
  cases hlast : raised.getLast? with
  | none => rw [List.getLast?_eq_none_iff.1 hlast]; rfl
  | some last => simp only [Option.getD_some, hcount]

/-- A PLAY or DWELL leaves its record first, and the rest go on from there. -/
theorem State.Leaves.cons_of_some {s t : State} {flushed : Bool} {e : Entry} {r : Runtime} {rest : List Entry}
    (he : e.runtime = some r) (hseq : s.sq.nextSeq < 4294967296) (hlength : s.sq.doneRing.length ≤ 32)
    (h : (s.leaveEntry flushed e).Leaves flushed rest t) : s.Leaves flushed (e :: rest) t := by
  obtain ⟨record, hrecord⟩ : ∃ record, e.doneRecord flushed s.sq.nextSeq = some record :=
    Option.ne_none_iff_exists'.1 fun hnone => by rw [Entry.doneRecord_eq_none_iff.1 hnone] at he; cases he
  have hsq : (s.leaveEntry flushed e).sq = s.sq.recorded (some record) := by rw [State.leaveEntry_sq, hrecord]
  obtain ⟨hring, hnext, hrefs, hsegment, hcauses, hline, ⟨hpoints, hfree, horder, hverifier⟩,
    ⟨hpe, hdcu, hcpc, hlm, hmu, hrcu, hmarks, hclock, hpending⟩⟩ := h
  simp only [hsq, SegmentQueue.recorded] at hring hnext hsegment hline
  rw [State.leaveEntry_cause_segment] at hsegment
  rw [State.leaveEntry_cause_segment, State.leaveEntry_sli] at hline
  refine ⟨?ring, ?next, fun id => ?refs, ?segment, fun c hc => (hcauses c hc).trans (s.leaveEntry_cause_other flushed e hc), ?line,
    ⟨hpoints.trans (State.leaveEntry_points ..), hfree.trans (State.leaveEntry_freePages ..),
      horder.trans (State.leaveEntry_order ..), hverifier.trans (State.leaveEntry_verifierSince ..)⟩,
    ⟨hpe.trans (State.leaveEntry_pe ..), hdcu.trans (State.leaveEntry_dcu ..), hcpc.trans (State.leaveEntry_cpc ..),
      hlm.trans (State.leaveEntry_lm ..), hmu.trans (State.leaveEntry_mu ..), hrcu.trans (State.leaveEntry_rcu ..),
      hmarks.trans (State.leaveEntry_markSet ..), hclock.trans (State.leaveEntry_clock ..),
      hpending.trans (State.leaveEntry_pending ..)⟩⟩
  case ring =>
    rw [doneRecords_cons_of_some he hrecord hseq, hring]
    exact drop_pushDone hlength record _
  case next =>
    rw [List.filter_cons_of_pos (by rw [he]; rfl), List.length_cons, hnext, Nat.mod_add_mod, Nat.add_assoc, Nat.add_comm 1]
  case refs =>
    rw [hrefs id, State.leaveEntry_clip, List.countP_cons, Nat.add_comm, ← Nat.sub_sub]
  case segment =>
    rw [segmentRaisings_cons_of_some he hseq, hsegment]
    cases e.notify with
    | false => rfl
    | true => exact segment_cons _ _ _
  case line =>
    rw [segmentRaisings_cons_of_some he hseq, hline]
    cases hnotify : e.notify with
    | false =>
      have hsli : (s.leaveEntry flushed e).sli = s.sli := by rw [State.leaveEntry_sli, hnotify]; rfl
      simp [State.placeNotice_sli_congr hsli]
    | true => simp

theorem State.foldl_leaveEntry_leaves (flushed : Bool) : ∀ (es : List Entry) (s : State), s.sq.nextSeq < 4294967296 →
    s.sq.doneRing.length ≤ 32 → s.Leaves flushed es (es.foldl (fun t e => t.leaveEntry flushed e) s)
  | [], _, hnext, hring => State.leaves_nil flushed hnext hring
  | e :: rest, s, hnext, hring => by
    have hrest := State.foldl_leaveEntry_leaves flushed rest (s.leaveEntry flushed e)
    rw [State.leaveEntry_sq] at hrest
    cases hrecord : e.doneRecord flushed s.sq.nextSeq with
    | none =>
      rw [hrecord] at hrest
      exact .cons_of_none (Entry.doneRecord_eq_none_iff.1 hrecord) (hrest hnext hring)
    | some record =>
      rw [hrecord] at hrest
      obtain ⟨r, hr, -⟩ := Option.map_eq_some_iff.1 hrecord
      exact .cons_of_some hr hnext hring (hrest (Nat.mod_lt _ (by decide)) (pushDone_length_le hring record))

/-! ### Flush Queue and Advance Watch -/

/-- The queue without its entries, cursor and loop stack (R69). -/
def State.emptied (s : State) : State :=
  s.setSq { s.sq with entries := [], cursor := 0, stack := [], tailDepth := 0 }

/-- What leaving does is the same whether the queue is emptied before. -/
theorem State.Leaves.of_emptied {s t : State} {flushed : Bool} {es : List Entry} (h : s.emptied.Leaves flushed es t) :
    s.Leaves flushed es t where
  ring := h.ring
  next := h.next
  refs := h.refs
  segment := h.segment
  causes := h.causes
  line := by
    rw [← State.placeNotice_sli_congr (s := s) (t := s.emptied) rfl]
    exact h.line
  store := h.store
  others := h.others

/-- The part of the segment queue that the leaving of an entry does not touch. -/
def SegmentQueue.unrecorded (q : SegmentQueue) : SegmentQueue := { q with doneRing := [], nextSeq := 0 }

theorem State.leaveEntry_unrecorded (s : State) (flushed : Bool) (e : Entry) :
    (s.leaveEntry flushed e).sq.unrecorded = s.sq.unrecorded := by
  rw [State.leaveEntry_sq]
  cases e.doneRecord flushed s.sq.nextSeq <;> rfl

theorem exec_flushQueue_of_idle {s : State} (tag : Nat) (hfree : s.repliesHeld < 2) (hidle : s.pe.state = .idle) :
    exec (.flushQueue tag) s
      = .next ((s.sq.entries.foldl (fun t e => t.leaveEntry true e) s.emptied).answered 0x22 tag .ok
          (beBytes 1 (s.sq.entries.filter fun e => e.runtime.isSome).length)) :=
  exec_of_taking (c := .flushQueue tag) rfl nofun hfree (if_neg (not_not.2 hidle))

/-- Settles O15: the entries leave one after the other, and each leaves its record, its reference and its raising
(`State.foldl_leaveEntry_leaves`). -/
theorem flushAndWatchResult : Obligations.FlushAndWatchResult := by
  intro tag s hfree
  refine ⟨?flushed, ?refused, ?armed, ?fired⟩
  case flushed =>
    intro hidle hnext hring
    have hkept : (s.sq.entries.foldl (fun t e => t.leaveEntry true e) s.emptied).sq.unrecorded = s.emptied.sq.unrecorded :=
      foldl_keeps (fun t : State => t.sq.unrecorded) _ (fun t e => t.leaveEntry_unrecorded true e) _ _
    exact ⟨_, exec_flushQueue_of_idle tag hfree hidle,
      (State.foldl_leaveEntry_leaves true s.sq.entries s.emptied hnext hring).of_emptied,
      congrArg SegmentQueue.entries hkept, congrArg SegmentQueue.cursor hkept, congrArg SegmentQueue.stack hkept,
      congrArg SegmentQueue.tailDepth hkept, (congrArg SegmentQueue.watch hkept :)⟩
  case refused =>
    intro hbusy
    exact exec_of_taking (c := .flushQueue tag) rfl nofun hfree (if_pos hbusy)
  case armed =>
    intro hplays
    exact exec_of_taking (c := .advanceWatch tag) rfl nofun hfree (if_pos ((playing_iff _).2 hplays))
  case fired =>
    intro hrests
    have hnot : ¬ s.pe.state.playing = true := by
      rw [playing_iff]
      rcases hrests with h | h | h | h <;> simp [h]
    exact exec_of_taking (c := .advanceWatch tag) rfl nofun hfree (if_neg hnot)

end Sys2Proof.Machine
end

section
/-! Modify Entry: the judging of a change list, and what the changed entry does to the queue, the loop stack and the context
(R62 to R68). -/

namespace Sys2Proof.Machine

open Sys2Proof

/-! ### The judging of the changes (R62, R198, R200) -/

theorem flagChangesOk_eq_false_iff {changes : List FieldChange} :
    flagChangesOk changes = false ↔ ∃ c ∈ changes, (c.field = 3 ∨ c.field = 4 ∨ c.field = 5) ∧ 1 < c.value := by
  simp only [flagChangesOk, isFlagField, List.all_eq_false, Bool.or_eq_true, Bool.not_eq_true', Bool.or_eq_false_iff,
    beq_eq_false_iff_ne, decide_eq_true_eq, not_or, not_and_or, not_not, not_le, or_assoc]

theorem exec_modifyEntry_of_badFlag {s : State} {changes : List FieldChange} (tag etag : Nat) (hfree : s.repliesHeld < 2)
    (hflags : flagChangesOk changes = false) :
    exec (.modifyEntry tag etag changes) s = .next (s.answered 0x21 tag .invalidValue []) :=
  exec_of_taking (c := .modifyEntry tag etag changes) rfl nofun hfree (if_pos (by rw [hflags]; decide))

theorem exec_modifyEntry_of_unknownTag {s : State} {etag : Nat} {changes : List FieldChange} (tag : Nat)
    (hfree : s.repliesHeld < 2) (hflags : flagChangesOk changes = true) (hunknown : findTag s.sq.entries etag = none) :
    exec (.modifyEntry tag etag changes) s = .next (s.answered 0x21 tag .notFound []) := by
  refine exec_of_taking (c := .modifyEntry tag etag changes) (t := s) (reply := ⟨.notFound, []⟩) rfl nofun hfree ?_
  change takeModifyEntry etag changes s = _
  rw [takeModifyEntry, if_neg (not_not.2 hflags), hunknown]
  rfl

theorem findTag_tag {es : List Entry} {tag pos : Nat} {e : Entry} (h : findTag es tag = some pos) (he : es[pos]? = some e) :
    e.tag = tag := by
  obtain ⟨hlt, hfound, -⟩ := List.findIdx?_eq_some_iff_getElem.1 h
  obtain ⟨-, rfl⟩ := List.getElem?_eq_some_iff.1 he
  exact beq_iff_eq.1 hfound

/-- A Modify Entry can be taken, and its tag names the entry at a position. -/
structure State.EntryAt (s : State) (etag pos : Nat) (body : EntryBody) : Prop where
  free : s.repliesHeld < 2
  found : findTag s.sq.entries etag = some pos
  entry : s.sq.entries[pos]? = some { tag := etag, body := body }

section taken

variable {s : State} {etag pos : Nat} {old new : EntryBody} {changes : List FieldChange} {c : FieldChange}

/-- The taking past the checks of the flags and of the tag. -/
theorem State.EntryAt.takeModifyEntry_eq (h : s.EntryAt etag pos old) (hflags : flagChangesOk changes = true) :
    takeModifyEntry etag changes s
      = if changes = [] ∨ ¬ (changes.map (·.field)).Nodup then refuse s .invalidValue
        else match changeFields old changes with
          | none => refuse s .invalidValue
          | some body => accept (s.replaceEntry pos { tag := etag, body := old } { tag := etag, body := body }) [] := by
  rw [takeModifyEntry, if_neg (not_not.2 hflags), h.found]
  dsimp only
  rw [h.entry] <;> rfl

theorem State.EntryAt.exec_accepted (h : s.EntryAt etag pos old) (tag : Nat) (hflags : flagChangesOk changes = true)
    (hsome : changes ≠ []) (hdistinct : (changes.map (·.field)).Nodup) (hnew : changeFields old changes = some new) :
    exec (.modifyEntry tag etag changes) s
      = .next ((s.replaceEntry pos { tag := etag, body := old } { tag := etag, body := new }).answered 0x21 tag .ok []) := by
  refine exec_of_taking (c := .modifyEntry tag etag changes) (reply := ⟨.ok, []⟩) rfl nofun h.free ?_
  change takeModifyEntry etag changes s = _
  rw [h.takeModifyEntry_eq hflags, if_neg (by simp [hsome, hdistinct]), hnew]
  rfl

theorem State.EntryAt.exec_refused (h : s.EntryAt etag pos old) (tag : Nat)
    (hbad : changes = [] ∨ ¬ (changes.map (·.field)).Nodup ∨ changeFields old changes = none) :
    exec (.modifyEntry tag etag changes) s = .next (s.answered 0x21 tag .invalidValue []) := by
  cases hflags : flagChangesOk changes with
  | false => exact exec_modifyEntry_of_badFlag tag etag h.free hflags
  | true =>
    refine exec_of_taking (c := .modifyEntry tag etag changes) (t := s) (reply := ⟨.invalidValue, []⟩) rfl nofun h.free ?_
    change takeModifyEntry etag changes s = _
    rw [h.takeModifyEntry_eq hflags]
    split
    · rfl
    next hshape =>
      obtain ⟨hsome, hdistinct⟩ := not_or.1 hshape
      rw [(hbad.resolve_left hsome).resolve_left hdistinct]
      rfl

theorem changeFields_singleton (b : EntryBody) (c : FieldChange) : changeFields b [c] = changeField b c := by
  rw [changeFields]
  cases changeField b c <;> rfl

theorem State.EntryAt.exec_single (h : s.EntryAt etag pos old) (tag : Nat) (hflag : flagChangesOk [c] = true)
    (hnew : changeField old c = some new) :
    exec (.modifyEntry tag etag [c]) s
      = .next ((s.replaceEntry pos { tag := etag, body := old } { tag := etag, body := new }).answered 0x21 tag .ok []) :=
  h.exec_accepted tag hflag (List.cons_ne_nil _ _) (List.nodup_singleton _) ((changeFields_singleton old c).trans hnew)

theorem State.EntryAt.exec_single_refused (h : s.EntryAt etag pos old) (tag : Nat) (hbad : changeField old c = none) :
    exec (.modifyEntry tag etag [c]) s = .next (s.answered 0x21 tag .invalidValue []) :=
  h.exec_refused tag (.inr (.inr ((changeFields_singleton old c).trans hbad)))

end taken

/-! ### The fields of each kind (R62 to R66) -/

@[simp] theorem readFlag_toNat (v : Bool) : readFlag v.toNat = some v := by cases v <;> rfl

theorem changeField_play_eq_none {f : PlayFields} {r : Runtime} {c : FieldChange}
    (h : c.field ∉ [1, 2, 3, 4, 5] ∨ c.field = 1 ∧ (c.value = 0 ∨ 65535 < c.value) ∨ c.field = 2 ∧ 7 < c.value) :
    changeField (.play f r) c = none := by
  obtain ⟨field, value⟩ := c
  rcases h with hfield | ⟨hfield, hvalue⟩ | ⟨hfield, hvalue⟩
  · unfold changeField
    split <;> simp_all
  · obtain rfl : field = 1 := hfield
    exact if_neg (by dsimp only at hvalue ⊢; omega)
  · obtain rfl : field = 2 := hfield
    exact if_neg (not_le.2 hvalue)

theorem changeField_dwell_eq_none {f : DwellFields} {r : Runtime} {c : FieldChange}
    (h : c.field ∉ [3, 4, 6] ∨ c.field = 6 ∧ (c.value = 0 ∨ 16777215 < c.value)) :
    changeField (.dwell f r) c = none := by
  obtain ⟨field, value⟩ := c
  rcases h with hfield | ⟨hfield, hvalue⟩
  · unfold changeField
    split <;> simp_all
  · obtain rfl : field = 6 := hfield
    exact if_neg (by dsimp only [Config.maxDwell] at hvalue ⊢; omega)

theorem changeField_loopOpen_eq_none {count : Nat} {c : FieldChange} (h : c.field ≠ 7 ∨ 65535 < c.value) :
    changeField (.loopOpen count) c = none := by
  obtain ⟨field, value⟩ := c
  unfold changeField
  split <;> simp_all

/-- A LOOP_CLOSE has no field. -/
theorem changeFields_loopClose_eq_none {changes : List FieldChange} (h : changes ≠ []) :
    changeFields .loopClose changes = none := by
  cases changes with
  | nil => exact absurd rfl h
  | cons c rest => rfl

/-! ### The changed entry takes its place (R64, R67) -/

section replaced

variable {s : State} {pos : Nat} {old new : Entry}

theorem State.mapEntry_const_self (hold : s.sq.entries[pos]? = some old) : (s.mapEntry pos fun _ => old) = s := by
  have hsame : s.sq.entries.modify pos (fun _ => old) = s.sq.entries := by
    refine List.ext_getElem? fun i => ?_
    rw [List.getElem?_modify]
    split
    next hi => subst hi; rw [hold]; rfl
    next => simp
  rw [State.mapEntry, hsame]
  rfl

/-- A change that does not set skip anew has no effect beside the entry's, but for a LOOP_OPEN. -/
theorem State.replaceEntry_of_skipKept (hskip : bodySkip new.body = true → bodySkip old.body = true)
    (hkind : ∀ count, new.body ≠ .loopOpen count) : s.replaceEntry pos old new = s.mapEntry pos fun _ => new := by
  have hkept : (bodySkip new.body && !bodySkip old.body) = false := by
    cases hnew : bodySkip new.body with
    | false => rfl
    | true => rw [hskip hnew]; rfl
  simp only [State.replaceEntry, hkept, Bool.false_and, Bool.false_eq_true, if_false]

/-- The frame of a LOOP_OPEN takes the new count with it (R64). -/
theorem State.replaceEntry_loopOpen (tag count : Nat) :
    s.replaceEntry pos old { tag := tag, body := .loopOpen count }
      = { s with sq := { s.sq with
          entries := s.sq.entries.modify pos fun _ => { tag := tag, body := .loopOpen count },
          stack := s.sq.stack.map fun fr => if fr.tag = tag then { fr with count := count } else fr } } := by
  simp [State.replaceEntry, bodySkip, reframe, State.mapEntry, State.setSq]

/-- Setting skip on the entry the context holds sets the visit's cut pending (R67). -/
theorem State.replaceEntry_of_held {c : Context} (hold : bodySkip old.body = false) (hnew : bodySkip new.body = true)
    (hctx : s.pe.ctx = some c) (htag : c.tag = old.tag) :
    s.replaceEntry pos old new
      = { s.mapEntry pos fun _ => new with pe := { s.pe with ctx := some { c with cut := true } } } := by
  have hheld : s.holds old.tag = true := by rw [State.holds, hctx]; exact beq_iff_eq.2 htag
  obtain ⟨tag, body⟩ := new
  have hcut : (s.mapEntry pos fun _ => ⟨tag, body⟩).setCut
      = { s.mapEntry pos fun _ => ⟨tag, body⟩ with pe := { s.pe with ctx := some { c with cut := true } } } := by
    simp only [State.setCut, State.setCtx, State.mapEntry, State.setSq, hctx, Option.map_some]
  cases body with
  | loopOpen => cases hnew
  | loopClose => cases hnew
  | play f r => simp only [State.replaceEntry, hnew, hold, hheld]; exact hcut
  | dwell f r => simp only [State.replaceEntry, hnew, hold, hheld]; exact hcut

/-- Setting skip on any other entry ends the visit it holds interrupted (R67). -/
theorem State.replaceEntry_of_notHeld (hold : bodySkip old.body = false) (hnew : bodySkip new.body = true)
    (hctx : ∀ c, s.pe.ctx = some c → c.tag ≠ old.tag) :
    s.replaceEntry pos old new = s.mapEntry pos fun _ => new.mapRuntime Runtime.skipInterrupted := by
  have hheld : s.holds old.tag = false := by
    unfold State.holds
    split
    next c hc => exact beq_false_of_ne (hctx c hc)
    next => rfl
  obtain ⟨tag, body⟩ := new
  cases body with
  | loopOpen => cases hnew
  | loopClose => cases hnew
  | play f r => simp only [State.replaceEntry, hnew, hold, hheld]; rfl
  | dwell f r => simp only [State.replaceEntry, hnew, hold, hheld]; rfl

end replaced

theorem Runtime.skipInterrupted_eq (r : Runtime) :
    r.skipInterrupted = { r with cutSeen := r.cutSeen || r.interrupted.isSome, interrupted := none } := by
  unfold Runtime.skipInterrupted
  obtain ⟨visits, passes, cutSeen, interrupted, firstStamp, lastStamp, stats⟩ := r
  cases interrupted <;> simp

/-! ### A single change, taken -/

section single

variable {s : State} {etag pos : Nat} {old new : EntryBody} {c : FieldChange}

/-- A field of a PLAY or DWELL changes, and skip is not set anew. -/
theorem State.EntryAt.exec_field (h : s.EntryAt etag pos old) (tag : Nat) (hflag : flagChangesOk [c] = true)
    (hnew : changeField old c = some new) (hskip : bodySkip new = true → bodySkip old = true)
    (hkind : ∀ count, new ≠ .loopOpen count) :
    exec (.modifyEntry tag etag [c]) s
      = .next ((s.mapEntry pos fun _ => { tag := etag, body := new }).answered 0x21 tag .ok []) := by
  rw [h.exec_single tag hflag hnew, State.replaceEntry_of_skipKept hskip hkind]

/-- Setting skip where it is set already changes nothing. -/
theorem State.EntryAt.exec_skip_again (h : s.EntryAt etag pos old)
    (tag : Nat) (hold : changeField old { field := 3, value := 1 } = some old)
    (hkind : ∀ count, old ≠ .loopOpen count) :
    exec (.modifyEntry tag etag [{ field := 3, value := 1 }]) s = .next (s.answered 0x21 tag .ok []) := by
  rw [h.exec_field tag (by rfl) hold id hkind, State.mapEntry_const_self h.entry]

theorem State.EntryAt.exec_skip_held {ctx : Context} (h : s.EntryAt etag pos old) (tag : Nat)
    (hnew : changeField old { field := 3, value := 1 } = some new) (hbefore : bodySkip old = false)
    (hafter : bodySkip new = true) (hctx : s.pe.ctx = some ctx) (htag : ctx.tag = etag) :
    exec (.modifyEntry tag etag [{ field := 3, value := 1 }]) s
      = .next (State.answered
          { s.mapEntry pos fun _ => { tag := etag, body := new } with
            pe := { s.pe with ctx := some { ctx with cut := true } } } 0x21 tag .ok []) := by
  rw [h.exec_single tag (by rfl) hnew, State.replaceEntry_of_held hbefore hafter hctx htag]

theorem State.EntryAt.exec_skip_notHeld (h : s.EntryAt etag pos old) (tag : Nat)
    (hnew : changeField old { field := 3, value := 1 } = some new) (hbefore : bodySkip old = false)
    (hafter : bodySkip new = true) (hctx : ∀ ctx, s.pe.ctx = some ctx → ctx.tag ≠ etag) :
    exec (.modifyEntry tag etag [{ field := 3, value := 1 }]) s
      = .next ((s.mapEntry pos fun _ => Entry.mapRuntime { tag := etag, body := new } Runtime.skipInterrupted).answered
          0x21 tag .ok []) := by
  rw [h.exec_single tag (by rfl) hnew, State.replaceEntry_of_notHeld hbefore hafter hctx]

end single

/-- Settles O14: each list of changes is judged (`State.EntryAt.exec_accepted`, `State.EntryAt.exec_refused`), and the changed
entry takes its place by whether skip is set anew and who holds the entry. -/
theorem modifyEntryResult : Obligations.ModifyEntryResult := by
  intro tag etag s hfree
  refine ⟨fun pos e set hfound hentry hset => ⟨?play, ?dwell, ?loopOpen, ?listRefused⟩, ?badFlag, ?unknownTag⟩
  case play =>
    rintro f r rfl
    obtain rfl : set = fun b => s.mapEntry pos fun _ => { tag := etag, body := b } := funext hset
    have h : s.EntryAt etag pos (.play f r) := ⟨hfree, hfound, hentry⟩
    refine ⟨?passes, ?gain, ?both, ?flags, ?unskip, ?again, ?held, ?ended, ?refused⟩
    case passes =>
      intro n hlow hhigh
      exact h.exec_field tag (by rfl) (if_pos ⟨hlow, hhigh⟩) id nofun
    case gain =>
      intro g hg
      exact h.exec_field tag (by rfl) (if_pos (Nat.le_of_lt_succ hg)) id nofun
    case both =>
      intro n g hlow hhigh hg
      have hnew : changeFields (.play f r) [{ field := 2, value := g }, { field := 1, value := n }]
          = some (.play { f with passes := n, gainSet := g } r) := by
        simp [changeFields, changeField, hlow, hhigh, Nat.le_of_lt_succ hg]
      rw [h.exec_accepted tag (by rfl) (by simp) (by simp) hnew,
        State.replaceEntry_of_skipKept (new := ⟨etag, .play { f with passes := n, gainSet := g } r⟩) (by exact id) nofun]
    case flags =>
      intro v
      have hflag : ∀ field, flagChangesOk [{ field := field, value := v.toNat }] = true := fun field => by
        cases v <;> simp [flagChangesOk]
      exact ⟨h.exec_field tag (hflag 4) (by simp [changeField]) id nofun,
        h.exec_field tag (hflag 5) (by simp [changeField]) id nofun⟩
    case unskip => exact h.exec_field tag (by rfl) (by rfl) (fun hset => Bool.noConfusion hset) nofun
    case again =>
      intro hskip
      refine h.exec_skip_again tag ?_ nofun
      change some (EntryBody.play { f with skip := true } r) = some (.play f r)
      rw [← hskip]
    case held =>
      intro c hskip hctx htag
      exact h.exec_skip_held tag (by rfl) hskip (by rfl) hctx htag
    case ended =>
      intro hskip hctx
      rw [← r.skipInterrupted_eq]
      exact h.exec_skip_notHeld tag (by rfl) hskip (by rfl) hctx
    case refused =>
      intro c hbad
      exact h.exec_single_refused tag (changeField_play_eq_none hbad)
  case dwell =>
    rintro f r rfl
    obtain rfl : set = fun b => s.mapEntry pos fun _ => { tag := etag, body := b } := funext hset
    have h : s.EntryAt etag pos (.dwell f r) := ⟨hfree, hfound, hentry⟩
    refine ⟨?length, ?notify, ?unskip, ?again, ?held, ?ended, ?refused⟩
    case length =>
      intro n hlow hhigh
      exact h.exec_field tag (by rfl) (if_pos ⟨hlow, hhigh⟩) id nofun
    case notify =>
      intro v
      exact h.exec_field tag (by cases v <;> rfl) (by simp [changeField]) id nofun
    case unskip => exact h.exec_field tag (by rfl) (by rfl) (fun hset => Bool.noConfusion hset) nofun
    case again =>
      intro hskip
      refine h.exec_skip_again tag ?_ nofun
      change some (EntryBody.dwell { f with skip := true } r) = some (.dwell f r)
      rw [← hskip]
    case held =>
      intro c hskip hctx htag
      exact h.exec_skip_held tag (by rfl) hskip (by rfl) hctx htag
    case ended =>
      intro hskip hctx
      rw [← r.skipInterrupted_eq]
      exact h.exec_skip_notHeld tag (by rfl) hskip (by rfl) hctx
    case refused =>
      intro c hbad
      exact h.exec_single_refused tag (changeField_dwell_eq_none hbad)
  case loopOpen =>
    rintro count rfl
    have h : s.EntryAt etag pos (.loopOpen count) := ⟨hfree, hfound, hentry⟩
    refine ⟨fun count' hcount => ?_, fun c hbad => h.exec_single_refused tag (changeField_loopOpen_eq_none hbad)⟩
    rw [h.exec_single (c := { field := 7, value := count' }) tag (by rfl) (if_pos hcount), State.replaceEntry_loopOpen]
  case listRefused =>
    intro changes hbad
    have htag : e.tag = etag := findTag_tag hfound hentry
    have h : s.EntryAt etag pos e.body := ⟨hfree, hfound, by rw [hentry, ← htag]⟩
    refine h.exec_refused tag (hbad.imp_right fun hrest => hrest.imp_right ?_)
    rintro ⟨hsome, rfl⟩
    exact changeFields_loopClose_eq_none hsome
  case badFlag =>
    intro changes hbad
    exact exec_modifyEntry_of_badFlag tag etag hfree (flagChangesOk_eq_false_iff.2 hbad)
  case unknownTag =>
    intro hunknown changes hgood
    refine exec_modifyEntry_of_unknownTag tag hfree (Bool.eq_true_of_not_eq_false fun hbad => ?_) hunknown
    obtain ⟨c, hc, hfield, hvalue⟩ := flagChangesOk_eq_false_iff.1 hbad
    exact absurd (hgood c hc hfield) (not_le.2 hvalue)

end Sys2Proof.Machine
end

section
/-! The engine's course: what the operations of an update and of an event make of the engine's settings and of λ. Each keeps the
rate, the source, the ramp lengths and the counter, and the law of λ (R74, R75, R89, R95). -/

namespace Sys2Proof.Machine

open Sys2Proof

/-! ### A course of the engine -/

/-- The fields of the engine that only the requests of R76 and R99, the timebase and its counter change. -/
def Engine.settings (e : Engine) : Nat × TimebaseSource × Nat × Nat × Nat := (e.rate, e.source, e.ri, e.ro, e.counter)

/-- From `s` to `t` the engine keeps its settings, and λ its law. -/
structure State.RunsTo (s t : State) : Prop where
  settings : t.pe.settings = s.pe.settings
  ramp : s.RampLawful → t.RampLawful

/-- The law of λ reads the engine's state and λ alone. -/
theorem State.RampLawful.congr {s t : State} (hstate : t.pe.state = s.pe.state) (hlam : t.pe.lam = s.pe.lam)
    (hs : s.RampLawful) : t.RampLawful := by
  obtain ⟨hbound, hfull, hzero⟩ := hs
  exact ⟨hlam ▸ hbound, hstate ▸ hlam ▸ hfull, hstate ▸ hlam ▸ hzero⟩

namespace State.RunsTo

theorem of_same {s t : State} (hset : t.pe.settings = s.pe.settings) (hstate : t.pe.state = s.pe.state)
    (hlam : t.pe.lam = s.pe.lam) : s.RunsTo t := ⟨hset, .congr hstate hlam⟩

theorem of_pe {s t : State} (h : t.pe = s.pe) : s.RunsTo t := of_same (by rw [h]) (by rw [h]) (by rw [h])

/-- A context of its own changes neither settings nor λ. -/
theorem of_ctx {s t : State} (h : ∃ ctx, t.pe = { s.pe with ctx := ctx }) : s.RunsTo t := by
  obtain ⟨ctx, h⟩ := h
  exact of_same (by rw [h]; rfl) (by rw [h]) (by rw [h])

theorem trans {s t u : State} (h : s.RunsTo t) (h' : t.RunsTo u) : s.RunsTo u :=
  ⟨h'.settings.trans h.settings, fun hs => h'.ramp (h.ramp hs)⟩

/-- In RAMP_IN and RAMP_OUT λ is only bounded. -/
theorem of_ramping {s t : State} (hset : t.pe.settings = s.pe.settings) (hstate : t.pe.state = .rampIn ∨ t.pe.state = .rampOut)
    (hlam : t.pe.lam ≤ 65536 ∨ t.pe.lam ≤ s.pe.lam) : s.RunsTo t := by
  refine ⟨hset, fun hs => ⟨hlam.elim id fun h => h.trans hs.bound, ?_, ?_⟩⟩
  · rcases hstate with h | h <;> simp [h]
  · rcases hstate with h | h <;> simp [h]

/-- λ 0 is lawful outside RUNNING. -/
theorem of_zero {s t : State} (hset : t.pe.settings = s.pe.settings) (hstate : t.pe.state ≠ .running) (hlam : t.pe.lam = 0) :
    s.RunsTo t :=
  ⟨hset, fun _ => ⟨by omega, fun h => absurd h hstate, fun _ => hlam⟩⟩

/-- A resting state passes its λ, which is 0, to another state. -/
theorem of_resting {s t : State} (hset : t.pe.settings = s.pe.settings)
    (hrest : s.pe.state = .idle ∨ s.pe.state = .paused ∨ s.pe.state = .tripped ∨ s.pe.state = .returning)
    (hstate : t.pe.state ≠ .running) (hlam : t.pe.lam = s.pe.lam) : s.RunsTo t :=
  ⟨hset, fun hs => (of_zero hset hstate (hlam.trans (hs.zero hrest))).ramp hs⟩

theorem foldl {α : Type} {f : State → α → State} (h : ∀ (s : State) a, s.RunsTo (f s a)) :
    ∀ (l : List α) (s : State), s.RunsTo (l.foldl f s)
  | [], _ => of_pe rfl
  | a :: rest, s => (h s a).trans (foldl h rest (f s a))

end State.RunsTo

/-! ### Actions (R85, R95) -/

theorem State.enterRampOut_pe (s : State) (target : Target) (cause : EngineCause) :
    (s.enterRampOut target cause).pe = { s.pe with state := .rampOut, target := some target, stopCause := some cause } := by
  rw [State.enterRampOut, State.enterState_pe]
  rfl

theorem State.enterRampOut_runsTo (s : State) (target : Target) (cause : EngineCause) :
    s.RunsTo (s.enterRampOut target cause) :=
  .of_ramping (by rw [State.enterRampOut_pe]; rfl) (by simp [State.enterRampOut_pe])
    (.inr (by simp [State.enterRampOut_pe]))

theorem State.enterTripped_runsTo (s : State) (cause : EngineCause) (ch : Option Nat) :
    s.RunsTo (s.enterTripped cause ch) :=
  .of_zero (by rw [State.enterTripped_pe]; rfl) (by simp [State.enterTripped_pe]) (by simp [State.enterTripped_pe])

theorem State.releaseContext_runsTo (s : State) : s.RunsTo s.releaseContext := .of_ctx ⟨none, s.releaseContext_pe⟩

/-- A Stop in PAUSED: λ is 0 there, and stays (R84). -/
theorem State.stopPaused_runsTo {s : State} (h : s.pe.state = .paused) (cause : EngineCause) :
    s.RunsTo (((s.setPe { s.pe with stopCause := some cause }).enterStopped .idle (some cause)).releaseContext) := by
  refine .trans (.of_resting ?_ (.inr (.inl h)) ?_ ?_) (State.releaseContext_runsTo _) <;> rw [State.enterStopped_pe]
  · rfl
  · nofun
  · rfl

theorem State.actionEffect_runsTo (s : State) (a : Action) (cause : EngineCause) (ch : Option Nat) :
    s.RunsTo (s.actionEffect a cause ch) := by
  unfold State.actionEffect
  cases a with
  | note => exact .of_pe rfl
  | pause => exact s.enterRampOut_runsTo _ _
  | trip => exact s.enterTripped_runsTo _ _
  | stop =>
    dsimp only
    split
    · exact .of_same rfl rfl rfl
    · next h => exact State.stopPaused_runsTo h cause
    · exact s.enterRampOut_runsTo _ _

theorem State.applyAction_runsTo (s : State) (a : Action) (cause : EngineCause) (ch : Option Nat) :
    s.RunsTo (s.applyAction a cause ch) := by
  unfold State.applyAction
  dsimp only
  split
  · exact .trans (.of_same (by rfl) (by rfl) (by rfl)) (State.actionEffect_runsTo _ a cause ch)
  · exact .of_same rfl rfl rfl

/-! ### Detectors, ports and results (R117, R124, R131) -/

theorem State.fireDetector_runsTo (s : State) (r : LimitRecord) : s.RunsTo (s.fireDetector r) := by
  have hraised : s.RunsTo (s.raise .limit (some (.limit r))) := .of_pe (by simp)
  unfold State.fireDetector
  dsimp only
  split
  · exact hraised
  · exact hraised.trans (State.applyAction_runsTo _ _ _ _)

theorem State.setLimits_fired_runsTo (s : State) (ch : Nat) (l : ChannelLimits) (r : LimitRecord) :
    s.RunsTo ((s.setLimits ch l).fireDetector r) := .trans (.of_pe (by rfl)) (State.fireDetector_runsTo _ r)

theorem State.evalEnvelope_runsTo (s : State) (ch : Nat) (f : Int) (stamp : Nat) : s.RunsTo (s.evalEnvelope ch f stamp) := by
  unfold State.evalEnvelope
  dsimp only
  split
  · split
    · exact s.setLimits_fired_runsTo _ _ _
    · exact .of_pe rfl
  · exact .of_pe rfl

theorem State.evalTracking_runsTo (s : State) (ch : Nat) (f : Int) (stamp : Nat) : s.RunsTo (s.evalTracking ch f stamp) := by
  unfold State.evalTracking
  dsimp only
  split
  · split
    · exact s.setLimits_fired_runsTo _ _ _
    · exact .of_pe rfl
  · exact .of_pe rfl

theorem State.evalClamp_runsTo (s : State) (ch : Nat) : s.RunsTo (s.evalClamp ch) := by
  unfold State.evalClamp
  dsimp only
  split
  · split
    · exact s.setLimits_fired_runsTo _ _ _
    · exact .of_pe rfl
  · exact .of_pe rfl

theorem State.mapStat_runsTo (s : State) (ch : Nat) (f : StatRecord → StatRecord) : s.RunsTo (s.mapStat ch f) :=
  .of_ctx ⟨_, s.mapStat_pe ch f⟩

theorem State.takeFeedback_runsTo (s : State) (ch : Nat) (f : Int) : s.RunsTo (s.takeFeedback ch f) := by
  unfold State.takeFeedback
  split
  · exact s.mapStat_runsTo _ _
  · exact .of_pe rfl

theorem State.faultChannel_runsTo (s : State) (ch : Nat) (cause : FaultCause) : s.RunsTo (s.faultChannel ch cause) := by
  unfold State.faultChannel
  dsimp only
  split
  · exact .trans (.of_pe (by simp)) (State.applyAction_runsTo _ _ _ _)
  · exact .of_pe (by simp)

theorem State.closeWindow_runsTo (s : State) (ch : Nat) : s.RunsTo (s.closeWindow ch) := by
  obtain ⟨p, cause, h | h | h⟩ := s.closeWindow_cases ch
  · rw [h]; exact .of_pe rfl
  · rw [h]; exact .of_pe rfl
  · rw [h]; exact .trans (.of_pe (by rfl)) (State.faultChannel_runsTo _ ch cause)

theorem State.takeResponse_runsTo (s : State) (ch : Nat) (w : Window) (f sp : Int) (st : ServoStatus) :
    s.RunsTo (s.takeResponse ch w f sp st) := by
  unfold State.takeResponse
  generalize hu : s.setPort ch _ = u
  refine .trans (t := u) (.of_pe (hu ▸ rfl)) ?_
  unfold State.actOnStatus
  split
  · exact u.faultChannel_runsTo ch _
  · exact .of_pe (by simp)
  · exact (u.takeFeedback_runsTo ch f).trans (.trans (State.evalEnvelope_runsTo _ ch f _) (State.evalTracking_runsTo _ ch f _))
  · exact .of_pe rfl

theorem State.handOn_runsTo (s : State) (cr : Nat × DriveResult) : s.RunsTo (s.handOn cr) := by
  obtain ⟨ch, r⟩ := cr
  unfold State.handOn
  dsimp only
  generalize hu : s.setDrive ch { s.drive ch with lastOutput := r.command } = u
  have hset : s.RunsTo u := .of_pe (hu ▸ rfl)
  have hcounted : s.RunsTo (if r.dynamic = true then u.mapStat ch (countIndications r) else u) := by
    split
    · exact hset.trans (u.mapStat_runsTo _ _)
    · exact hset
  split
  · exact hcounted.trans (State.evalClamp_runsTo _ _)
  · exact hcounted

/-! ### Passes and visits (R78, R88 to R91) -/

theorem State.countPass_runsTo (s : State) (c : Context) : s.RunsTo (s.countPass c) := by
  unfold State.countPass
  split
  · exact .of_pe rfl
  · exact .of_ctx ⟨_, rfl⟩

theorem State.overrunOut_runsTo (s : State) (c : Context) (cause : EngineCause) : s.RunsTo (s.overrunOut c cause) :=
  (s.enterRampOut_runsTo .idle cause).trans (.of_ctx ⟨_, rfl⟩)

/-- The end of a visit and the beginning of the next change the context alone (R78, R91). -/
theorem State.nextVisit_runsTo (s : State) (c : Context) (start : Nat) :
    s.RunsTo ((s.endVisit c).realRun start).beginVisit :=
  .trans (.of_ctx ⟨none, by rw [State.realRun_pe, State.endVisit_pe]⟩) (.of_ctx (State.beginVisit_pe _))

theorem State.newPass_runsTo (s : State) (c : Context) : s.RunsTo ((s.setCtx (some c)).passStart).reloadPoint :=
  .trans (.of_ctx ⟨some c, rfl⟩) (.of_ctx (State.reloadPoint_pe _))

theorem State.passEndPlaying_runsTo (s : State) : s.RunsTo s.passEndPlaying := by
  unfold State.passEndPlaying
  split
  · exact .of_pe rfl
  · next c0 _ =>
    refine .trans (s.countPass_runsTo c0) ?_
    dsimp only
    generalize (if c0.overrun then c0 else { c0 with counted := c0.counted + 1 }) = c
    split
    · split
      · exact State.overrunOut_runsTo _ _ _
      · split
        · exact State.overrunOut_runsTo _ _ _
        · exact State.nextVisit_runsTo _ _ _
    · exact State.newPass_runsTo _ _

theorem State.passEndRampOut_runsTo (s : State) : s.RunsTo s.passEndRampOut := by
  unfold State.passEndRampOut
  split
  · exact .of_pe rfl
  · exact .of_ctx ⟨_, rfl⟩

/-- The end of a ramp-out sets λ to 0 (R89). -/
theorem State.endRampOut_runsTo (s : State) : s.RunsTo s.endRampOut := by
  have hstopped (new : EngineState) (hnew : new ≠ .running) (cause : Option EngineCause) :
      s.RunsTo ((s.setPe { s.pe with target := none, lam := 0 }).enterStopped new cause) := by
    refine .of_zero ?_ ?_ ?_ <;> rw [State.enterStopped_pe]
    · rfl
    · exact hnew
    · rfl
  unfold State.endRampOut
  dsimp only
  split
  · exact hstopped .paused (by nofun) _
  · exact (hstopped .idle (by nofun) _).trans (State.releaseContext_runsTo _)

theorem State.advanceStage_runsTo (s : State) : s.RunsTo s.advanceStage := by
  unfold State.advanceStage
  split
  · exact .of_pe rfl
  · split
    · split
      · split
        · exact s.passEndRampOut_runsTo
        · exact s.passEndPlaying_runsTo
      · exact .of_ctx ⟨_, rfl⟩
    · exact .of_pe rfl

/-! ### The update (R75, R87, R97) -/

theorem Engine.ramped_settings (e : Engine) : e.ramped.settings = e.settings := by
  unfold Engine.ramped
  split <;> rfl

/-- The ramp step moves λ within its bound, and RUNNING is entered with λ full (R75). -/
theorem State.rampStep_runsTo (s : State) : s.RunsTo s.rampStep := by
  have hpe := s.rampStep_pe
  have hset : s.rampStep.pe.settings = s.pe.settings := by rw [hpe, Engine.ramped_settings]
  have hup : rampUp s.pe.lam s.pe.ri ≤ 65536 := min_le_left _ _
  have hdown : rampDown s.pe.lam s.pe.ro ≤ s.pe.lam := Nat.sub_le _ _
  cases h : s.pe.state
  case rampIn =>
    by_cases hfull : rampUp s.pe.lam s.pe.ri = Config.fullRamp
    · exact ⟨hset, fun _ => ⟨by simp [hpe, Engine.ramped, h, hup], fun _ => by simp [hpe, Engine.ramped, h, hfull],
        by simp [hpe, Engine.ramped, h, hfull]⟩⟩
    · exact .of_ramping hset (by simp [hpe, Engine.ramped, h, hfull]) (.inl (by simp [hpe, Engine.ramped, h, hup]))
  case rampOut => exact .of_ramping hset (by simp [hpe, Engine.ramped, h]) (.inr (by simp [hpe, Engine.ramped, h, hdown]))
  all_goals exact .of_same hset (by simp [hpe, Engine.ramped, h]) (by simp [hpe, Engine.ramped, h])

theorem State.stampFirst_runsTo (s : State) : s.RunsTo s.stampFirst := by
  unfold State.stampFirst
  (repeat' split) <;> exact .of_ctx ⟨_, rfl⟩

theorem Engine.cut_ctx_only (e : Engine) : ∃ ctx, e.cut = { e with ctx := ctx } := by
  unfold Engine.cut
  split <;> exact ⟨_, rfl⟩

theorem State.markCompare_runsTo (p : PlayPosition) (s : State) (m : Nat) : s.RunsTo (s.markCompare p m) := by
  have hpe := State.markCompare_pe p s m
  split at hpe
  · obtain ⟨ctx, hcut⟩ := s.pe.cut_ctx_only
    exact .of_ctx ⟨ctx, hpe.trans hcut⟩
  · exact .of_pe hpe

theorem State.markStage_runsTo (s : State) : s.RunsTo s.markStage := by
  unfold State.markStage
  split
  · exact .of_pe rfl
  · exact State.RunsTo.foldl (State.markCompare_runsTo _) _ _

theorem State.dropCaptureDue_runsTo (s : State) : s.RunsTo s.dropCaptureDue := .of_ctx ⟨_, rfl⟩

theorem State.playStage_runsTo (s : State) (results : List (Nat × DriveResult)) : s.RunsTo (s.playStage results) :=
  ((State.RunsTo.foldl State.handOn_runsTo results s).trans (State.markStage_runsTo _)).trans (.of_ctx ⟨_, rfl⟩)

theorem State.playedUpdate_runsTo (s : State) : s.RunsTo s.playedUpdate := by
  have hadvanced : s.RunsTo (s.rampStep.stampFirst.dropCaptureDue.playStage s.rampStep.stampFirst.computeAll).advanceStage :=
    s.rampStep_runsTo.trans ((State.stampFirst_runsTo _).trans
      ((State.dropCaptureDue_runsTo _).trans ((State.playStage_runsTo _ _).trans (State.advanceStage_runsTo _))))
  unfold State.playedUpdate
  dsimp only
  split
  · exact hadvanced.trans (State.endRampOut_runsTo _)
  · exact hadvanced

/-- An update that plays nothing; RETURN, whose λ is 0, ends in IDLE (R97). -/
theorem State.restUpdate_runsTo (s : State) : s.RunsTo s.restUpdate := by
  unfold State.restUpdate
  dsimp only
  split
  · next h =>
    have hrests : s.Rests := fun hp => by simp [h.1, EngineState.playing] at hp
    obtain ⟨d, hd⟩ := State.handOnAll_of_rests hrests s
    rw [hd]
    refine .of_resting ?_ (.inr (.inr (.inr h.1))) ?_ ?_ <;> rw [State.enterStopped_pe]
    · rfl
    · nofun
  · exact State.RunsTo.foldl State.handOn_runsTo _ _

theorem State.engineUpdate_runsTo (s : State) : s.RunsTo s.engineUpdate := by
  unfold State.engineUpdate
  split
  · exact s.playedUpdate_runsTo
  · exact s.restUpdate_runsTo

theorem State.closeWindows_runsTo (s : State) : s.RunsTo s.closeWindows :=
  State.RunsTo.foldl State.closeWindow_runsTo allChannels s

theorem State.portUpdate_runsTo (s : State) (ts : List Trigger) (pos : Option Position) : s.RunsTo (s.portUpdate ts pos) :=
  s.closeWindows_runsTo.trans (.of_pe (by simp [State.portUpdate]))

/-- An update after its counting. -/
theorem State.raiseUpdate_runsTo (s : State) : s.countUpdate.RunsTo s.raiseUpdate :=
  (State.engineUpdate_runsTo _).trans (State.portUpdate_runsTo _ _ _)

/-! ### The requests (R71, R81 to R84, R96) -/

theorem State.replaceEntry_runsTo (s : State) (pos : Nat) (old new : Entry) : s.RunsTo (s.replaceEntry pos old new) := by
  unfold State.replaceEntry
  dsimp only
  (repeat' split) <;> exact .of_ctx ⟨_, rfl⟩

theorem takeModifyEntry_runsTo (entry : Nat) (changes : List FieldChange) (s : State) :
    s.RunsTo (takeModifyEntry entry changes s).1 := by
  unfold takeModifyEntry
  (repeat' split) <;> first | exact .of_pe rfl | exact s.replaceEntry_runsTo _ _ _

theorem takeAppendEntry_pe (a : AppendFields) (s : State) : (takeAppendEntry a s).1.pe = s.pe := by
  unfold takeAppendEntry
  (repeat' split) <;> simp

theorem takeFlushQueue_pe (s : State) : (takeFlushQueue s).1.pe = s.pe := by
  unfold takeFlushQueue
  split
  · rfl
  · exact (foldl_keeps State.pe (fun t e => t.leaveEntry true e) (fun t e => t.leaveEntry_pe true e) _ _).trans rfl

theorem takeAdvanceWatch_pe (s : State) : (takeAdvanceWatch s).1.pe = s.pe := by
  unfold takeAdvanceWatch
  split <;> simp

theorem takeStart_runsTo (s : State) : s.RunsTo (takeStart s).1 := by
  unfold takeStart
  (repeat' split) <;> try exact .of_pe rfl
  obtain ⟨ctx, hpe⟩ := (s.realRun s.sq.cursor).beginVisit_pe
  rw [State.realRun_pe] at hpe
  refine .of_zero ?_ ?_ ?_ <;> rw [accept_fst, State.enterState_pe, State.setPe_pe]
  · rw [hpe]; rfl
  · nofun

theorem takePause_runsTo (s : State) : s.RunsTo (takePause s).1 := by
  unfold takePause
  split
  · exact s.enterRampOut_runsTo _ _
  · exact s.enterRampOut_runsTo _ _
  all_goals exact .of_pe rfl

theorem takeResume_runsTo (s : State) : s.RunsTo (takeResume s).1 := by
  unfold takeResume
  split
  · split
    · exact .of_ramping (by rw [accept_fst, State.enterState_pe]; rfl) (by simp [State.enterState_pe])
        (.inl (by simp [State.enterState_pe]))
    · exact .of_pe rfl
  · exact .of_ramping (by rw [accept_fst, State.enterState_pe]; rfl) (by simp [State.enterState_pe])
      (.inr (by simp [State.enterState_pe]))
  · exact .of_pe rfl

theorem takeStop_runsTo (s : State) : s.RunsTo (takeStop s).1 := by
  unfold takeStop
  split
  · exact s.enterRampOut_runsTo _ _
  · exact s.enterRampOut_runsTo _ _
  · split
    · exact .of_same rfl rfl rfl
    · exact .of_pe rfl
  · next h => exact State.stopPaused_runsTo h .hostStop
  all_goals exact .of_pe rfl

/-- A Clear Trip leaves TRIPPED, whose λ is 0, for RETURN (R96). -/
theorem takeClearTrip_runsTo (s : State) : s.RunsTo (takeClearTrip s).1 := by
  unfold takeClearTrip
  split
  · exact .of_pe rfl
  next htripped =>
  split
  · exact .of_pe rfl
  refine .of_resting ?_ (.inr (.inr (.inl (not_not.mp htripped)))) ?_ ?_ <;>
    rw [accept_fst, State.enterState_pe, State.releaseContext_pe]
  · rfl
  · nofun

/-- Every request keeps the law of λ. -/
theorem takingOf_rampLawful (r : Request) {s : State} (hs : s.RampLawful) : (takingOf r s).1.RampLawful := by
  cases hr : movesPlayback r with
  | false =>
    obtain ⟨-, -, hpe⟩ := State.playback_eq_iff.mp (takingOf_playback hr s)
    exact (State.RunsTo.of_pe hpe).ramp hs
  | true =>
    cases r <;> first | contradiction | skip
    case openClip => exact (State.RunsTo.of_pe (takeOpenClip_sq_pe _ _ _ _ _ s).2).ramp hs
    case clipData => exact (State.RunsTo.of_pe (takeClipData_sq_pe _ _ _ s).2).ramp hs
    case closeClip => exact (State.RunsTo.of_pe (takeCloseClip_sq_pe _ s).2).ramp hs
    case freeClip => exact (State.RunsTo.of_pe (takeFreeClip_sq_pe _ s).2).ramp hs
    case appendEntry => exact (State.RunsTo.of_pe (takeAppendEntry_pe _ s)).ramp hs
    case modifyEntry => exact (takeModifyEntry_runsTo _ _ s).ramp hs
    case flushQueue => exact (State.RunsTo.of_pe (takeFlushQueue_pe s)).ramp hs
    case advanceWatch => exact (State.RunsTo.of_pe (takeAdvanceWatch_pe s)).ramp hs
    case start => exact (takeStart_runsTo s).ramp hs
    case pause => exact (takePause_runsTo s).ramp hs
    case resume => exact (takeResume_runsTo s).ramp hs
    case stop => exact (takeStop_runsTo s).ramp hs
    case clearTrip => exact (takeClearTrip_runsTo s).ramp hs
    case setRamp =>
      simp only [takingOf, takeSetRamp]
      split <;> exact hs.congr (by rfl) (by rfl)
    case setTimebase =>
      simp only [takingOf, takeSetTimebase]
      (repeat' split) <;> exact hs.congr (by rfl) (by rfl)

/-! ### The law of λ -/

theorem State.RampLawful.of_idle {t : State} (hstate : t.pe.state = .idle) (hlam : t.pe.lam = 0) : t.RampLawful :=
  ⟨by omega, by simp [hstate], fun _ => hlam⟩

/-- Every operation of the part keeps the law of λ. -/
theorem rampLawful_keptByOperations : KeptByOperations State.RampLawful where
  line _ _ _ _ hs := hs.congr (by rfl) (by rfl)
  taking r _ := takingOf_rampLawful r
  warmReset _ _ _ := State.RampLawful.of_idle (by rfl) (by rfl)
  fullReset _ _ _ := State.RampLawful.of_idle (by rfl) (by rfl)
  update s hs := s.raiseUpdate_runsTo.ramp (hs.congr (by rfl) (by rfl))
  sourceInternal _ hs := hs.congr (by rfl) (by rfl)
  action s a cause ch := (s.applyAction_runsTo a cause ch).ramp
  record _ _ _ _ _ := (State.RunsTo.of_pe (by simp)).ramp
  rampIn s _ := s.rampStep_runsTo.ramp
  rampOut s _ _ := (s.rampStep_runsTo.trans (State.endRampOut_runsTo _)).ramp
  passEnd s _ _ := s.passEndPlaying_runsTo.ramp
  passEndRampOut s _ _ := s.passEndRampOut_runsTo.ramp
  response s ch w f sp st _ _ := (s.takeResponse_runsTo ch w f sp st).ramp
  envelope s ch f stamp := (s.evalEnvelope_runsTo ch f stamp).ramp
  tracking s ch f stamp := (s.evalTracking_runsTo ch f stamp).ramp
  clampRate s ch := (s.evalClamp_runsTo ch).ramp
  window s ch := (s.closeWindow_runsTo ch).ramp
  rigReady _ _ hs := hs.congr (by rfl) (by rfl)
  markEdge _ _ _ _ := (State.RunsTo.of_pe (by simp)).ramp
  verified _ _ _ _ _ _ := (State.RunsTo.of_pe (by simp)).ramp

/-- Settles O56: each operation keeps the law of λ, so every step does. -/
theorem stepKeepsRampLaw : Obligations.StepKeepsRampLaw :=
  fun _ _ hs h => rampLawful_keptByOperations.of_step hs h

end Sys2Proof.Machine
end

section
/-! The requests that move the engine without a Start, and those that set it up: Pause, Stop, Resume, Set Ramp, Set Timebase, and the
two that release the context (R76, R82 to R84, R90, R96, R99). -/

namespace Sys2Proof.Machine

open Sys2Proof

/-! ### Pause, Stop and Resume -/

/-- A request that is answered with the engine's state after it (R82, R84). -/
theorem exec_of_acceptState {c : Instr} {tag : Nat} {r : Request} {s t : State} {st : EngineState}
    (h : c.asRequest = some (tag, r)) (hr : r ≠ .resetPart) (hfree : s.repliesHeld < 2)
    (ht : takingOf r s = acceptState t) (hstate : t.pe.state = st) :
    exec c s = .next (t.answered (requestCode r) tag .ok (beBytes 1 st.code)) :=
  hstate ▸ exec_of_taking h hr hfree ht

section
variable {s : State} (tag : Nat) (hfree : s.repliesHeld < 2)
include hfree

theorem exec_pause_of_playing (h : s.pe.state = .rampIn ∨ s.pe.state = .running) :
    exec (.pause tag) s = .next ((s.enterRampOut .paused .hostPause).answered 0x31 tag .ok [3]) := by
  refine exec_of_acceptState (c := .pause tag) rfl nofun hfree ?_ (st := .rampOut) (by rw [State.enterRampOut_pe])
  rcases h with h | h <;> simp only [takingOf, takePause, h]

theorem exec_pause_of_stopping {st : EngineState} (h : s.pe.state = st) (hst : st = .rampOut ∨ st = .paused) :
    exec (.pause tag) s = .next (s.answered 0x31 tag .ok (beBytes 1 st.code)) := by
  refine exec_of_acceptState (c := .pause tag) rfl nofun hfree ?_ h
  rcases hst with rfl | rfl <;> simp only [takingOf, takePause, h]

theorem exec_pause_refused (h : s.pe.state = .idle ∨ s.pe.state = .tripped ∨ s.pe.state = .returning) :
    exec (.pause tag) s = .next (s.answered 0x31 tag .wrongState []) := by
  refine exec_of_taking (c := .pause tag) (reply := { status := .wrongState, fields := [] }) rfl nofun hfree ?_
  rcases h with h | h | h <;> simp only [takingOf, takePause, h] <;> rfl

theorem exec_stop_of_playing (h : s.pe.state = .rampIn ∨ s.pe.state = .running) :
    exec (.stop tag) s = .next ((s.enterRampOut .idle .hostStop).answered 0x33 tag .ok [3]) := by
  refine exec_of_acceptState (c := .stop tag) rfl nofun hfree ?_ (st := .rampOut) (by rw [State.enterRampOut_pe])
  rcases h with h | h <;> simp only [takingOf, takeStop, h]

/-- A Stop turns a ramp-out toward PAUSED to IDLE, and leaves one toward IDLE as it is (R84). -/
theorem exec_stop_of_rampOut (h : s.pe.state = .rampOut) :
    exec (.stop tag) s
      = .next (if s.pe.target = some .paused then
          State.answered { s with pe := { s.pe with target := some .idle, stopCause := some .hostStop } } 0x33 tag .ok [3]
        else s.answered 0x33 tag .ok [3]) := by
  split
  · next htarget =>
    refine exec_of_acceptState (c := .stop tag) rfl nofun hfree ?_ (st := .rampOut) (by exact h)
    simp only [takingOf, takeStop, h, htarget, if_true]
    rfl
  · next htarget =>
    refine exec_of_acceptState (c := .stop tag) rfl nofun hfree ?_ h
    simp only [takingOf, takeStop, h, if_neg htarget]

theorem exec_stop_of_idle (h : s.pe.state = .idle) : exec (.stop tag) s = .next (s.answered 0x33 tag .ok [0]) :=
  exec_of_acceptState (c := .stop tag) rfl nofun hfree (by simp only [takingOf, takeStop, h]) h

theorem exec_stop_refused (h : s.pe.state = .tripped ∨ s.pe.state = .returning) :
    exec (.stop tag) s = .next (s.answered 0x33 tag .wrongState []) := by
  refine exec_of_taking (c := .stop tag) (reply := { status := .wrongState, fields := [] }) rfl nofun hfree ?_
  rcases h with h | h <;> simp only [takingOf, takeStop, h] <;> rfl

/-- A Resume turns a ramp-out toward PAUSED back, and is refused toward IDLE (R83). -/
theorem exec_resume_of_rampOut (h : s.pe.state = .rampOut) :
    exec (.resume tag) s
      = .next (if s.pe.target = some .paused then
          State.answered
            (State.raise { s with pe := { s.pe with state := .rampIn, target := none, stopCause := none } }
              .engine (some (.engine .rampOut .rampIn none))) 0x32 tag .ok []
        else s.answered 0x32 tag .wrongState []) := by
  cases htarget : s.pe.target with
  | none =>
    exact exec_of_taking (c := .resume tag) rfl nofun hfree (by simp only [takingOf, takeResume, h, htarget]; rfl)
  | some target =>
    cases target with
    | idle => exact exec_of_taking (c := .resume tag) rfl nofun hfree (by simp only [takingOf, takeResume, h, htarget]; rfl)
    | paused =>
      have htaken : takingOf .resume s
          = accept ((s.setPe { s.pe with target := none, stopCause := none }).enterState .rampIn none) [] := by
        simp only [takingOf, takeResume, h, htarget]
      rw [← h]
      exact exec_of_taking (c := .resume tag) rfl nofun hfree htaken

theorem exec_resume_of_paused (h : s.pe.state = .paused) :
    exec (.resume tag) s
      = .next (if s.contextEngaged then
          State.answered
            (State.raise { s with pe := { s.pe with state := .rampIn, lam := 0, stopCause := none } }
              .engine (some (.engine .paused .rampIn none))) 0x32 tag .ok []
        else s.answered 0x32 tag .channelNotEngaged []) := by
  have htaken : takingOf .resume s
      = if s.contextEngaged then
          accept ((s.setPe { s.pe with lam := 0, stopCause := none }).enterState .rampIn none) []
        else refuse s .channelNotEngaged := by simp only [takingOf, takeResume, h]
  split at htaken
  · next hall =>
    rw [if_pos hall, ← h]
    exact exec_of_taking (c := .resume tag) rfl nofun hfree htaken
  · next hnot =>
    rw [if_neg hnot]
    exact exec_of_taking (c := .resume tag) rfl nofun hfree htaken

theorem exec_resume_refused (h : s.pe.state ≠ .paused) (h' : s.pe.state ≠ .rampOut) :
    exec (.resume tag) s = .next (s.answered 0x32 tag .wrongState []) := by
  refine exec_of_taking (c := .resume tag) (reply := { status := .wrongState, fields := [] }) rfl nofun hfree ?_
  simp only [takingOf, takeResume]
  split
  · next hpaused => exact absurd hpaused h
  · next hout _ => exact absurd hout h'
  · rfl

end

/-- Settles O19: each request by the engine's state. -/
theorem pauseStopResumeResult : Obligations.PauseStopResumeResult := by
  intro tag s hfree
  refine ⟨fun h => ⟨?_, ?_, ?_⟩, fun h => ⟨?_, exec_stop_of_rampOut tag hfree h, exec_resume_of_rampOut tag hfree h⟩,
    fun h => ⟨?_, fun hall => ?_, fun hnot => ?_⟩, fun h => ⟨exec_stop_of_idle tag hfree h, ?_, ?_⟩,
    fun h => ⟨exec_stop_refused tag hfree h, ?_, ?_⟩⟩
  · exact exec_pause_of_playing tag hfree h
  · exact exec_stop_of_playing tag hfree h
  · refine exec_resume_refused tag hfree ?_ ?_ <;> rcases h with h | h <;> simp [h]
  · exact exec_pause_of_stopping tag hfree h (.inl rfl)
  · exact exec_pause_of_stopping tag hfree h (.inr rfl)
  · have hengaged : s.contextEngaged = true := by simpa [State.contextEngaged] using hall
    rw [exec_resume_of_paused tag hfree h, if_pos hengaged]
  · have hengaged : ¬ s.contextEngaged = true := by simpa [State.contextEngaged] using hnot
    rw [exec_resume_of_paused tag hfree h, if_neg hengaged]
  · exact exec_pause_refused tag hfree (.inl h)
  · exact exec_resume_refused tag hfree (by simp [h]) (by simp [h])
  · exact exec_pause_refused tag hfree (.inr h)
  · refine exec_resume_refused tag hfree ?_ ?_ <;> rcases h with h | h <;> simp [h]

/-! ### Set Ramp and Set Timebase -/

/-- The part's judgement of a rate (R99). -/
abbrev rateAdmitted (rate : Nat) : Prop := rate = 512 ∨ rate = 1024 ∨ rate = 2048 ∨ rate = 4096

theorem anyEngaged_iff (s : State) :
    (allChannels.any fun ch => (s.port ch).state == .engaged) = true ↔ ∃ ch, ch < 16 ∧ (s.port ch).state = .engaged := by
  simp [allChannels]

/-- A Set Timebase that passes its checks (R99). -/
theorem takeSetTimebase_of_accepted {s : State} {rate source : Nat} {src : TimebaseSource} (hrate : rateAdmitted rate)
    (hsource : readSource source = some src) (hrest : ∀ ch, ch < 16 → (s.port ch).state ≠ .engaged) :
    takeSetTimebase rate source s = accept (s.setPe { s.pe with rate := rate, source := src, syncWatchFrom := s.clock }) [] := by
  have hnone : ¬ (allChannels.any fun ch => (s.port ch).state == .engaged) = true := by
    rw [anyEngaged_iff]
    rintro ⟨ch, hch, h⟩
    exact hrest ch hch h
  simp only [takeSetTimebase, hsource]
  rw [if_neg (not_not.mpr hrate), if_neg hnone]

theorem takeSetTimebase_of_invalid (s : State) {rate source : Nat} (h : ¬ rateAdmitted rate ∨ readSource source = none) :
    takeSetTimebase rate source s = refuse s .invalidValue := by
  cases hsource : readSource source with
  | none => simp only [takeSetTimebase, hsource]
  | some src =>
    simp only [takeSetTimebase, hsource]
    exact if_pos (h.resolve_right (by rw [hsource]; nofun))

theorem takeSetTimebase_of_engaged {s : State} {rate source ch : Nat} {src : TimebaseSource} (hrate : rateAdmitted rate)
    (hsource : readSource source = some src) (hch : ch < 16) (hengaged : (s.port ch).state = .engaged) :
    takeSetTimebase rate source s = refuse s .wrongState := by
  simp only [takeSetTimebase, hsource]
  rw [if_neg (not_not.mpr hrate), if_pos ((anyEngaged_iff s).mpr ⟨ch, hch, hengaged⟩)]

/-- Settles O21: the checks of each request, in their order, and what a request that passes them sets. -/
theorem engineSettingsResult : Obligations.EngineSettingsResult := by
  intro tag s hfree
  refine ⟨fun ri ro hri hro => ?ramp, fun ri ro hzero => ?zero, fun rate hrate hrest => ⟨?internal, ?external⟩,
    fun rate source hbad => ?invalid, fun rate source ch hrate hsource hch hengaged => ?engaged⟩
  case ramp =>
    exact exec_of_taking (c := .setRamp tag ri ro) rfl nofun hfree (if_neg (by omega))
  case zero => exact exec_of_taking (c := .setRamp tag ri ro) rfl nofun hfree (if_pos hzero)
  case internal =>
    exact exec_of_taking (c := .setTimebase tag rate 0) rfl nofun hfree
      (takeSetTimebase_of_accepted (source := 0) (src := .internal) hrate (by rfl) hrest)
  case external =>
    exact exec_of_taking (c := .setTimebase tag rate 1) rfl nofun hfree
      (takeSetTimebase_of_accepted (source := 1) (src := .externalSync) hrate (by rfl) hrest)
  case invalid =>
    have hsource : 1 < source → readSource source = none := fun h => match source, h with
      | _ + 2, _ => rfl
    exact exec_of_taking (c := .setTimebase tag rate source) rfl nofun hfree
      (takeSetTimebase_of_invalid s (hbad.imp_right hsource))
  case engaged =>
    obtain ⟨src, hsrc⟩ : ∃ src, readSource source = some src := by interval_cases source <;> exact ⟨_, rfl⟩
    exact exec_of_taking (c := .setTimebase tag rate source) rfl nofun hfree
      (takeSetTimebase_of_engaged hrate hsrc hch hengaged)

/-! ### The releasing requests (R84, R90, R96) -/

@[simp] theorem State.answered_cs (s : State) (code tag : Nat) (st : Status) (fields : List Byte) :
    (s.answered code tag st fields).cs = s.cs := State.placeFrame_cs _ _
@[simp] theorem State.answered_sq (s : State) (code tag : Nat) (st : Status) (fields : List Byte) :
    (s.answered code tag st fields).sq = s.sq := State.placeFrame_sq _ _
@[simp] theorem State.answered_pe (s : State) (code tag : Nat) (st : Status) (fields : List Byte) :
    (s.answered code tag st fields).pe = s.pe := State.placeFrame_pe _ _
@[simp] theorem State.answered_dcu (s : State) (code tag : Nat) (st : Status) (fields : List Byte) :
    (s.answered code tag st fields).dcu = s.dcu := State.placeFrame_dcu _ _
@[simp] theorem State.answered_cpc (s : State) (code tag : Nat) (st : Status) (fields : List Byte) :
    (s.answered code tag st fields).cpc = s.cpc := State.placeFrame_cpc _ _
@[simp] theorem State.answered_lm (s : State) (code tag : Nat) (st : Status) (fields : List Byte) :
    (s.answered code tag st fields).lm = s.lm := State.placeFrame_lm _ _
@[simp] theorem State.answered_mu (s : State) (code tag : Nat) (st : Status) (fields : List Byte) :
    (s.answered code tag st fields).mu = s.mu := State.placeFrame_mu _ _
@[simp] theorem State.answered_rcu (s : State) (code tag : Nat) (st : Status) (fields : List Byte) :
    (s.answered code tag st fields).rcu = s.rcu := State.placeFrame_rcu _ _
@[simp] theorem State.answered_eu (s : State) (code tag : Nat) (st : Status) (fields : List Byte) :
    (s.answered code tag st fields).eu = s.eu := State.placeFrame_eu _ _
@[simp] theorem State.answered_clock (s : State) (code tag : Nat) (st : Status) (fields : List Byte) :
    (s.answered code tag st fields).clock = s.clock := State.placeFrame_clock _ _
@[simp] theorem State.answered_pending (s : State) (code tag : Nat) (st : Status) (fields : List Byte) :
    (s.answered code tag st fields).pending = s.pending := State.placeFrame_pending _ _

@[simp] theorem State.answered_clip (s : State) (code tag : Nat) (st : Status) (fields : List Byte) (id : Nat) :
    (s.answered code tag st fields).clip id = s.clip id := State.clip_congr id (State.answered_cs ..)

@[simp] theorem State.answered_cause (s : State) (code tag : Nat) (st : Status) (fields : List Byte) (c : Cause) :
    (s.answered code tag st fields).cause c = s.cause c := State.cause_congr c (State.answered_eu ..)

/-- The engine stopped by a Stop in PAUSED, before the release. -/
def State.stopped (s : State) : State :=
  (s.setPe { s.pe with stopCause := some .hostStop }).enterStopped .idle (some .hostStop)

theorem State.stopped_pe (s : State) : s.stopped.pe = { s.pe with state := .idle, stopCause := some .hostStop } :=
  State.enterStopped_pe _ _ _

theorem State.stopped_sq (s : State) : s.stopped.sq = { s.sq with watch := false } := by
  rw [State.stopped, State.enterStopped, State.fireWatch_sq, State.enterState_sq]
  rfl

theorem exec_stop_of_paused {s : State} (tag : Nat) (hfree : s.repliesHeld < 2) (h : s.pe.state = .paused) :
    exec (.stop tag) s = .next (s.stopped.releaseContext.answered 0x33 tag .ok [0]) := by
  refine exec_of_acceptState (c := .stop tag) rfl nofun hfree ?_ (st := .idle)
    (by rw [State.releaseContext_pe, State.stopped_pe])
  simp only [takingOf, takeStop, State.stopped, h]

theorem exec_clearTrip_of_ready {s : State} (tag : Nat) (hfree : s.repliesHeld < 2) (h : s.pe.state = .tripped)
    (hready : s.cpc.rigReady = true) :
    exec (.clearTrip tag) s = .next ((s.releaseContext.enterState .returning none).answered 0x34 tag .ok []) := by
  refine exec_of_taking (c := .clearTrip tag) (reply := { status := .ok, fields := [] }) rfl nofun hfree ?_
  simp only [takingOf, takeClearTrip, h, hready, ne_eq, not_true_eq_false, if_false]
  rfl

/-- Settles O20: both requests release the context, told by the queue and the clips it leaves. -/
theorem releasingRequestsResult : Obligations.ReleasingRequestsResult := by
  intro tag s hfree
  refine ⟨fun h => ⟨_, exec_stop_of_paused tag hfree h, ?stopPe, fun c e hc he => ?stopRelease, ?stopDetail, ?_⟩,
    fun h hready => ⟨_, exec_clearTrip_of_ready tag hfree h hready, ?tripPe, fun c e hc he => ?tripRelease, fun hc => ?tripNone,
      ?tripDetail, ?_⟩, fun h hready => ?notReady, fun h => ?wrongState⟩
  case stopPe => rw [State.answered_pe, State.releaseContext_pe, State.stopped_pe]
  case stopRelease =>
    have hctx : s.stopped.pe.ctx = some c := by rw [State.stopped_pe]; exact hc
    have hentry : s.stopped.cursorEntry = some e := by rw [State.cursorEntry, State.stopped_sq]; exact he
    refine ⟨?_, fun id _ => ?_⟩
    · rw [State.answered_sq, State.releaseContext_sq hctx hentry, State.queueReleased_of_watch s.stopped_sq]
    · rw [State.answered_clip, State.answered_sq, State.releaseContext_clip hctx]
      exact State.clipReleased_congr (by simp [State.stopped]) (hctx.trans hc.symm) (by rw [State.stopped_sq]) _ id
  case stopDetail =>
    rw [State.answered_cause, State.releaseContext_cause_other _ (by decide), State.stopped, State.enterStopped_engine_detail,
      State.setPe_pe, h]
  case tripPe => rw [State.answered_pe, State.enterState_pe, State.releaseContext_pe]
  case tripRelease =>
    refine ⟨?_, fun id _ => ?_⟩
    · rw [State.answered_sq, State.enterState_sq, State.releaseContext_sq hc he]
    · rw [State.answered_clip, State.answered_sq, State.enterState_sq, State.clip_congr id (State.enterState_cs ..),
        State.releaseContext_clip hc]
  case tripNone => simp [State.releaseContext_of_none hc]
  case tripDetail =>
    rw [State.answered_cause, State.enterState, State.raise_cause_same, State.releaseContext_pe, h]
  case notReady =>
    refine exec_of_taking (c := .clearTrip tag) (reply := { status := .notReady, fields := [] }) rfl nofun hfree ?_
    simp only [takingOf, takeClearTrip, h, hready, ne_eq, not_true_eq_false, if_false]
    rfl
  case wrongState =>
    exact exec_of_taking (c := .clearTrip tag) rfl nofun hfree (if_pos h)
  all_goals simp [State.stopped]

end Sys2Proof.Machine
end

section
/-! A real run of the advance routine: where it stands, what it retires, and that runtime parts do not steer it (R51 to R54, R57
to R60). -/

namespace Sys2Proof.Machine

open Sys2Proof

/-! ### The advance routine does not read runtime parts (R51 to R53) -/

/-- An entry without the history of its runtime part. -/
def Entry.plain (e : Entry) : Entry := e.mapRuntime fun _ => Runtime.fresh

theorem Entry.plain_mapRuntime (e : Entry) (f : Runtime → Runtime) : (e.mapRuntime f).plain = e.plain := by
  obtain ⟨tag, body⟩ := e
  cases body <;> rfl

theorem Entry.playable_plain (e : Entry) : e.plain.playable = e.playable := by
  obtain ⟨tag, body⟩ := e
  cases body <;> rfl

theorem findTag_plain (es : List Entry) (tag : Nat) : findTag (es.map Entry.plain) tag = findTag es tag := by
  rw [findTag_eq, findTag_eq, List.map_map]
  exact congrArg (fun tags : List Nat => tags.idxOf? tag) (List.map_congr_left fun e _ => e.tag_mapRuntime _)

theorem bodyPlayable_plain (es : List Entry) (opener closer : Nat) :
    bodyPlayable (es.map Entry.plain) opener closer = bodyPlayable es opener closer := by
  rw [bodyPlayable, ← List.map_drop, ← List.map_take, List.any_map]
  exact congrArg (List.any _) (funext Entry.playable_plain)

theorem scan_plain (es : List Entry) : ∀ (fuel cursor : Nat) (stack : List LoopFrame),
    scan (es.map Entry.plain) fuel cursor stack = scan es fuel cursor stack
  | 0, _, _ => rfl
  | fuel + 1, cursor, stack => by
    unfold scan
    rw [List.getElem?_map]
    cases es[cursor]? with
    | none => rfl
    | some e =>
      obtain ⟨tag, body⟩ := e
      simp only [Option.map_some, Entry.playable_plain, findTag_plain, bodyPlayable_plain, scan_plain es fuel]
      cases body <;> rfl

/-- Queues whose entries differ in their runtime parts alone. -/
def SamePlan (es es' : List Entry) : Prop := es'.map Entry.plain = es.map Entry.plain

theorem SamePlan.trans {es es' es'' : List Entry} (h : SamePlan es es') (h' : SamePlan es' es'') : SamePlan es es'' :=
  Eq.trans h' h

theorem SamePlan.length {es es' : List Entry} (h : SamePlan es es') : es'.length = es.length := by
  simpa using congrArg List.length h

theorem SamePlan.getElem? {es es' : List Entry} (h : SamePlan es es') (i : Nat) :
    es'[i]?.map Entry.plain = es[i]?.map Entry.plain := by
  rw [← List.getElem?_map, ← List.getElem?_map, h]

theorem samePlan_modify (es : List Entry) (pos : Nat) (f : Runtime → Runtime) :
    SamePlan es (es.modify pos fun e => e.mapRuntime f) := by
  refine List.ext_getElem? fun i => ?_
  rw [List.getElem?_map, List.getElem?_map, List.getElem?_modify]
  cases es[i]? with
  | none => rfl
  | some e =>
    by_cases hi : pos = i
    · simp [hi, Entry.plain_mapRuntime]
    · simp [hi]

theorem SamePlan.clipOf {es es' : List Entry} (h : SamePlan es es') : es'.map Entry.clipOf = es.map Entry.clipOf := by
  have hplain : ∀ l : List Entry, l.map Entry.clipOf = (l.map Entry.plain).map Entry.clipOf := fun l => by
    rw [List.map_map]
    refine List.map_congr_left fun e _ => ?_
    obtain ⟨tag, body⟩ := e
    cases body <;> rfl
  rw [hplain es', hplain es, h]

theorem scan_of_samePlan {es es' : List Entry} (h : SamePlan es es') (fuel cursor : Nat) (stack : List LoopFrame) :
    scan es' fuel cursor stack = scan es fuel cursor stack := by
  rw [← scan_plain es', ← scan_plain es, h]

theorem State.advanceFrom_of_samePlan {s t : State} (h : SamePlan s.sq.entries t.sq.entries)
    (hstack : t.sq.stack = s.sq.stack) (start : Nat) : t.advanceFrom start = s.advanceFrom start := by
  rw [State.advanceFrom, State.advanceFrom, scan_of_samePlan h, hstack, advanceFuel, advanceFuel, h.length]

theorem State.lookahead_of_samePlan {s t : State} (h : SamePlan s.sq.entries t.sq.entries)
    (hstack : t.sq.stack = s.sq.stack) (start : Nat) :
    (t.lookahead start).map Entry.plain = (s.lookahead start).map Entry.plain := by
  rw [State.lookahead, State.lookahead, State.advanceFrom_of_samePlan h hstack]
  exact h.getElem? _

/-- The segment start check reads an entry's clip, and of the part the clips and the ports (R80). -/
theorem State.startCheck_of_plain {s t : State} {e e' : Entry} (h : e'.plain = e.plain) (hcs : t.cs = s.cs)
    (hcpc : t.cpc = s.cpc) : t.startCheck e' = s.startCheck e := by
  have hport : ∀ ch, t.port ch = s.port ch := fun ch => State.port_congr ch hcpc
  have hclip : ∀ id, t.clip id = s.clip id := fun id => State.clip_congr id hcs
  obtain ⟨tag, body⟩ := e
  obtain ⟨tag', body'⟩ := e'
  cases body <;> cases body' <;> cases h <;> simp only [State.startCheck, hport, hclip]

/-! ### Where a run stands (R51, R54) -/

theorem findTag_lt {es : List Entry} {tag p : Nat} (h : findTag es tag = some p) : p < es.length := by
  obtain ⟨hp, -⟩ := List.findIdx?_eq_some_iff_findIdx_eq.mp h
  exact hp

/-- A run stays in the queue. -/
theorem scan_le_length (es : List Entry) : ∀ (fuel cursor : Nat) (stack : List LoopFrame), cursor ≤ es.length →
    (scan es fuel cursor stack).1 ≤ es.length
  | 0, _, _, h => h
  | fuel + 1, cursor, stack, h => by
    unfold scan
    cases he : es[cursor]? with
    | none => exact h
    | some e =>
      have hin : cursor + 1 ≤ es.length := (List.getElem?_eq_some_iff.mp he).1
      dsimp only
      split
      · exact h
      cases e.body with
      | play => exact scan_le_length es fuel _ _ hin
      | dwell => exact scan_le_length es fuel _ _ hin
      | loopOpen count => exact scan_le_length es fuel _ _ hin
      | loopClose =>
        cases stack with
        | nil => exact scan_le_length es fuel _ _ hin
        | cons frame rest =>
          dsimp only
          split
          · exact scan_le_length es fuel _ _ hin
          · next opener hopener =>
            split
            · exact scan_le_length es fuel _ _ (findTag_lt hopener)
            · exact scan_le_length es fuel _ _ hin

/-- The number of entries that a real run from `start` retires (R57). -/
def State.runRetires (s : State) (start : Nat) : Nat :=
  match (s.advanceFrom start).2.getLast? with
  | none => (s.advanceFrom start).1
  | some outermost => (findTag s.sq.entries outermost.tag).getD 0

/-- The queue as a real run has moved its cursor and its loop stack, before it retires. -/
def State.runMoved (s : State) (start : Nat) : State :=
  s.setSq { s.sq with cursor := (s.advanceFrom start).1, stack := (s.advanceFrom start).2 }

theorem State.realRun_eq (s : State) (start : Nat) : s.realRun start = (s.runMoved start).retire (s.runRetires start) := rfl

theorem State.runRetires_le_length {s : State} {start : Nat} (h : start ≤ s.sq.entries.length) :
    s.runRetires start ≤ s.sq.entries.length := by
  unfold State.runRetires
  split
  · exact scan_le_length _ _ _ _ h
  · next frame _ =>
    cases hfound : findTag s.sq.entries frame.tag with
    | none => exact Nat.zero_le _
    | some p => exact (findTag_lt hfound).le

/-- In a lawful schedule the open loops, and so all that stays, reach back no farther than the retired entries (R50, R57). -/
theorem State.runRetires_le_cursor {s : State} (hs : s.agenda.Scheduled) {start : Nat} (hge : s.sq.cursor ≤ start)
    (hle : start ≤ s.sq.entries.length) : s.runRetires start ≤ (s.advanceFrom start).1 := by
  obtain ⟨-, hopen⟩ := scan_framesOpen hs.tags_distinct (advanceFuel s.sq.entries) hle (hs.frames.mono hge)
  exact ((s.runMoved start).retireCount_eq.trans_le hopen.from_outermost.le)

/-- What the queue keeps of a retirement beside entries, ring and cursor. -/
theorem State.leaveEntry_cursor (s : State) (flushed : Bool) (e : Entry) :
    (s.leaveEntry flushed e).sq.cursor = s.sq.cursor :=
  (congrArg SegmentQueue.cursor (s.leaveEntry_unrecorded flushed e) :)

/-- Retirement leaves the stack, the tail depth and the watch; the cursor falls with the entries, as long as there are any. -/
theorem State.retire_places : ∀ (n : Nat) (s : State), n ≤ s.sq.entries.length →
    (s.retire n).sq.cursor = s.sq.cursor - n ∧ (s.retire n).sq.stack = s.sq.stack
      ∧ (s.retire n).sq.tailDepth = s.sq.tailDepth ∧ (s.retire n).sq.watch = s.sq.watch
  | 0, _, _ => ⟨rfl, rfl, rfl, rfl⟩
  | n + 1, s, hn => by
    cases he : s.sq.entries with
    | nil => rw [he] at hn; cases hn
    | cons e rest =>
      rw [he, List.length_cons] at hn
      rw [State.retire_of_cons he]
      generalize hu : s.setSq { s.sq with entries := rest, cursor := s.sq.cursor - 1 } = u
      have hkept := u.leaveEntry_unrecorded false e
      have hrest : (u.leaveEntry false e).sq.entries = rest := by rw [State.leaveEntry_entries, ← hu]; rfl
      obtain ⟨hcursor, hstack, htail, hwatch⟩ := State.retire_places n (u.leaveEntry false e) (by rw [hrest]; omega)
      refine ⟨?_, hstack.trans ?_, htail.trans ?_, hwatch.trans ?_⟩
      · rw [hcursor, State.leaveEntry_cursor, ← hu, Nat.add_comm, ← Nat.sub_sub]; rfl
      · exact (congrArg SegmentQueue.stack hkept).trans (hu ▸ rfl)
      · exact (congrArg SegmentQueue.tailDepth hkept).trans (hu ▸ rfl)
      · exact (congrArg SegmentQueue.watch hkept).trans (hu ▸ rfl)

/-- The queue after a real run: the retired entries gone, the cursor back by their number (R51, R57). -/
theorem State.realRun_places (s : State) {start : Nat} (h : start ≤ s.sq.entries.length) :
    (s.realRun start).sq.entries = s.sq.entries.drop (s.runRetires start)
      ∧ (s.realRun start).sq.cursor = (s.advanceFrom start).1 - s.runRetires start
      ∧ (s.realRun start).sq.stack = (s.advanceFrom start).2 ∧ (s.realRun start).sq.tailDepth = s.sq.tailDepth
      ∧ (s.realRun start).sq.watch = s.sq.watch := by
  rw [State.realRun_eq]
  exact ⟨State.retire_entries _ _, State.retire_places _ (s.runMoved start) (State.runRetires_le_length h)⟩

/-- A real run in a lawful schedule stands on the entry that a lookahead run names (R54). -/
theorem State.realRun_cursorEntry {s : State} (hs : s.agenda.Scheduled) {start : Nat} (hge : s.sq.cursor ≤ start)
    (hle : start ≤ s.sq.entries.length) : (s.realRun start).cursorEntry = s.lookahead start := by
  obtain ⟨hentries, hcursor, -⟩ := s.realRun_places hle
  rw [State.cursorEntry, hentries, hcursor, List.getElem?_drop, Nat.add_sub_cancel' (State.runRetires_le_cursor hs hge hle)]
  rfl

/-! ### What a run retires (R57 to R60) -/

/-- What leaving does is the same whatever the entries and the cursor are. -/
theorem State.Leaves.of_setSq {s t : State} {q : SegmentQueue} {flushed : Bool} {es : List Entry}
    (hring : q.doneRing = s.sq.doneRing) (hnext : q.nextSeq = s.sq.nextSeq) (h : (s.setSq q).Leaves flushed es t) :
    s.Leaves flushed es t where
  ring := by rw [← hring, ← hnext]; exact h.ring
  next := by rw [← hnext]; exact h.next
  refs := h.refs
  segment := by rw [← hnext]; exact h.segment
  causes := h.causes
  line := by
    rw [← hnext, ← State.placeNotice_sli_congr (s := s) (t := s.setSq q) rfl]
    exact h.line
  store := h.store
  others := h.others

theorem State.retire_leaves : ∀ (n : Nat) {s : State}, s.sq.nextSeq < 4294967296 → s.sq.doneRing.length ≤ 32 →
    s.Leaves false (s.sq.entries.take n) (s.retire n)
  | 0, _, hnext, hring => State.leaves_nil false hnext hring
  | n + 1, s, hnext, hring => by
    cases he : s.sq.entries with
    | nil => rw [State.retire_of_nil he]; exact State.leaves_nil false hnext hring
    | cons e rest =>
      rw [State.retire_of_cons he, List.take_succ_cons]
      generalize hq : ({ s.sq with entries := rest, cursor := s.sq.cursor - 1 } : SegmentQueue) = q
      have hqring : q.doneRing = s.sq.doneRing := by rw [← hq]
      have hqnext : q.nextSeq = s.sq.nextSeq := by rw [← hq]
      have hrest := State.retire_leaves n (s := (s.setSq q).leaveEntry false e)
      have hentries : ((s.setSq q).leaveEntry false e).sq.entries = rest := by rw [State.leaveEntry_entries, ← hq]; rfl
      rw [hentries, State.leaveEntry_sq, State.setSq_sq] at hrest
      refine .of_setSq hqring hqnext ?_
      cases hrecord : e.doneRecord false q.nextSeq with
      | none =>
        rw [hrecord] at hrest
        exact .cons_of_none (Entry.doneRecord_eq_none_iff.1 hrecord) (hrest (hqnext ▸ hnext) (hqring ▸ hring))
      | some record =>
        rw [hrecord] at hrest
        obtain ⟨r, hr, -⟩ := Option.map_eq_some_iff.1 hrecord
        exact .cons_of_some hr (hqnext ▸ hnext) (hqring ▸ hring)
          (hrest (Nat.mod_lt _ (by decide)) (pushDone_length_le (hqring ▸ hring) record))

theorem State.realRun_leaves {s : State} (hnext : s.sq.nextSeq < 4294967296) (hring : s.sq.doneRing.length ≤ 32)
    (start : Nat) : s.Leaves false (s.sq.entries.take (s.runRetires start)) (s.realRun start) := by
  rw [State.realRun_eq]
  exact .of_setSq (by rfl) (by rfl) (State.retire_leaves (s := s.runMoved start) _ hnext hring)

end Sys2Proof.Machine
end

section
/-! The beginning of a visit and its reload point, and Start: the checks, the visit it begins and the entries it retires (R22, R72,
R78 to R81, R103, R130). -/

namespace Sys2Proof.Machine

open Sys2Proof

/-! ### Reload points (R22, R72, R79, R130) -/

theorem State.reloadPoint_of_play {s : State} {c : Context} {p : PlayContext} {tag : Nat} {f : PlayFields} {r : Runtime}
    (hc : s.pe.ctx = some c) (hb : c.body = .play p) (he : s.cursorEntry = some { tag := tag, body := .play f r }) :
    s.reloadPoint
      = ((s.setCtx (some { c with body := .play { p with gainSet := f.gainSet } })).latchPending f.gainSet).fireWatch := by
  simp only [State.reloadPoint, hc, he, hb]

theorem State.reloadPoint_of_dwell {s : State} {c : Context} {elapsed : Nat} (hc : s.pe.ctx = some c)
    (hb : c.body = .dwell elapsed) : s.reloadPoint = s.fireWatch := by
  unfold State.reloadPoint
  rw [hc]
  split
  · next c' _ _ _ hc' _ =>
    obtain rfl : c = c' := Option.some.inj hc'
    rw [hb]
  · rfl

theorem State.latchPending_gainSet (s : State) (g : Nat) {i : Nat} (hi : i < 8) :
    (s.latchPending g).gainSet i
      = if some g = some i ∧ (s.gainSet i).flag = true
        then { active := (s.gainSet i).pending, pending := (s.gainSet i).pending, flag := false } else s.gainSet i := by
  unfold State.latchPending
  by_cases hg : g = i
  · subst hg
    by_cases hflag : (s.gainSet g).flag = true
    · rw [if_pos hflag, if_pos ⟨rfl, hflag⟩, State.gainSet_setGainSet_same s g _ hi]
      rfl
    · rw [if_neg hflag, if_neg fun h => hflag h.2]
  · rw [if_neg (c := some g = some i ∧ _) fun h => hg (Option.some.inj h.1)]
    split
    · exact State.gainSet_setGainSet_other s g i _ (Ne.symm hg)
    · rfl

theorem State.passStart_limits (s : State) {ch : Nat} (hch : ch < 16) :
    s.passStart.limits ch = { s.limits ch with clamp := { state := .clear, count := 0 } } := by
  simp [State.limits, State.passStart, hch, Detector.cleared]

/-- What the fired watch completes to a reload point. -/
theorem State.fireWatch_reloads {s u : State} {g : Option Nat}
    (hgains : ∀ i, i < 8 → u.gainSet i = if g = some i ∧ (s.gainSet i).flag = true
      then { active := (s.gainSet i).pending, pending := (s.gainSet i).pending, flag := false } else s.gainSet i)
    (hwatch : u.sq.watch = s.sq.watch) (hadvance : u.cause .advance = s.cause .advance)
    (hcounter : u.pe.counter = s.pe.counter) (hlm : u.lm = s.passStart.lm) : s.Reloads g u.fireWatch where
  gains i hi := (State.gainSet_congr i u.fireWatch_dcu).trans (hgains i hi)
  watch := u.fireWatch_watch
  advance := by rw [State.fireWatch_cause_advance, hwatch, hadvance, hcounter]
  clamps ch hch := by rw [State.limits_congr ch (u.fireWatch_lm.trans hlm), State.passStart_limits s hch]

/-- A reload point is told from a state with the same gain sets, watch, ADVANCE, counter and detectors. -/
theorem State.Reloads.of_base {s s' t : State} {g : Option Nat} (hdcu : s'.dcu = s.dcu) (hwatch : s'.sq.watch = s.sq.watch)
    (hadvance : s'.cause .advance = s.cause .advance) (hcounter : s'.pe.counter = s.pe.counter) (hlm : s'.lm = s.lm)
    (h : s'.Reloads g t) : s.Reloads g t := by
  obtain ⟨hg, hw, ha, hc⟩ := h
  refine ⟨fun i hi => ?_, hw, ?_, fun ch hch => ?_⟩
  · rw [hg i hi, State.gainSet_congr i hdcu]
  · rw [ha, hwatch, hadvance, hcounter]
  · rw [hc ch hch, State.limits_congr ch hlm]

/-- What follows a reload point without touching gain sets, watch, ADVANCE and detectors keeps it. -/
theorem State.Reloads.then {s t t' : State} {g : Option Nat} (h : s.Reloads g t) (hdcu : t'.dcu = t.dcu) (hsq : t'.sq = t.sq)
    (hadvance : t'.cause .advance = t.cause .advance) (hlm : t'.lm = t.lm) : s.Reloads g t' := by
  obtain ⟨hg, hw, ha, hc⟩ := h
  exact ⟨fun i hi => (State.gainSet_congr i hdcu).trans (hg i hi), by rw [hsq, hw], hadvance.trans ha,
    fun ch hch => (State.limits_congr ch hlm).trans (hc ch hch)⟩

/-! ### The beginning of a visit (R78) -/

theorem Runtime.begun_eq_visited (r : Runtime) : r.begun = r.visited := by
  unfold Runtime.begun Runtime.visited
  cases r.interrupted <;> rfl

theorem State.mapHeld_cursorEntry (s : State) (f : Runtime → Runtime) :
    (s.mapHeld f).cursorEntry = s.cursorEntry.map fun e => e.mapRuntime f := by
  simp [State.cursorEntry, State.mapHeld, State.mapEntry]

theorem State.addRef_clip (s : State) (j : Nat) {id : Nat} (hid : id < 64) :
    (s.addRef j).clip id = { s.clip id with refs := (s.clip id).refs + if j = id then 1 else 0 } := by
  by_cases hj : id = j
  · subst hj
    simp [State.addRef, State.clip_setClip_same s id _ hid]
  · simp [State.addRef, State.clip_setClip_other s j id _ hj, Ne.symm hj]

theorem State.contextOf_congr {s t : State} (h : ∀ id, (t.clip id).load = (s.clip id).load) (e : Entry) :
    t.contextOf e = s.contextOf e := by
  obtain ⟨tag, body⟩ := e
  cases body <;> simp only [State.contextOf, h]

/-- The context of a new visit counts what the interrupted visit had counted. -/
theorem State.beginVisit_of_play {s : State} {tag : Nat} {f : PlayFields} {r : Runtime} {c : Context}
    (he : s.cursorEntry = some { tag := tag, body := .play f r })
    (hc : s.contextOf { tag := tag, body := .play f r } = some c) :
    s.beginVisit = ((((s.mapHeld Runtime.begun).addRef f.clip).setCtx (some c)).passStart.latchPending f.gainSet).fireWatch := by
  obtain ⟨l, hl, rfl⟩ := Option.map_eq_some_iff.mp hc
  have hloaded : s.beginVisit = ((((s.mapHeld Runtime.begun).addRef f.clip).setCtx
      (s.contextOf { tag := tag, body := .play f r })).passStart).reloadPoint := by
    rw [hc]
    simp only [State.beginVisit, he, hl]
    rfl
  rw [hloaded, hc]
  refine (State.reloadPoint_of_play (f := f) (r := r.begun) (tag := tag) rfl rfl ?_).trans rfl
  have hheld := s.mapHeld_cursorEntry Runtime.begun
  rw [he] at hheld
  exact hheld

theorem State.beginVisit_of_dwell {s : State} {tag : Nat} {f : DwellFields} {r : Runtime} {c : Context}
    (he : s.cursorEntry = some { tag := tag, body := .dwell f r })
    (hc : s.contextOf { tag := tag, body := .dwell f r } = some c) :
    s.beginVisit = (((s.mapHeld Runtime.begun).setCtx (some c)).passStart).fireWatch := by
  obtain rfl := Option.some.inj hc
  simp only [State.beginVisit, he]
  exact State.reloadPoint_of_dwell (elapsed := 0) rfl rfl

/-- From `s` to `t` the visit of `e` at the cursor begins with the context `c`. -/
structure State.Begins (s : State) (e : Entry) (c : Context) (t : State) : Prop where
  engine : t.pe = { s.pe with ctx := some c }
  queue : t.sq = { s.sq with
    entries := s.sq.entries.modify s.sq.cursor fun e => e.mapRuntime Runtime.visited, watch := false }
  reloads : s.Reloads e.gainSet t
  clips : ∀ id, id < 64 → t.clip id = { s.clip id with refs := (s.clip id).refs + if e.plays id then 1 else 0 }
  causes : ∀ x, x ≠ .advance → t.cause x = s.cause x

theorem State.beginVisit_begins {s : State} {e : Entry} {c : Context} (he : s.cursorEntry = some e)
    (hc : s.contextOf e = some c) : s.Begins e c s.beginVisit := by
  have hvisited : (fun e : Entry => e.mapRuntime Runtime.begun) = fun e => e.mapRuntime Runtime.visited := by
    rw [funext Runtime.begun_eq_visited]
  obtain ⟨tag, body⟩ := e
  cases body with
  | play f r =>
    rw [State.beginVisit_of_play he hc]
    refine ⟨?_, ?_, State.fireWatch_reloads (fun i hi => ?_) ?_ ?_ ?_ ?_, fun id hid => ?_, fun x hx => ?_⟩
    · simp
    · rw [State.fireWatch_sq, ← hvisited]; simp [State.mapHeld, State.mapEntry]
    · rw [State.latchPending_gainSet _ _ hi]; rfl
    · simp [State.mapHeld, State.mapEntry]
    · exact State.cause_congr _ (by simp)
    · simp
    · rw [State.latchPending_lm]; rfl
    · rw [State.clip_congr id (t := State.fireWatch _) (s := (s.mapHeld Runtime.begun).addRef f.clip) (by simp),
        State.addRef_clip _ _ hid, State.mapHeld_clip]
      simp [Entry.plays]
    · rw [State.fireWatch_cause_other _ hx]
      exact State.cause_congr _ (by simp)
  | dwell f r =>
    rw [State.beginVisit_of_dwell he hc]
    refine ⟨?_, ?_, State.fireWatch_reloads (fun i _ => ?_) ?_ ?_ ?_ ?_, fun id _ => ?_, fun x hx => ?_⟩
    · simp
    · rw [State.fireWatch_sq, ← hvisited]; simp [State.mapHeld, State.mapEntry]
    · rw [if_neg (by simp [Entry.gainSet])]; rfl
    · simp [State.mapHeld, State.mapEntry]
    · rfl
    · rfl
    · rfl
    · simp [Entry.plays]
    · rw [State.fireWatch_cause_other _ hx]; rfl
  | loopOpen => cases hc
  | loopClose => cases hc

/-! ### Start (R81) -/

/-- The visit that a Start begins, after its real run (R78, R81). -/
def State.visiting (s : State) : State := (s.realRun s.sq.cursor).beginVisit

/-- The engine in RAMP_IN with the visit begun (R81). -/
def State.started (s : State) : State :=
  (s.visiting.setPe { s.visiting.pe with lam := 0, stopCause := none, tripCause := none, tripChannel := none }).enterState
    .rampIn none

theorem State.visiting_pe (s : State) : ∃ ctx, s.visiting.pe = { s.pe with ctx := ctx } := by
  obtain ⟨ctx, h⟩ := (s.realRun s.sq.cursor).beginVisit_pe
  exact ⟨ctx, by rw [State.visiting, h, State.realRun_pe]⟩

section
variable {s : State} (tag : Nat) (hfree : s.repliesHeld < 2)
include hfree

theorem exec_start_of_refused {st : Status} (h : takeStart s = refuse s st) :
    exec (.start tag) s = .next (s.answered 0x30 tag st []) :=
  exec_of_taking (c := .start tag) rfl nofun hfree h

theorem exec_start_of_checked {e : Entry} (hidle : s.pe.state = .idle) (hready : s.cpc.rigReady = true)
    (hlook : s.lookahead s.sq.cursor = some e) (hcheck : s.startCheck e = none) :
    exec (.start tag) s
      = .next (s.started.answered 0x30 tag .ok (beBytes 2 e.tag ++ beBytes 4 ((s.visiting.pe.ctx.map passNumber).getD 1))) := by
  refine exec_of_taking (c := .start tag) (reply := { status := .ok, fields := _ }) rfl nofun hfree ?_
  simp only [takingOf, takeStart, hidle, hready, hlook, hcheck, ne_eq, not_true_eq_false, if_false]
  rfl

end

/-- The visit that a Start begins in a lawful schedule: that of the entry which the lookahead names. -/
theorem State.visiting_begins {s : State} {e : Entry} {c : Context} (hs : s.ScheduleLawful)
    (hlook : s.lookahead s.sq.cursor = some e) (hc : s.contextOf e = some c) :
    (s.realRun s.sq.cursor).Begins e c s.visiting := by
  obtain ⟨hsched, -⟩ := s.scheduleLawful_iff.mp hs
  exact State.beginVisit_begins ((State.realRun_cursorEntry hsched le_rfl hs.cursor_bound).trans hlook)
    ((State.contextOf_congr (fun id => s.realRun_clip_load _ id) e).trans hc)

/-- A reload point after a real run is told from the state before the run. -/
theorem State.Reloads.of_realRun {s t : State} {g : Option Nat} {start : Nat} (hle : start ≤ s.sq.entries.length)
    (h : (s.realRun start).Reloads g t) : s.Reloads g t := by
  obtain ⟨-, -, -, -, hwatch⟩ := s.realRun_places hle
  exact h.of_base (by simp) hwatch (s.realRun_cause_other _ (by decide)) (by simp) (by simp)

/-- What a started visit leaves of the part, in the words of the statement. -/
theorem State.started_visit {s : State} {e : Entry} {c : Context} (hs : s.ScheduleLawful) (hidle : s.pe.state = .idle)
    (hlook : s.lookahead s.sq.cursor = some e) (hc : s.contextOf e = some c) (code tag : Nat) (fields : List Byte)
    {t : State} (ht : t = s.started.answered code tag .ok fields) {q : SegmentQueue} (hq : q = (s.realRun s.sq.cursor).sq) :
    t.pe.ctx = some c ∧ q.entries[q.cursor]? = some e
      ∧ t.sq = { q with entries := q.entries.modify q.cursor fun e => e.mapRuntime Runtime.visited, watch := false }
      ∧ s.Reloads e.gainSet t ∧ (t.cause .engine).detail = some (.engine .idle .rampIn none)
      ∧ ∀ id, id < 64 → t.clip id = { s.clip id with refs := (s.clip id).refs
          - (s.sq.entries.take (s.sq.entries.length - q.entries.length)).countP (Entry.plays id)
          + (if e.plays id then 1 else 0) } := by
  obtain ⟨hsched, -⟩ := s.scheduleLawful_iff.mp hs
  have hle := hs.cursor_bound
  obtain ⟨hpe, hsq, hreloads, hclips, -⟩ := State.visiting_begins hs hlook hc
  subst ht hq
  refine ⟨?_, (State.realRun_cursorEntry hsched le_rfl hle).trans hlook, ?_, ?_, ?_, fun id hid => ?_⟩
  · rw [State.answered_pe, State.started, State.enterState_pe, State.setPe_pe, hpe]
  · rw [State.answered_sq, State.started, State.enterState_sq, State.setPe_sq, hsq]
  · refine hreloads.of_realRun hle |>.then (by simp [State.started]) (by simp [State.started]) ?_ (by simp [State.started])
    rw [State.answered_cause, State.started, State.enterState, State.raise_cause_other _ _ (by decide)]
    rfl
  · rw [State.answered_cause, State.started, State.enterState, State.raise_cause_same, State.setPe_pe, hpe, State.realRun_pe,
      hidle]
  · rw [State.answered_clip, State.started, State.clip_congr id (State.enterState_cs ..), State.setPe_clip, hclips id hid,
      State.realRun_clip]

/-- Settles O17: the checks in their order; a Start that passes them is a real run and the beginning of a visit
(`State.started_visit`), and a real run is its retirement (`State.realRun_leaves`, `State.realRun_places`). -/
theorem startResult : Obligations.StartResult := by
  intro tag s hfree
  refine ⟨fun h => ?wrongState, fun hidle h => ?notReady, fun hidle hready h => ?queueEmpty,
    fun e st hidle hready hlook h => ?checked, fun e hidle hready hlook hcheck => ?started,
    fun start n hle hnext hring hn => ?run⟩
  case wrongState => exact exec_start_of_refused tag hfree (if_pos h)
  case notReady =>
    refine exec_start_of_refused tag hfree ?_
    simp only [takeStart, hidle, h, ne_eq, not_true_eq_false, if_false, Bool.false_eq_true, not_false_eq_true, if_true]
  case queueEmpty =>
    refine exec_start_of_refused tag hfree ?_
    simp only [takeStart, hidle, hready, h, ne_eq, not_true_eq_false, if_false]
  case checked =>
    refine exec_start_of_refused tag hfree ?_
    simp only [takeStart, hidle, hready, hlook, h, ne_eq, not_true_eq_false, if_false]
  case run =>
    have hn : n = s.runRetires start := hn
    subst hn
    exact ⟨State.realRun_leaves hnext hring start, s.realRun_places hle⟩
  case started =>
    obtain ⟨ctx, hvisiting⟩ := s.visiting_pe
    have hpe : s.started.pe = { s.pe with
        state := .rampIn, lam := 0, stopCause := none, tripCause := none, tripChannel := none, ctx := ctx } := by
      rw [State.started, State.enterState_pe, State.setPe_pe, hvisiting]
    refine ⟨_, exec_start_of_checked tag hfree hidle hready hlook hcheck, ?_⟩
    rw [State.answered_pe, hpe]
    refine ⟨rfl, rfl, rfl, rfl, rfl, rfl, rfl, rfl, rfl, rfl, rfl, rfl, ?_, ?_, ?_, ?_, ?_, ?_, ?_, ?_, ?visit⟩
    case visit =>
      intro hs c q hc hq
      obtain ⟨hctx, hentry, hsq, hreloads, hdetail, hclips⟩ := State.started_visit hs hidle hlook hc 0x30 tag _ rfl hq
      rw [State.answered_pe, hpe] at hctx
      refine ⟨hctx, hentry, hsq, hreloads, hdetail, hclips, s.started, ?_⟩
      rw [hvisiting, show ctx = some c from hctx]
      rfl
    all_goals simp [State.started, State.visiting]

/-! ### Start on a DWELL (R78, R81) -/

/-- A real run from the front of a queue without loops stays on a playable entry and retires nothing. -/
theorem State.realRun_of_playable_front {s : State} {e : Entry} {rest : List Entry} (he : s.sq.entries = e :: rest)
    (hplay : e.playable = true) (hcursor : s.sq.cursor = 0) (hstack : s.sq.stack = []) :
    s.advanceFrom 0 = (0, []) ∧ s.realRun 0 = s := by
  have hrun : s.advanceFrom 0 = (0, []) := by
    simp only [State.advanceFrom, advanceFuel, scan, he, hstack, List.getElem?_cons_zero, hplay, if_true]
  have hmoved : s.runMoved 0 = s := by
    rw [State.runMoved, hrun]
    dsimp only
    rw [← hcursor, ← hstack]
    rfl
  refine ⟨hrun, ?_⟩
  rw [State.realRun_eq, hmoved, State.runRetires, hrun]
  rfl

/-- Settles O18: the run stays where it is, and the visit of the DWELL begins. -/
theorem startDwellResult : Obligations.StartDwellResult := by
  intro tag etag f r rest s hfree hidle hready hentries hcursor hstack hwatch hskip hinterrupted
  have hentry : s.cursorEntry = some { tag := etag, body := .dwell f r } := by
    rw [State.cursorEntry, hcursor, hentries, List.getElem?_cons_zero]
  obtain ⟨hrun, hstays⟩ := State.realRun_of_playable_front hentries (by simp [Entry.playable, hskip]) hcursor hstack
  have hlook : s.lookahead s.sq.cursor = some { tag := etag, body := .dwell f r } := by
    rw [State.lookahead, hcursor, hrun, hentries, List.getElem?_cons_zero]
  have hheld : s.mapHeld Runtime.begun = { s with sq := { s.sq with entries :=
      { tag := etag, body := .dwell f { r with visits := min 4294967295 (r.visits + 1) } } :: rest } } := by
    simp [State.mapHeld, State.mapEntry, State.setSq, hentries, hcursor, Entry.mapRuntime, Runtime.begun, hinterrupted, sat32]
  have hcontext : s.contextOf { tag := etag, body := .dwell f r }
      = some { tag := etag, body := .dwell 0, counted := 0, overrun := false, cut := false, firstUpdate := none,
               lastUpdate := none, captureDue := false } := by
    simp [State.contextOf, hinterrupted]
  have hvisiting : s.visiting
      = (((s.mapHeld Runtime.begun).setCtx (s.contextOf { tag := etag, body := .dwell f r })).passStart) := by
    rw [State.visiting, hcursor, hstays, State.beginVisit_of_dwell hentry hcontext, hcontext]
    exact State.fireWatch_of_clear (by simp [hheld, hwatch])
  rw [exec_start_of_checked tag hfree hidle hready hlook rfl, State.started, hvisiting, hcontext, hheld, ← hidle]
  rfl

end Sys2Proof.Machine
end

section
/-! A pass end of a PLAY visit in RAMP_IN or RUNNING: the next pass, an overrun pass toward IDLE, or the next visit (R79, R88, R91,
R103, R130). -/

namespace Sys2Proof.Machine

open Sys2Proof

/-! ### The visit at a pass end -/

/-- A PLAY visit of the entry at the cursor on its last update, the engine in RAMP_IN or RUNNING. -/
structure State.EndsPass (s : State) (c : Context) (p : PlayContext) (f : PlayFields) (r : Runtime) : Prop where
  state : s.pe.state = .rampIn ∨ s.pe.state = .running
  context : s.pe.ctx = some c
  body : c.body = .play p
  last : p.count * p.upsample ≤ p.u + 1
  entry : s.cursorEntry = some { tag := c.tag, body := .play f r }

/-- The passes counted once the pass has ended (R88). -/
def Context.countedAfter (c : Context) : Nat := if c.overrun then c.counted else c.counted + 1

/-- The runtime part once the pass has ended (R88). -/
def Context.runtimeAfter (c : Context) (r : Runtime) : Runtime :=
  if c.overrun then r else { r with passes := min 4294967295 (r.passes + 1) }

/-- The queue once the pass of the held PLAY entry has ended. -/
def State.queueCounted (s : State) (c : Context) (f : PlayFields) (r : Runtime) : SegmentQueue :=
  { s.sq with entries := s.sq.entries.modify s.sq.cursor fun _ =>
    { tag := c.tag, body := .play f (c.runtimeAfter r) } }

/-- The part once the pass has been counted. -/
def State.passCounted (s : State) (c : Context) (f : PlayFields) (r : Runtime) : State :=
  { s with sq := s.queueCounted c f r, pe := { s.pe with ctx := some { c with counted := c.countedAfter } } }

/-- A change of the entry at a place reads that entry alone. -/
theorem modify_eq_of_getElem? {es : List Entry} {i : Nat} {e : Entry} (h : es[i]? = some e) (g : Entry → Entry) :
    es.modify i g = es.modify i fun _ => g e := by
  refine List.ext_getElem? fun j => ?_
  rw [List.getElem?_modify, List.getElem?_modify]
  by_cases hj : i = j
  · subst hj; simp [h]
  · simp [hj]

theorem modify_self_of_getElem? {es : List Entry} {i : Nat} {e : Entry} (h : es[i]? = some e) : (es.modify i fun _ => e) = es :=
  (modify_eq_of_getElem? h id).symm.trans (List.modify_id i es)

namespace State.EndsPass

variable {s : State} {c : Context} {p : PlayContext} {f : PlayFields} {r : Runtime} (h : s.EndsPass c p f r)
include h

theorem exec_eq : exec .passEnd s = .next s.passEndPlaying := by
  have hend : s.atPassEnd = true := by
    simp only [State.atPassEnd, h.context, State.advanceEndsPass, State.passLength, Context.elapsed, h.body]
    exact decide_eq_true h.last
  exact if_pos ⟨h.state, hend⟩

theorem countPass_eq : s.countPass c = s.passCounted c f r := by
  have hentry : s.sq.entries[s.sq.cursor]? = some { tag := c.tag, body := .play f r } := h.entry
  cases hover : c.overrun with
  | true =>
    have hq : s.queueCounted c f r = s.sq := by
      rw [State.queueCounted, Context.runtimeAfter, if_pos hover, modify_self_of_getElem? hentry]
    have hc : ({ c with counted := c.countedAfter } : Context) = c := by rw [Context.countedAfter, if_pos hover]
    rw [State.passCounted, hq, hc, ← h.context, State.countPass, if_pos hover]
  | false =>
    have hnot : ¬ c.overrun = true := Bool.eq_false_iff.mp hover
    have hq : (s.mapHeld fun r => { r with passes := sat32 r.passes }).sq = s.queueCounted c f r := by
      rw [State.queueCounted, Context.runtimeAfter, if_neg hnot]
      exact congrArg (fun es => { s.sq with entries := es }) (modify_eq_of_getElem? hentry _)
    rw [State.passCounted, ← hq, Context.countedAfter, if_neg hnot, State.countPass, if_neg hnot]
    rfl

/-- The pass end is taken by the counted visit. -/
theorem passEndPlaying_eq :
    s.passEndPlaying
      = if (s.passCounted c f r).visitFinished { c with counted := c.countedAfter } then
          match (s.passCounted c f r).lookahead (s.sq.cursor + 1) with
          | none => (s.passCounted c f r).overrunOut { c with counted := c.countedAfter } .queueEmpty
          | some e =>
            match (s.passCounted c f r).startCheck e with
            | some st => (s.passCounted c f r).overrunOut { c with counted := c.countedAfter } (checkCause st)
            | none => (((s.passCounted c f r).endVisit { c with counted := c.countedAfter }).realRun (s.sq.cursor + 1)).beginVisit
        else
          (((s.passCounted c f r).setCtx (some (Context.newPass { c with counted := c.countedAfter } false))).passStart
            ).reloadPoint := by
  have hcontext : (if c.overrun then c else { c with counted := c.counted + 1 }) = { c with counted := c.countedAfter } := by
    unfold Context.countedAfter
    split <;> rfl
  simp only [State.passEndPlaying, h.context, h.countPass_eq, hcontext]
  rfl

theorem passCounted_cursorEntry :
    (s.passCounted c f r).cursorEntry = some { tag := c.tag, body := .play f (c.runtimeAfter r) } := by
  have hentry : s.sq.entries[s.sq.cursor]? = some { tag := c.tag, body := .play f r } := h.entry
  simp [State.cursorEntry, State.passCounted, State.queueCounted, hentry]

theorem visitFinished_iff :
    (s.passCounted c f r).visitFinished { c with counted := c.countedAfter } = true
      ↔ c.cut = true ∨ f.passes ≤ c.countedAfter :=
  State.visitFinished_iff h.passCounted_cursorEntry _

/-- Counting changes the held entry's runtime part alone. -/
theorem samePlan : SamePlan s.sq.entries (s.passCounted c f r).sq.entries := by
  have hentry : s.sq.entries[s.sq.cursor]? = some { tag := c.tag, body := .play f r } := h.entry
  have hmapped : (s.passCounted c f r).sq.entries
      = s.sq.entries.modify s.sq.cursor fun e => e.mapRuntime fun _ => c.runtimeAfter r :=
    (modify_eq_of_getElem? hentry fun e => e.mapRuntime fun _ => c.runtimeAfter r).symm
  rw [hmapped]
  exact samePlan_modify _ _ _

/-! ### The next pass (R79, R88) -/

/-- An unfinished visit begins its next pass at a reload point. -/
theorem exec_nextPass (hcut : c.cut = false) (hmore : c.countedAfter < f.passes) :
    exec .passEnd s
      = .next (((((s.passCounted c f r).setCtx (some { c with
          counted := c.countedAfter, overrun := false, body := .play { p with u := 0, gainSet := f.gainSet } })).passStart
        ).latchPending f.gainSet).fireWatch) := by
  have hnot : ¬ (s.passCounted c f r).visitFinished { c with counted := c.countedAfter } = true := by
    rw [h.visitFinished_iff, hcut]
    rintro (h | h)
    · cases h
    · omega
  have hnew : Context.newPass { c with counted := c.countedAfter } false
      = { c with counted := c.countedAfter, overrun := false, body := .play { p with u := 0 } } := by
    simp only [Context.newPass, h.body]
  have hreload : (((s.passCounted c f r).setCtx (some { c with
      counted := c.countedAfter, overrun := false, body := .play { p with u := 0 } })).passStart).reloadPoint = _ :=
    State.reloadPoint_of_play rfl rfl (by exact h.passCounted_cursorEntry)
  rw [h.exec_eq, h.passEndPlaying_eq, if_neg hnot, hnew, hreload]
  rfl

/-! ### An overrun pass toward IDLE (R88, R89) -/

/-- An overrun pass: the finished visit stays, and the engine leaves for IDLE. -/
theorem overrunOut_eq (cause : EngineCause) :
    (s.passCounted c f r).overrunOut { c with counted := c.countedAfter } cause
      = (let t := State.raise
            { s with
              sq := s.queueCounted c f r,
              pe := { s.pe with state := .rampOut, target := some .idle, stopCause := some cause } }
            .engine (some (.engine s.pe.state .rampOut (some cause)))
         { t with
           lm := s.lm.mapIdx fun _ l => { l with clamp := { state := .clear, count := 0 } },
           pe := { t.pe with ctx := some { c with
             counted := c.countedAfter, overrun := true, body := .play { p with u := 0 } } } }) := by
  have hnew : Context.newPass { c with counted := c.countedAfter } true
      = { c with counted := c.countedAfter, overrun := true, body := .play { p with u := 0 } } := by
    simp only [Context.newPass, h.body]
  have hraised := State.raise_setPe
    { s with sq := s.queueCounted c f r,
             pe := { s.pe with state := .rampOut, target := some .idle, stopCause := some cause } }
    ({ s.pe with state := .rampOut, target := some .idle, stopCause := some cause,
                 ctx := some { c with counted := c.countedAfter } })
    .engine (some (.engine s.pe.state .rampOut (some cause)))
  have hout : (s.passCounted c f r).enterRampOut .idle cause = _ := hraised
  rw [State.overrunOut, hout, hnew]
  simp only [State.passStart, State.setCtx, State.setPe, State.raise_lm, State.raise_pe]
  rfl

theorem lookahead_plain :
    ((s.passCounted c f r).lookahead (s.sq.cursor + 1)).map Entry.plain = (s.lookahead (s.sq.cursor + 1)).map Entry.plain :=
  State.lookahead_of_samePlan h.samePlan rfl _

theorem exec_overrun {cause : EngineCause} (hfinished : f.passes ≤ c.countedAfter ∨ c.cut = true)
    (hcause : s.lookahead (s.sq.cursor + 1) = none ∧ cause = .queueEmpty
      ∨ ∃ e, s.lookahead (s.sq.cursor + 1) = some e
        ∧ (s.startCheck e = some .clipNotReady ∧ cause = .clipNotReady
          ∨ s.startCheck e = some .channelNotEngaged ∧ cause = .channelNotEngaged)) :
    exec .passEnd s = .next ((s.passCounted c f r).overrunOut { c with counted := c.countedAfter } cause) := by
  have hlook := h.lookahead_plain
  rw [h.exec_eq, h.passEndPlaying_eq, if_pos (h.visitFinished_iff.mpr hfinished.symm)]
  rcases hcause with ⟨hnone, rfl⟩ | ⟨e, hsome, hcheck⟩
  · rw [hnone, Option.map_none, Option.map_eq_none_iff] at hlook
    rw [hlook]
  · rw [hsome, Option.map_some] at hlook
    obtain ⟨e', he', hplain⟩ := Option.map_eq_some_iff.mp hlook
    have hsame : (s.passCounted c f r).startCheck e' = s.startCheck e := State.startCheck_of_plain hplain rfl rfl
    rcases hcheck with ⟨hcheck, rfl⟩ | ⟨hcheck, rfl⟩ <;> simp only [he', hsame, hcheck, checkCause]

/-! ### The next visit (R78, R88, R91) -/

/-- The part once the finished visit has left the context. -/
theorem ended_sq :
    ((s.passCounted c f r).endVisit { c with counted := c.countedAfter }).sq
      = State.queueEnded { s with sq := s.queueCounted c f r } { c with counted := c.countedAfter } f.passes :=
  State.endVisit_sq h.passCounted_cursorEntry _

theorem ended_scheduled (hs : s.ScheduleLawful) :
    ((s.passCounted c f r).endVisit { c with counted := c.countedAfter }).agenda.Scheduled := by
  obtain ⟨hsched, -⟩ := s.scheduleLawful_iff.mp hs
  have hagenda : (s.passCounted c f r).agenda = s.agenda := h.countPass_eq ▸ s.countPass_agenda h.context
  rw [State.endVisit, State.dropVisit_agenda, hagenda]
  exact hsched.withoutContext

theorem ended_samePlan :
    SamePlan (s.passCounted c f r).sq.entries
      ((s.passCounted c f r).endVisit { c with counted := c.countedAfter }).sq.entries := by
  rw [h.ended_sq]
  exact samePlan_modify _ _ _

/-- The clips after the end of the finished visit and the real run behind it. -/
theorem ended_clip (hfinished : f.passes ≤ c.countedAfter ∨ c.cut = true) {q : SegmentQueue}
    (hq : (((s.passCounted c f r).endVisit { c with counted := c.countedAfter }).realRun (s.sq.cursor + 1)).sq = q) (id : Nat) :
    (((s.passCounted c f r).endVisit { c with counted := c.countedAfter }).realRun (s.sq.cursor + 1)).clip id
      = s.clipReleased q id := by
  have hrelease : (s.passCounted c f r).releaseContext
      = ((s.passCounted c f r).endVisit { c with counted := c.countedAfter }).realRun (s.sq.cursor + 1) := by
    have hctx : (s.passCounted c f r).pe.ctx = some { c with counted := c.countedAfter } := rfl
    unfold State.releaseContext
    simp only [hctx, h.visitFinished_iff.mpr hfinished.symm, if_true]
    rfl
  have hholds : (s.passCounted c f r).contextHolds id = s.contextHolds id := by
    rw [Bool.eq_iff_iff, State.contextHolds_iff, State.contextHolds_iff, State.ledger, State.ledger, h.context]
    rfl
  have hlength := h.samePlan.length
  rw [← hrelease, State.releaseContext_clip rfl, hrelease, hq, State.clipReleased, State.clipReleased, hholds, hlength,
    countP_plays_take h.samePlan.clipOf]
  rfl

/-- A finished visit whose queue goes on: it ends, the advance routine runs, and the visit of the entry it stands on begins. -/
theorem exec_nextVisit (hfinished : f.passes ≤ c.countedAfter ∨ c.cut = true) (hs : s.ScheduleLawful) {e : Entry}
    {u : State} (hu : u = ((s.passCounted c f r).endVisit { c with counted := c.countedAfter }).realRun (s.sq.cursor + 1))
    (he : u.cursorEntry = some e) (hcheck : s.startCheck e = none) : exec .passEnd s = .next u.beginVisit := by
  have hin : s.sq.cursor + 1 ≤ s.sq.entries.length := (List.getElem?_eq_some_iff.mp h.entry).1
  have hcursor : ((s.passCounted c f r).endVisit { c with counted := c.countedAfter }).sq.cursor = s.sq.cursor := by
    rw [h.ended_sq]
    rfl
  have hlook := State.realRun_cursorEntry (h.ended_scheduled hs) (start := s.sq.cursor + 1) (by omega)
    (by rw [h.ended_samePlan.length, h.samePlan.length]; exact hin)
  rw [← hu, he] at hlook
  have hplain := State.lookahead_of_samePlan (s := s.passCounted c f r) h.ended_samePlan (by rw [h.ended_sq]; rfl)
    (s.sq.cursor + 1)
  rw [← hlook, Option.map_some] at hplain
  obtain ⟨e', he', hplain⟩ := Option.map_eq_some_iff.mp hplain.symm
  have hsame : (s.passCounted c f r).startCheck e' = none := (State.startCheck_of_plain hplain rfl rfl).trans hcheck
  rw [h.exec_eq, h.passEndPlaying_eq, if_pos (h.visitFinished_iff.mpr hfinished.symm)]
  simp only [he', hsame, hu]

/-- A reload point behind the end of the finished visit is one of the state before it. -/
theorem reloads_of_ended {u t : State} {g : Option Nat}
    (hu : u = ((s.passCounted c f r).endVisit { c with counted := c.countedAfter }).realRun (s.sq.cursor + 1))
    (hreloads : u.Reloads g t) : s.Reloads g t := by
  obtain ⟨-, -, -, -, hwatch⟩ := State.realRun_places
    (s := (s.passCounted c f r).endVisit { c with counted := c.countedAfter }) (start := s.sq.cursor + 1)
    (by rw [h.ended_samePlan.length, h.samePlan.length]; exact (List.getElem?_eq_some_iff.mp h.entry).1)
  refine hreloads.of_base ?_ ?_ ?_ ?_ ?_
  · rw [hu, State.realRun_dcu, State.endVisit_dcu]; rfl
  · rw [hu, hwatch, h.ended_sq]; rfl
  · rw [hu, State.realRun_cause_other _ _ (by decide)]
    exact State.cause_congr _ (State.endVisit_eu ..)
  · rw [hu, State.realRun_pe, State.endVisit_pe]; rfl
  · rw [hu, State.realRun_lm, State.endVisit_lm]; rfl

end State.EndsPass

/-- Settles O23: an unfinished visit takes its next pass (`exec_nextPass`); a finished one an overrun pass (`exec_overrun`) or the
next visit (`exec_nextVisit`, `State.beginVisit_begins`). -/
theorem passEndResult : Obligations.PassEndResult := by
  intro c p f r s n counted hstate hctx hbody hlast hentry hn hcounted
  have h : s.EndsPass c p f r := ⟨hstate, hctx, hbody, hlast, hentry⟩
  obtain rfl : n = c.countedAfter := hn
  obtain rfl : counted = s.queueCounted c f r := hcounted
  refine ⟨fun hcut hmore hflag hwatch => ?plain, fun hcut hmore => ?reloaded, fun cause hfinished hcause => ?overrun,
    fun e c' q hfinished hs hq he hcheck hc' => ?next⟩
  case plain =>
    rw [h.exec_nextPass hcut hmore, State.latchPending, if_neg (by exact Bool.eq_false_iff.mp hflag),
      State.fireWatch_of_clear (by exact hwatch)]
    rfl
  case reloaded =>
    refine ⟨_, h.exec_nextPass hcut hmore, ?_, State.fireWatch_reloads (fun i hi => ?_) ?_ ?_ ?_ ?_, ?_⟩
    · rw [State.fireWatch_sq, State.latchPending_sq]; rfl
    · rw [State.latchPending_gainSet _ _ hi]; rfl
    · rw [State.latchPending_sq]; rfl
    · exact State.cause_congr _ (State.latchPending_eu _ _)
    · rw [State.latchPending_pe]; rfl
    · rw [State.latchPending_lm]; rfl
    · simp [State.passCounted]
  case overrun => rw [h.exec_overrun hfinished hcause, h.overrunOut_eq]
  case next =>
    generalize hu : ((s.passCounted c f r).endVisit { c with counted := c.countedAfter }).realRun (s.sq.cursor + 1) = u
    have husq : u.sq = q := by rw [hq, ← hu]; exact State.realRun_sq_congr h.ended_sq _
    have hentry : u.cursorEntry = some e := by rw [State.cursorEntry, husq]; exact he
    have hcontext : u.contextOf e = some c' := by
      rw [← hc', ← hu]
      exact State.contextOf_congr (fun id => by simp [State.passCounted]; rfl) e
    obtain ⟨hpe, hsq, hreloads, hclips, -⟩ := State.beginVisit_begins hentry hcontext
    refine ⟨_, h.exec_nextVisit hfinished hs hu.symm hentry hcheck, ?_, ?_, ?_, fun id hid => ?_, ?_⟩
    · rw [hpe, ← hu, State.realRun_pe, State.endVisit_pe]; rfl
    · rw [hsq, husq]
    · exact h.reloads_of_ended hu.symm hreloads
    · rw [hclips id hid, ← hu, h.ended_clip hfinished (hu ▸ husq)]
    · simp [← hu, State.passCounted]

end Sys2Proof.Machine
end

section
/-! What an update makes of the ports: each window closes, and a record goes to every live link (R113, R115 to R117). -/

namespace Sys2Proof.Machine

open Sys2Proof

/-- A fold over distinct places of steps that each change their own place alone leaves at a listed place what its own step makes of
the start. -/
theorem foldl_at {α γ : Type} {f : α → Nat → α} {view after : α → γ} (j : Nat) (hsame : ∀ a, view (f a j) = after a)
    (hother : ∀ a i, i ≠ j → view (f a i) = view a) (hafter : ∀ a i, i ≠ j → after (f a i) = after a) :
    ∀ (l : List Nat) (a : α), l.Nodup → view (l.foldl f a) = if j ∈ l then after a else view a
  | [], _, _ => rfl
  | i :: rest, a, hnd => by
    obtain ⟨hnot, hrest⟩ := List.nodup_cons.mp hnd
    rw [List.foldl_cons, foldl_at j hsame hother hafter rest _ hrest]
    by_cases hi : i = j
    · subst hi
      simp [hnot, hsame]
    · simp [Ne.symm hi, hother a i hi, hafter a i hi]

/-! ### A window closes -/

/-- A port of a live link whose record is missing, the third time in FAULT (R116, R117). -/
def Port.missed (p : Port) : Port :=
  if 2 ≤ p.missCount then { p.faulted .linkLost with missCount := p.missCount + 1, window := none }
  else { p with missCount := p.missCount + 1, window := none }

/-- A LINKING port whose record is missing, at the 256th in FAULT (R115, R117). -/
def Port.unlinked (p : Port) : Port :=
  if 256 ≤ p.linkCount.getD 0 + 1 then { p.faulted .noLink with window := none }
  else { p with linkCount := some (p.linkCount.getD 0 + 1), window := none }

/-- A port once its window, if one is open, has closed. -/
def Port.windowClosed (p : Port) : Port :=
  match p.window with
  | none => p
  | some w =>
    if w.answered then { p with window := none }
    else match p.state with
      | .linking => p.unlinked
      | .standby => p.missed
      | .engaged => p.missed
      | .off => { p with window := none }
      | .fault => { p with window := none }

@[simp] theorem Port.windowClosed_window (p : Port) : p.windowClosed.window = none := by
  unfold Port.windowClosed Port.unlinked Port.missed
  (repeat' split) <;> first | rfl | assumption

@[simp] theorem Port.windowClosed_feedback (p : Port) : p.windowClosed.feedback = p.feedback := by
  unfold Port.windowClosed Port.unlinked Port.missed
  (repeat' split) <;> rfl

theorem Port.windowClosed_of_none {p : Port} (h : p.window = none) : p.windowClosed = p := by
  simp [Port.windowClosed, h]

theorem Port.windowClosed_of_answered {p : Port} {w : Window} (h : p.window = some w) (ha : w.answered = true) :
    p.windowClosed = { p with window := none } := by
  simp [Port.windowClosed, h, ha]

section missing
variable {p : Port} {w : Window} (h : p.window = some w) (ha : w.answered = false)
include h ha

theorem Port.windowClosed_of_linking (hs : p.state = .linking) : p.windowClosed = p.unlinked := by
  simp [Port.windowClosed, h, ha, hs]

theorem Port.windowClosed_of_live (hs : p.state = .standby ∨ p.state = .engaged) : p.windowClosed = p.missed := by
  rcases hs with hs | hs <;> simp [Port.windowClosed, h, ha, hs]

theorem Port.windowClosed_of_dead (hs : p.state = .off ∨ p.state = .fault) : p.windowClosed = { p with window := none } := by
  rcases hs with hs | hs <;> simp [Port.windowClosed, h, ha, hs]

end missing

theorem State.setPort_port (s : State) (ch : Nat) : s.setPort ch (s.port ch) = s := by
  have hvec : s.cpc.ports.setIfInBounds ch (s.port ch) = s.cpc.ports := by
    ext i hi
    by_cases h : ch = i
    · subst h
      simp [State.port, hi]
    · simp [h]
  simp [State.setPort, hvec]

theorem State.setPort_setPort (s : State) (ch : Nat) (p q : Port) : (s.setPort ch p).setPort ch q = s.setPort ch q := by
  have hvec : (s.cpc.ports.setIfInBounds ch p).setIfInBounds ch q = s.cpc.ports.setIfInBounds ch q := by
    ext i hi
    by_cases h : ch = i
    · subst h
      simp
    · simp [h]
  simp [State.setPort, hvec]

/-- A fault changes of the ports its own alone (R117). -/
theorem State.faultChannel_setPort_cpc (s : State) {ch : Nat} (h : ch < 16) (p : Port) (cause : FaultCause) :
    ((s.setPort ch p).faultChannel ch cause).cpc = (s.setPort ch (p.faulted cause)).cpc := by
  unfold State.faultChannel State.flagChange
  dsimp only
  rw [State.port_setPort_same _ _ _ h, State.port_setPort_same _ _ _ h, State.setPort_setPort, State.setPort_setPort]
  split <;> simp <;> rfl

/-- A missing record of a live link, with or without its fault. -/
theorem State.missed_cpc (s : State) {ch : Nat} (h : ch < 16) (p : Port) :
    State.cpc (if 3 ≤ p.missCount + 1 then
        (s.setPort ch { p with window := none, missCount := p.missCount + 1 }).faultChannel ch .linkLost
      else s.setPort ch { p with window := none, missCount := p.missCount + 1 }) = (s.setPort ch p.missed).cpc := by
  unfold Port.missed
  by_cases hmiss : 2 ≤ p.missCount
  · rw [if_pos hmiss, if_pos (by omega)]
    exact State.faultChannel_setPort_cpc s h _ _
  · rw [if_neg hmiss, if_neg (by omega)]

/-- A missing record of a LINKING channel, with or without its fault. -/
theorem State.unlinked_cpc (s : State) {ch : Nat} (h : ch < 16) (p : Port) :
    State.cpc (if 256 ≤ p.linkCount.getD 0 + 1 then
        (s.setPort ch { p with window := none, linkCount := some (p.linkCount.getD 0 + 1) }).faultChannel ch .noLink
      else s.setPort ch { p with window := none, linkCount := some (p.linkCount.getD 0 + 1) })
      = (s.setPort ch p.unlinked).cpc := by
  unfold Port.unlinked
  split
  · exact State.faultChannel_setPort_cpc s h _ _
  · rfl

/-- The closing of a window changes of the ports its own alone. -/
theorem State.closeWindow_cpc (s : State) (ch : Nat) : (s.closeWindow ch).cpc = (s.setPort ch (s.port ch).windowClosed).cpc := by
  by_cases h : ch < 16
  case neg =>
    have hreset : s.port ch = Port.reset := by simp [State.port, h]
    have hclosed : s.closeWindow ch = s := by simp [State.closeWindow, hreset, Port.reset]
    have hsame : (s.port ch).windowClosed = s.port ch := by rw [hreset]; rfl
    rw [hclosed, hsame, State.setPort_port]
  case pos =>
    unfold State.closeWindow
    dsimp only
    split
    · next hwindow => rw [Port.windowClosed_of_none hwindow, State.setPort_port]
    · next w hwindow =>
      split
      · next ha => rw [Port.windowClosed_of_answered hwindow ha]
      · next ha =>
        have ha : w.answered = false := Bool.eq_false_iff.mpr ha
        split
        · next hstate => rw [Port.windowClosed_of_linking hwindow ha hstate]; exact s.unlinked_cpc h _
        · next hstate => rw [Port.windowClosed_of_live hwindow ha (.inl hstate)]; exact s.missed_cpc h _
        · next hstate => rw [Port.windowClosed_of_live hwindow ha (.inr hstate)]; exact s.missed_cpc h _
        · next hstate => rw [Port.windowClosed_of_dead hwindow ha (.inl hstate)]
        · next hstate => rw [Port.windowClosed_of_dead hwindow ha (.inr hstate)]

theorem State.closeWindow_port_same (s : State) {ch : Nat} (h : ch < 16) :
    (s.closeWindow ch).port ch = (s.port ch).windowClosed :=
  (State.port_congr ch (s.closeWindow_cpc ch)).trans (State.port_setPort_same s ch _ h)

theorem State.closeWindow_port_other (s : State) {ch j : Nat} (h : j ≠ ch) : (s.closeWindow ch).port j = s.port j :=
  (State.port_congr j (s.closeWindow_cpc ch)).trans (State.port_setPort_other s ch j _ h)

theorem State.closeWindows_port (s : State) {ch : Nat} (h : ch < 16) : s.closeWindows.port ch = (s.port ch).windowClosed := by
  have hfold := foldl_at (f := State.closeWindow) (view := fun t => t.port ch) (after := fun t => (t.port ch).windowClosed) ch
    (fun t => t.closeWindow_port_same h) (fun t i hi => t.closeWindow_port_other hi.symm)
    (fun t i hi => congrArg Port.windowClosed (t.closeWindow_port_other hi.symm)) allChannels s List.nodup_range
  exact hfold.trans (if_pos (List.mem_range.mpr h))

/-- The closing of a window keeps every channel's last feedback. -/
theorem State.closeWindow_feedback (s : State) (ch j : Nat) : ((s.closeWindow ch).port j).feedback = (s.port j).feedback := by
  by_cases hj : j = ch
  · subst hj
    by_cases h : j < 16
    · rw [s.closeWindow_port_same h, Port.windowClosed_feedback]
    · simp [State.port, h]
  · rw [s.closeWindow_port_other hj]

theorem State.closeWindows_feedback (s : State) (ch : Nat) : (s.closeWindows.port ch).feedback = (s.port ch).feedback :=
  foldl_keeps (fun t => (t.port ch).feedback) State.closeWindow (fun t i => t.closeWindow_feedback i ch) _ s

theorem State.closeWindows_rig (s : State) :
    s.closeWindows.cpc.rigMode = s.cpc.rigMode ∧ s.closeWindows.cpc.rigReady = s.cpc.rigReady :=
  ⟨foldl_keeps (fun t => t.cpc.rigMode) State.closeWindow (fun t i => by rw [t.closeWindow_cpc]; rfl) _ s,
    foldl_keeps (fun t => t.cpc.rigReady) State.closeWindow (fun t i => by rw [t.closeWindow_cpc]; rfl) _ s⟩

/-! ### Records are sent -/

/-- A port whose window is closed, once a record has been sent to it where its link is live. -/
def Port.sent (p : Port) (stamp : Nat) (command : Int) : Port := if p.state.live then p.recordSent stamp command else p

theorem Port.sent_eq {p : Port} (h : p.window = none) (stamp : Nat) (command : Int) :
    p.sent stamp command = p.recordSent stamp command := by
  obtain ⟨state, owner, changed, cause, misses, links, setpoint, feedback, enable, window⟩ := p
  obtain rfl : window = none := h
  cases state <;> rfl

theorem State.sendRecord_eq (s : State) (ch : Nat) :
    s.sendRecord ch = s.setPort ch ((s.port ch).sent s.pe.counter (s.drive ch).lastOutput) := by
  unfold State.sendRecord Port.sent
  dsimp only
  split
  · next hlive =>
    unfold Port.recordSent
    cases hstate : (s.port ch).state
    case off => rw [hstate] at hlive; cases hlive
    case fault => rw [hstate] at hlive; cases hlive
    all_goals rfl
  · exact (s.setPort_port ch).symm

theorem State.sendRecords_port (s : State) {ch : Nat} (h : ch < 16) :
    s.sendRecords.port ch = (s.port ch).sent s.pe.counter (s.drive ch).lastOutput := by
  have hother (t : State) {i : Nat} (hi : i ≠ ch) : (t.sendRecord i).port ch = t.port ch := by
    rw [t.sendRecord_eq, State.port_setPort_other _ _ _ _ hi.symm]
  have hfold := foldl_at (f := State.sendRecord) (view := fun t => t.port ch)
    (after := fun t => (t.port ch).sent t.pe.counter (t.drive ch).lastOutput) ch
    (fun t => by rw [t.sendRecord_eq, State.port_setPort_same _ _ _ h]) (fun t i hi => hother t hi)
    (fun t i hi => by rw [hother t hi, State.sendRecord_pe, State.drive_congr ch (t.sendRecord_dcu i)]) allChannels s
    List.nodup_range
  exact hfold.trans (if_pos (List.mem_range.mpr h))

theorem State.sendRecords_feedback (s : State) (ch : Nat) : (s.sendRecords.port ch).feedback = (s.port ch).feedback := by
  refine foldl_keeps (fun t => (t.port ch).feedback) State.sendRecord (fun t i => ?_) _ s
  rw [t.sendRecord_eq]
  by_cases hi : ch = i
  · subst hi
    by_cases h : ch < 16
    · rw [State.port_setPort_same _ _ _ h]
      unfold Port.sent
      split <;> rfl
    · simp [State.port, h]
  · rw [State.port_setPort_other _ _ _ _ hi]

theorem State.sendRecords_rig (s : State) :
    s.sendRecords.cpc.rigMode = s.cpc.rigMode ∧ s.sendRecords.cpc.rigReady = s.cpc.rigReady :=
  ⟨foldl_keeps (fun t => t.cpc.rigMode) State.sendRecord (fun t i => by rw [t.sendRecord_eq]; rfl) _ s,
    foldl_keeps (fun t => t.cpc.rigReady) State.sendRecord (fun t i => by rw [t.sendRecord_eq]; rfl) _ s⟩

/-! ### The ports after an update -/

theorem State.RunsTo.counter {s t : State} (h : s.RunsTo t) : t.pe.counter = s.pe.counter :=
  congrArg (fun settings => settings.2.2.2.2) h.settings

/-- What no operation of the engine's handling of an update changes. -/
structure KeptByEngine {γ : Type} (p : State → γ) : Prop where
  ramp : ∀ s : State, p s.rampStep = p s
  first : ∀ s : State, p s.stampFirst = p s
  due : ∀ s : State, p s.dropCaptureDue = p s
  hand : ∀ (s : State) cr, p (s.handOn cr) = p s
  mark : ∀ s : State, p s.markStage = p s
  last : ∀ s : State, p s.stampLast = p s
  advance : ∀ s : State, p s.advanceStage = p s
  out : ∀ s : State, p s.endRampOut = p s
  stop : ∀ (s : State) new cause, p (s.enterStopped new cause) = p s

/-- The engine's handling of an update keeps what each of its operations keeps. -/
theorem KeptByEngine.engineUpdate {γ : Type} {p : State → γ} (h : KeptByEngine p) (s : State) : p s.engineUpdate = p s := by
  have hhanded := foldl_keeps p State.handOn h.hand
  unfold State.engineUpdate
  split
  · have hplayed : p (s.rampStep.stampFirst.dropCaptureDue.playStage s.rampStep.stampFirst.computeAll).advanceStage = p s := by
      rw [h.advance, State.playStage, h.last, h.mark, hhanded, h.due, h.first, h.ramp]
    unfold State.playedUpdate
    dsimp only
    split
    · rw [h.out, hplayed]
    · exact hplayed
  · unfold State.restUpdate
    dsimp only
    split
    · rw [h.stop, hhanded]
    · exact hhanded _ s

theorem keptByEngine_cpc : KeptByEngine State.cpc := by constructor <;> simp

@[simp] theorem State.engineUpdate_cpc (s : State) : s.engineUpdate.cpc = s.cpc := keptByEngine_cpc.engineUpdate s

theorem State.portUpdate_port (s : State) (ts : List Trigger) (pos : Option Position) {ch : Nat} (h : ch < 16) :
    (s.portUpdate ts pos).port ch = (s.port ch).windowClosed.recordSent s.pe.counter (s.drive ch).lastOutput := by
  have hcpc : (s.closeWindows.captureStage ts pos).recordHistory.cpc = s.closeWindows.cpc := by simp
  have hcounter : s.closeWindows.pe.counter = s.pe.counter := s.closeWindows_runsTo.counter
  rw [State.portUpdate, State.sendRecords_port _ h, State.port_congr ch hcpc, s.closeWindows_port h,
    State.drive_congr ch (s := s) (by simp), State.recordHistory_pe, State.captureStage_pe, hcounter,
    Port.sent_eq (Port.windowClosed_window _)]

theorem State.portUpdate_feedback (s : State) (ts : List Trigger) (pos : Option Position) (ch : Nat) :
    ((s.portUpdate ts pos).port ch).feedback = (s.closeWindows.port ch).feedback := by
  have hcpc : (s.closeWindows.captureStage ts pos).recordHistory.cpc = s.closeWindows.cpc := by simp
  rw [State.portUpdate, State.sendRecords_feedback, State.port_congr ch hcpc]

theorem State.portUpdate_rig (s : State) (ts : List Trigger) (pos : Option Position) :
    (s.portUpdate ts pos).cpc.rigMode = s.cpc.rigMode ∧ (s.portUpdate ts pos).cpc.rigReady = s.cpc.rigReady := by
  obtain ⟨hmode, hready⟩ := s.closeWindows_rig
  obtain ⟨hmode', hready'⟩ := (s.closeWindows.captureStage ts pos).recordHistory.sendRecords_rig
  rw [State.recordHistory_cpc, State.captureStage_cpc] at hmode' hready'
  rw [State.portUpdate]
  exact ⟨hmode'.trans hmode, hready'.trans hready⟩

/-- The port of a channel after an update: its window closes, and the record of the update is sent (R113). -/
theorem State.raiseUpdate_port (s : State) {ch : Nat} (h : ch < 16) :
    s.raiseUpdate.port ch
      = (s.port ch).windowClosed.recordSent ((s.pe.counter + 1) % 281474976710656) (s.raiseUpdate.drive ch).lastOutput := by
  have hcounter : s.countUpdate.engineUpdate.pe.counter = (s.pe.counter + 1) % 281474976710656 :=
    s.countUpdate.engineUpdate_runsTo.counter
  have hport : s.countUpdate.engineUpdate.port ch = s.port ch := State.port_congr ch (by simp)
  rw [State.raiseUpdate_eq, State.portUpdate_port _ _ _ h, hcounter, hport, State.drive_congr ch (State.portUpdate_dcu _ _ _)]

/-- An update keeps the rig mode and the level of Rig Ready. -/
theorem State.raiseUpdate_rig (s : State) :
    s.raiseUpdate.cpc.rigMode = s.cpc.rigMode ∧ s.raiseUpdate.cpc.rigReady = s.cpc.rigReady := by
  have h := s.countUpdate.engineUpdate.portUpdate_rig s.countUpdate.updateTriggers s.countUpdate.position
  rw [State.engineUpdate_cpc, State.countUpdate_cpc] at h
  rwa [State.raiseUpdate_eq]

end Sys2Proof.Machine
end

section
/-! The records of a capture: CAPTURE_COMPLETE, and the Response Capture Unit's handling of an update, its triggers included (R150,
R161 to R167). -/

namespace Sys2Proof.Machine

open Sys2Proof

/-! ### The mark units an update reaches (R145 to R147) -/

/-- The position that the mark units handle at an update: that of a clip which plays. -/
def State.markPosition (s : State) : Option PlayPosition := if s.plays then s.playPosition else none

/-- No unit starts or matches where no clip plays, else those that compare. -/
theorem State.marksAt_eq (s : State) (v : MarkUnit → Nat) :
    s.marksAt v = match s.markPosition with
      | none => []
      | some p => allMarks.filter fun m =>
        (s.mark m).mode == .compare && (s.mark m).selects p.clip && p.u == v (s.mark m) := by
  have hselects (u : MarkUnit) (id : Nat) : u.selects id = decide (u.selector.getD id = id) := by
    unfold MarkUnit.selects
    cases u.selector with
    | none => simp
    | some j => rfl
  by_cases hstate : s.pe.state = .rampIn ∨ s.pe.state = .running ∨ s.pe.state = .rampOut
  · cases hctx : s.pe.ctx with
    | none => simp [State.marksAt, State.markPosition, State.plays, hctx]
    | some c =>
      obtain ⟨tag, body, counted, overrun, cut, first, last, due⟩ := c
      have hplays : s.plays = true := by simp [State.plays, (playing_iff _).mpr hstate, hctx]
      cases body with
      | dwell e => simp [State.marksAt, State.markPosition, State.playPosition, hplays, hctx]
      | play p =>
        simp only [State.marksAt, State.markPosition, State.playPosition, hplays, hctx, if_pos hstate, if_true, hselects]
        refine List.filter_congr fun m _ => ?_
        rw [Bool.eq_iff_iff]
        simp [and_assoc]
  · have hplaying : s.pe.state.playing = false := Bool.eq_false_iff.mpr fun h => hstate ((playing_iff _).mp h)
    have hnone : s.markPosition = none := by simp [State.markPosition, State.plays, hplaying]
    rw [hnone, State.marksAt]
    split
    · exact if_neg hstate
    · rfl

theorem State.marksAt_of_none {s : State} (h : s.markPosition = none) (v : MarkUnit → Nat) : s.marksAt v = [] := by
  rw [State.marksAt_eq, h]

theorem State.marksHit_of_position {s : State} {p : PlayPosition} (h : s.markPosition = some p) :
    s.marksHit = allMarks.filter fun m => (s.mark m).isMatch p := by
  rw [State.marksHit, State.marksAt_eq, h]
  rfl

theorem State.marksStarted_of_position {s : State} {p : PlayPosition} (h : s.markPosition = some p) :
    s.marksStarted = allMarks.filter fun m => (s.mark m).isPassStart p := by
  rw [State.marksStarted, State.marksAt_eq, h]
  rfl

/-- The units reached read the mark units and, of the engine, its state and context. -/
theorem State.marksAt_congr {s t : State} (hmu : t.mu = s.mu) (hstate : t.pe.state = s.pe.state) (hctx : t.pe.ctx = s.pe.ctx)
    (v : MarkUnit → Nat) : t.marksAt v = s.marksAt v := by
  simp only [State.marksAt, State.mark_congr _ hmu, hstate, hctx]

/-! ### The triggers of an update (R78, R150, R162) -/

/-- The units whose match at the next update triggers a capture (R150). -/
def State.marksTriggering (s : State) : List Nat := s.marksHit.filter fun m => (s.mark m).trigCapture

/-- The trigger of a unit's match. -/
def markTrigger (m : Nat) : Trigger := { kind := .mark, unit := some m }

theorem State.segmentTriggers_eq (s : State) :
    s.segmentTriggers = if s.pe.ctx.any (·.captureDue) then [{ kind := .segmentStart, unit := none }] else [] := by
  unfold State.segmentTriggers
  cases s.pe.ctx <;> simp

theorem State.updateTriggers_of_playing {s : State} (hp : s.pe.state.playing = true) :
    s.updateTriggers = orderTriggers s.pe.counter
      (if s.pe.ctx.any (·.captureDue) then [{ kind := .segmentStart, unit := none }] else [])
      (s.marksTriggering.map markTrigger) := by
  cases hctx : s.pe.ctx with
  | none =>
    have hplays : s.plays = false := by simp [State.plays, hctx]
    have hnone : s.markPosition = none := by simp [State.markPosition, hplays]
    simp [State.updateTriggers, hplays, State.marksTriggering, State.marksHit, State.marksAt_of_none hnone, orderTriggers]
  | some c =>
    have hplays : s.plays = true := by simp [State.plays, hp, hctx]
    have hposition : s.markPosition = s.playPosition := if_pos hplays
    rw [State.updateTriggers, if_pos hplays, s.segmentTriggers_eq, hctx]
    congr 1
    cases hplay : s.playPosition with
    | none =>
      rw [hplay] at hposition
      simp [State.marksTriggering, State.marksHit, State.marksAt_of_none hposition]
    | some p =>
      rw [hplay] at hposition
      rw [State.marksTriggering, State.marksHit_of_position hposition, List.filter_filter]
      exact congrArg (List.map markTrigger) (List.filter_congr fun m _ => Bool.and_comm _ _)

theorem State.updateTriggers_of_still {s : State} (hp : s.pe.state.playing = false) : s.updateTriggers = [] := by
  simp [State.updateTriggers, State.plays, hp]

theorem State.marksTriggering_of_still {s : State} (hp : s.pe.state.playing = false) : s.marksTriggering = [] := by
  have hnone : s.markPosition = none := by simp [State.markPosition, State.plays, hp]
  simp [State.marksTriggering, State.marksHit, State.marksAt_of_none hnone]

theorem orderTriggers_length (counter : Nat) (segment marks : List Trigger) :
    (orderTriggers counter segment marks).length = segment.length + marks.length := by
  unfold orderTriggers
  split
  · exact List.length_append
  · rw [List.length_append, Nat.add_comm]

/-- The first trigger is the segment's or the first unit's. -/
theorem orderTriggers_head {counter : Nat} {segment marks : List Trigger} {t : Trigger} {rest : List Trigger}
    (h : orderTriggers counter segment marks = t :: rest) : segment.head? = some t ∨ marks.head? = some t := by
  unfold orderTriggers at h
  split at h
  · cases segment with
    | nil => simp_all
    | cons x xs => exact .inl (congrArg some (List.cons.inj h).1)
  · cases marks with
    | nil => exact .inl (by rw [List.nil_append] at h; rw [h]; rfl)
    | cons x xs => exact .inr (congrArg some (List.cons.inj h).1)

theorem State.captureTriggers_congr {s t : State} (hmu : t.mu = s.mu) (hstate : t.pe.state = s.pe.state)
    (hctx : t.pe.ctx = s.pe.ctx) : t.captureTriggers = s.captureTriggers := by
  simp only [State.captureTriggers, State.marksHit, State.marksAt_congr hmu hstate hctx, State.mark_congr _ hmu, hstate, hctx]

theorem State.marksTriggering_congr {s t : State} (hmu : t.mu = s.mu) (hstate : t.pe.state = s.pe.state)
    (hctx : t.pe.ctx = s.pe.ctx) : t.marksTriggering = s.marksTriggering := by
  simp only [State.marksTriggering, State.marksHit, State.marksAt_congr hmu hstate hctx, State.mark_congr _ hmu]

theorem State.updateTriggers_length (s : State) : s.updateTriggers.length = s.captureTriggers := by
  cases hp : s.pe.state.playing with
  | true =>
    rw [State.updateTriggers_of_playing hp, orderTriggers_length, List.length_map, State.captureTriggers]
    simp only [(playing_iff _).mp hp, true_and]
    congr 1
    split <;> rfl
  | false =>
    have hstate : ¬ (s.pe.state = .rampIn ∨ s.pe.state = .running ∨ s.pe.state = .rampOut) := fun h => by
      rw [(playing_iff _).mpr h] at hp
      cases hp
    have hmarks := State.marksTriggering_of_still hp
    rw [State.marksTriggering] at hmarks
    rw [State.updateTriggers_of_still hp, State.captureTriggers, hmarks, if_neg fun h => hstate h.1]
    rfl

/-- What the first trigger of an update is. -/
theorem State.updateTriggers_head {s : State} {t : Trigger} {rest : List Trigger} (h : s.updateTriggers = t :: rest) :
    t.kind = .segmentStart ∧ t.unit = none ∧ s.pe.ctx.any (·.captureDue) = true
      ∨ t.kind = .mark ∧ t.unit = s.marksTriggering.head? ∧ t.unit.isSome = true := by
  cases hp : s.pe.state.playing with
  | false => rw [State.updateTriggers_of_still hp] at h; cases h
  | true =>
    rw [State.updateTriggers_of_playing hp] at h
    rcases orderTriggers_head h with hsegment | hmark
    · left
      split at hsegment
      · next hdue =>
        obtain rfl := Option.some.inj hsegment
        exact ⟨rfl, rfl, hdue⟩
      · cases hsegment
    · right
      rw [List.head?_map] at hmark
      obtain ⟨m, hm, rfl⟩ := Option.map_eq_some_iff.mp hmark
      exact ⟨rfl, hm.symm, rfl⟩

/-! ### The banks (R161, R162, R167) -/

/-- Exactly one bank fills. -/
def CaptureUnit.OneFills (r : CaptureUnit) : Prop :=
  r.bank0.role = .filling ∧ r.bank1.role ≠ .filling ∨ r.bank0.role ≠ .filling ∧ r.bank1.role = .filling

theorem CaptureUnit.writeWords_eq {r : CaptureUnit} (h : r.OneFills) (ws : List Int) :
    r.writeWords ws = { r with bank0 := r.bank0.joined ws, bank1 := r.bank1.joined ws } := by
  unfold CaptureUnit.writeWords Bank.joined
  rcases h with ⟨h0, h1⟩ | ⟨h0, h1⟩ <;> simp [h0, h1]

/-- A bank at a completion, the last record's words joined to it first. -/
theorem Bank.swapped_joined (b : Bank) (ws : List Int) :
    (b.joined ws).swapped
      = if b.role = .filling then { role := .committed, words := b.words ++ ws } else { role := .free, words := [] } := by
  obtain ⟨role, words⟩ := b
  cases role <;> rfl

/-- The unit once a capture of a configuration has completed under its header, the last record's words joined first (R167). -/
def CaptureUnit.completed (r : CaptureUnit) (c : CaptureConfig) (h : Header) (ws : List Int) : CaptureUnit :=
  { r with
    state := if c.rearm then .armed else .unconfigured, filling := none, sequence := (r.sequence + 1) % 4294967296,
    committed := some { h with sequence := some ((r.sequence + 1) % 4294967296) },
    bank0 := if r.bank0.role = .filling then { role := .committed, words := r.bank0.words ++ ws }
      else { role := .free, words := [] },
    bank1 := if r.bank1.role = .filling then { role := .committed, words := r.bank1.words ++ ws }
      else { role := .free, words := [] } }

/-- The bank that a capture starts in holds its first record's words. -/
theorem CaptureUnit.writeWords_startBank {r : CaptureUnit} (h : r.bank0.role ≠ .filling) (x : Header) (ws : List Int) :
    CaptureUnit.writeWords { r.startBank with state := .filling, filling := some x } ws = { r with
      state := .filling, filling := some x,
      bank0 := if r.bank0.role = .free then { role := .filling, words := ws } else r.bank0,
      bank1 := if r.bank0.role = .free then r.bank1 else { role := .filling, words := ws } } := by
  unfold CaptureUnit.startBank CaptureUnit.writeWords
  by_cases hfree : r.bank0.role = .free <;> simp [hfree, h]

/-! ### A record is taken (R164 to R167) -/

theorem Header.recorded_congr {s t : State} (h : ∀ ch, (t.port ch).feedback = (s.port ch).feedback) (x : Header) (stamp : Nat)
    (pos : Option Position) : x.recorded t stamp pos = x.recorded s stamp pos := by
  simp only [Header.recorded, h]

theorem State.wordsOf_congr {s t : State} (h : ∀ ch, (t.port ch).feedback = (s.port ch).feedback) (hdcu : t.dcu = s.dcu)
    (x : Header) : t.wordsOf x = s.wordsOf x := by
  simp only [State.wordsOf, h, State.drive_congr _ hdcu]

section records
variable {s : State} {h : Header}

/-- The state with a record written. -/
def State.recordTaken (s : State) (h : Header) (pos : Option Position) : State :=
  s.setRcu { (s.rcu.writeWords (s.wordsOf h)) with filling := some (h.recorded s s.pe.counter pos) }

theorem State.takeRecord_eq (s : State) (h : Header) (pos : Option Position) :
    s.takeRecord h pos
      = if h.records ≤ h.taken + 1 then (s.recordTaken h pos).completeCapture (h.recorded s s.pe.counter pos)
        else s.recordTaken h pos := rfl

/-- The record that is not the last joins the filling bank. -/
theorem State.takeRecord_rcu (hmore : h.taken + 1 < h.records) (hone : s.rcu.OneFills) (pos : Option Position) :
    (s.takeRecord h pos).rcu = { s.rcu with
      filling := some (h.recorded s s.pe.counter pos),
      bank0 := s.rcu.bank0.joined (s.wordsOf h), bank1 := s.rcu.bank1.joined (s.wordsOf h) } := by
  rw [State.takeRecord_eq, if_neg (by omega), State.recordTaken, State.setRcu_rcu, CaptureUnit.writeWords_eq hone]

/-- The last record completes the capture, and the banks change roles. -/
theorem State.takeRecord_rcu_last (hlast : h.records ≤ h.taken + 1) (hone : s.rcu.OneFills) {c : CaptureConfig}
    (hc : s.rcu.config = some c) (pos : Option Position) :
    (s.takeRecord h pos).rcu = s.rcu.completed c (h.recorded s s.pe.counter pos) (s.wordsOf h) := by
  rw [State.takeRecord_eq, if_pos hlast, State.recordTaken, CaptureUnit.writeWords_eq hone, State.completeCapture, State.raise_rcu,
    State.setRcu_rcu]
  simp only [State.setRcu_rcu, Bank.swapped_joined, CaptureUnit.completed, hc]
  rfl

theorem State.takeRecord_detail_last (hlast : h.records ≤ h.taken + 1) (hone : s.rcu.OneFills) (pos : Option Position) :
    ((s.takeRecord h pos).cause .capture).detail = some (.capture (some ((s.rcu.sequence + 1) % 4294967296))) := by
  rw [State.takeRecord_eq, if_pos hlast, State.recordTaken, CaptureUnit.writeWords_eq hone, State.completeCapture,
    State.raise_cause_same]
  rfl

end records

/-! ### The unit's handling of an update (R162, R165, R168) -/

section stage
variable {s : State}

theorem State.captureStage_of_goes_on {ts : List Trigger} (h : ts = [] ∨ s.completesNow = false) (pos : Option Position) :
    s.captureStage ts pos = (ts.foldl State.captureTrigger s).captureUpdate pos := by
  rcases h with rfl | h
  · rfl
  · simp [State.captureStage, h]

/-- In UNCONFIGURED triggers are ignored. -/
theorem State.foldl_captureTrigger_of_unconfigured (h : s.rcu.state = .unconfigured) :
    ∀ ts : List Trigger, ts.foldl State.captureTrigger s = s
  | [] => rfl
  | t :: rest => by
    have hignored : s.captureTrigger t = s := by simp [State.captureTrigger, h]
    rw [List.foldl_cons, hignored, State.foldl_captureTrigger_of_unconfigured h rest]

/-- In FILLING a trigger sets the missed flag. -/
theorem State.foldl_captureTrigger_of_filling :
    ∀ (ts : List Trigger) {s : State} {x : Header}, s.rcu.state = .filling → s.rcu.filling = some x →
      ts.foldl State.captureTrigger s
        = s.setRcu { s.rcu with filling := some { x with missed := x.missed || decide (0 < ts.length) } }
  | [], s, x, _, hx => by
    simp only [List.foldl_nil, List.length_nil, lt_irrefl, decide_false, Bool.or_false]
    rw [← hx]
    rfl
  | t :: rest, s, x, hs, hx => by
    have hmissed : s.captureTrigger t = s.setRcu { s.rcu with filling := some { x with missed := true } } := by
      simp [State.captureTrigger, hs, hx]
    rw [List.foldl_cons, hmissed, State.foldl_captureTrigger_of_filling rest (by exact hs) rfl]
    simp only [List.length_cons, Nat.zero_lt_succ, decide_true, Bool.or_true, Bool.true_or]
    rfl

/-- Without a capture that fills or starts, an update passes the unit by. -/
theorem State.captureStage_of_resting {ts : List Trigger}
    (h : s.rcu.state = .unconfigured ∨ s.rcu.state = .armed ∧ ts = []) (pos : Option Position) : s.captureStage ts pos = s := by
  rcases h with hs | ⟨hs, rfl⟩
  · rw [State.captureStage_of_goes_on (.inr (by simp [State.completesNow, hs])), State.foldl_captureTrigger_of_unconfigured hs]
    simp [State.captureUpdate, hs]
  · rw [State.captureStage_of_goes_on (.inl rfl)]
    simp [State.captureUpdate, hs]

/-- A record due is taken. -/
theorem State.captureUpdate_of_due {x : Header} (hs : s.rcu.state = .filling) (hx : s.rcu.filling = some x)
    (hdue : s.recordDue x = true) (pos : Option Position) : s.captureUpdate pos = s.takeRecord x pos := by
  simp [State.captureUpdate, hs, hx, hdue]

theorem State.captureUpdate_of_not_due {x : Header} (hs : s.rcu.state = .filling) (hx : s.rcu.filling = some x)
    (hdue : s.recordDue x = false) (pos : Option Position) : s.captureUpdate pos = s := by
  simp [State.captureUpdate, hs, hx, hdue]

/-- In ARMED the first trigger starts a capture whose first record is this update's; the others are missed (R162). -/
theorem State.captureStage_rcu_of_armed {c : CaptureConfig} {t : Trigger} {rest : List Trigger} {x : Header}
    (hs : s.rcu.state = .armed) (hc : s.rcu.config = some c) (hbank : s.rcu.bank0.role ≠ .filling) (hrecords : 2 ≤ c.records)
    (hx : x = { freshHeader c t with missed := decide (0 < rest.length) }) (pos : Option Position) :
    (s.captureStage (t :: rest) pos).rcu = { s.rcu with
      state := .filling, filling := some (x.recorded s s.pe.counter pos),
      bank0 := if s.rcu.bank0.role = .free then { role := .filling, words := s.wordsOf x } else s.rcu.bank0,
      bank1 := if s.rcu.bank0.role = .free then s.rcu.bank1 else { role := .filling, words := s.wordsOf x } } := by
  have hgoes : s.completesNow = false := by simp [State.completesNow, hs, hc]; omega
  have hstart : s.captureTrigger t
      = s.setRcu { s.rcu.startBank with state := .filling, filling := some (freshHeader c t) } := by
    simp [State.captureTrigger, hs, hc]
  have hrest : rest.foldl State.captureTrigger (s.captureTrigger t)
      = s.setRcu { s.rcu.startBank with state := .filling, filling := some x } := by
    rw [hstart, State.foldl_captureTrigger_of_filling rest rfl rfl, hx]
    rfl
  have hmore : ¬ x.records ≤ x.taken + 1 := by
    rw [hx]
    show ¬ c.records ≤ 0 + 1
    omega
  have hdue (u : State) : u.recordDue x = true := by rw [hx]; rfl
  rw [State.captureStage_of_goes_on (.inr hgoes), List.foldl_cons, hrest, State.captureUpdate_of_due rfl rfl (hdue _),
    State.takeRecord_eq, if_neg hmore, State.recordTaken, State.setRcu_rcu, State.setRcu_rcu,
    CaptureUnit.writeWords_startBank hbank]
  rfl

theorem State.recordDue_congr {s t : State} {x y : Header} (hcounter : t.pe.counter = s.pe.counter) (hstamp : y.stamp = x.stamp)
    (hdecimation : y.decimation = x.decimation) : t.recordDue y = s.recordDue x := by
  simp only [State.recordDue, hcounter, hstamp, hdecimation]

theorem State.recordDue_of_forall {x : Header} {stamp : Nat} (hstamp : s.pe.counter = stamp)
    (h : ∀ t0, x.stamp = some t0 → (stamp + 281474976710656 - t0) % 281474976710656 % x.decimation = 0) :
    s.recordDue x = true := by
  subst hstamp
  unfold State.recordDue
  split
  · rfl
  · next t0 ht0 => exact beq_iff_eq.mpr (h t0 ht0)

theorem State.recordDue_of_exists {x : Header} {stamp : Nat} (hstamp : s.pe.counter = stamp)
    (h : ∃ t0, x.stamp = some t0 ∧ (stamp + 281474976710656 - t0) % 281474976710656 % x.decimation ≠ 0) :
    s.recordDue x = false := by
  subst hstamp
  obtain ⟨t0, ht0, hoff⟩ := h
  simp only [State.recordDue, ht0]
  exact beq_eq_false_iff_ne.mpr hoff

/-- The state with another header that fills. -/
def State.setFilling (s : State) (y : Header) : State := s.setRcu { s.rcu with filling := some y }

section filling
variable {ts : List Trigger} {x y : Header} (hs : s.rcu.state = .filling) (hx : s.rcu.filling = some x)
  (hy : y = { x with missed := x.missed || decide (0 < ts.length) })
include hs hx hy

/-- In FILLING every trigger is missed, and the update's own handling follows (R162). -/
theorem State.captureStage_of_filling (hgoes : ts = [] ∨ s.recordDue x = false ∨ x.taken + 1 < x.records)
    (pos : Option Position) : s.captureStage ts pos = (s.setFilling y).captureUpdate pos := by
  have hgoes : ts = [] ∨ s.completesNow = false := hgoes.imp_right fun h => by
    simp only [State.completesNow, hs, hx, Bool.and_eq_false_iff, decide_eq_false_iff_not]
    exact h.imp_right not_le.mpr
  rw [State.captureStage_of_goes_on hgoes, State.foldl_captureTrigger_of_filling ts hs hx, hy]
  rfl

omit hs hx in
theorem State.recordDue_missed : (s.setFilling y).recordDue y = s.recordDue x :=
  State.recordDue_congr rfl (by rw [hy]) (by rw [hy])

/-- At an update whose record is not due the unit sets the missed flag at most (R165). -/
theorem State.captureStage_rcu_of_not_due (hdue : s.recordDue x = false) (pos : Option Position) :
    (s.captureStage ts pos).rcu = { s.rcu with filling := some y } := by
  rw [State.captureStage_of_filling hs hx hy (.inr (.inl hdue)),
    State.captureUpdate_of_not_due (s := s.setFilling y) (x := y) hs rfl ((State.recordDue_missed hy).trans hdue)]
  rfl

/-- At an update whose record is due the unit takes it (R165). -/
theorem State.captureStage_of_due (hgoes : ts = [] ∨ x.taken + 1 < x.records) (hdue : s.recordDue x = true)
    (pos : Option Position) : s.captureStage ts pos = (s.setFilling y).takeRecord y pos := by
  rw [State.captureStage_of_filling hs hx hy (hgoes.imp_right .inr),
    State.captureUpdate_of_due (s := s.setFilling y) (x := y) hs rfl ((State.recordDue_missed hy).trans hdue)]

theorem State.captureStage_rcu_of_due (hmore : x.taken + 1 < x.records) (hdue : s.recordDue x = true) (hone : s.rcu.OneFills)
    (pos : Option Position) :
    (s.captureStage ts pos).rcu = { s.rcu with
      filling := some { x.recorded s s.pe.counter pos with missed := y.missed },
      bank0 := s.rcu.bank0.joined (s.wordsOf x), bank1 := s.rcu.bank1.joined (s.wordsOf x) } := by
  have hmore' : y.taken + 1 < y.records := by rw [hy]; exact hmore
  rw [State.captureStage_of_due hs hx hy (.inr hmore) hdue, State.takeRecord_rcu (s := s.setFilling y) hmore' hone, hy]
  rfl

end filling

end stage

/-! ### CAPTURE_COMPLETE (R165, R167; log entry 1) -/

section complete
variable {s : State} {h : Header} (hs : s.rcu.state = .filling) (hh : s.rcu.filling = some h)
include hs hh

theorem exec_captureComplete_of_due (hlast : h.records ≤ h.taken + 1)
    (hdue : ∃ t0, h.stamp = some t0 ∧ (s.pe.counter + 281474976710656 - t0) % 281474976710656 = h.taken * h.decimation) :
    exec .captureComplete s = .next (s.takeRecord h s.position) := by
  obtain ⟨t0, ht0, hnow⟩ := hdue
  have hnext : s.nextRecordDue h = true := by
    simp only [State.nextRecordDue, ht0]
    exact beq_iff_eq.mpr hnow
  show execCaptureComplete s = _
  simp only [execCaptureComplete, hs, hh]
  exact if_pos ⟨hlast, hnext⟩

theorem exec_captureComplete_of_not_due
    (hoff : ∀ t0, h.stamp = some t0 → (s.pe.counter + 281474976710656 - t0) % 281474976710656 ≠ h.taken * h.decimation) :
    exec .captureComplete s = .next s := by
  have hnext : s.nextRecordDue h = false := by
    unfold State.nextRecordDue
    split
    · rfl
    · next t0 ht0 => exact beq_eq_false_iff_ne.mpr (hoff t0 ht0)
  show execCaptureComplete s = _
  simp only [execCaptureComplete, hs, hh, hnext]
  exact if_neg fun h => Bool.false_ne_true h.2

end complete

/-! ### The unit after an update -/

theorem keptByEngine_rcu : KeptByEngine State.rcu := by constructor <;> simp

@[simp] theorem State.engineUpdate_rcu (s : State) : s.engineUpdate.rcu = s.rcu := keptByEngine_rcu.engineUpdate s

/-- An update as the Response Capture Unit finds it: the engine's commands handed on, the windows closed. -/
def State.capturing (s : State) : State := s.countUpdate.engineUpdate.closeWindows

theorem State.capturing_rcu (s : State) : s.capturing.rcu = s.rcu := by
  rw [State.capturing, State.closeWindows_rcu, State.engineUpdate_rcu, State.countUpdate_rcu]

theorem State.capturing_counter (s : State) : s.capturing.pe.counter = (s.pe.counter + 1) % 281474976710656 := by
  rw [State.capturing, (State.closeWindows_runsTo _).counter, (State.engineUpdate_runsTo _).counter]
  rfl

theorem State.capturing_feedback (s : State) (ch : Nat) : (s.capturing.port ch).feedback = (s.port ch).feedback := by
  rw [State.capturing, State.closeWindows_feedback, State.port_congr ch (s.countUpdate.engineUpdate_cpc),
    State.port_congr ch s.countUpdate_cpc]

/-- What the unit makes of an update is what its stage makes. -/
theorem State.raiseUpdate_rcu (s : State) :
    s.raiseUpdate.rcu = (s.capturing.captureStage s.countUpdate.updateTriggers s.position).rcu := by
  rw [State.raiseUpdate_eq, State.portUpdate, State.sendRecords_rcu, State.recordHistory_rcu]
  rfl

theorem State.raiseUpdate_cause (s : State) (e : Cause) :
    s.raiseUpdate.cause e = (s.capturing.captureStage s.countUpdate.updateTriggers s.position).cause e := by
  rw [State.raiseUpdate_eq, State.portUpdate, State.cause_congr e (State.sendRecords_eu _),
    State.cause_congr e (State.recordHistory_eu _)]
  rfl

/-- The words of a record of an update: its last feedbacks, and its commands. -/
theorem State.raiseUpdate_wordsOf (s : State) (h : Header) : s.raiseUpdate.wordsOf h = s.capturing.wordsOf h := by
  refine State.wordsOf_congr (fun ch => ?_) ?_ h
  · rw [State.raiseUpdate_eq, State.portUpdate_feedback]
    rfl
  · rw [State.raiseUpdate_eq, State.portUpdate_dcu, State.capturing, State.closeWindows_dcu]

theorem State.capturing_recorded (s : State) (h : Header) (stamp : Nat) (pos : Option Position) :
    h.recorded s.capturing stamp pos = h.recorded s stamp pos :=
  Header.recorded_congr s.capturing_feedback h stamp pos

/-- The triggers that reach the unit at an update of `s`. -/
theorem State.countUpdate_updateTriggers_length (s : State) : s.countUpdate.updateTriggers.length = s.captureTriggers :=
  s.countUpdate.updateTriggers_length.trans (State.captureTriggers_congr s.countUpdate_mu rfl rfl)

section updates
variable {s : State}

theorem State.raiseUpdate_rcu_of_resting (h : s.rcu.state = .unconfigured ∨ s.rcu.state = .armed ∧ s.captureTriggers = 0) :
    s.raiseUpdate.rcu = s.rcu := by
  rw [State.raiseUpdate_rcu, State.captureStage_of_resting, State.capturing_rcu]
  rw [State.capturing_rcu]
  refine h.imp_right (And.imp_right fun hzero => List.length_eq_zero_iff.mp ?_)
  rw [State.countUpdate_updateTriggers_length, hzero]

/-- A capture that an update's first trigger starts takes its first record at it (R162). -/
theorem State.raiseUpdate_rcu_of_armed {c : CaptureConfig} {t : Trigger} {rest : List Trigger} {x : Header}
    (hs : s.rcu.state = .armed) (hc : s.rcu.config = some c) (hbank : s.rcu.bank0.role ≠ .filling) (hrecords : 2 ≤ c.records)
    (htriggers : s.countUpdate.updateTriggers = t :: rest)
    (hx : x = { freshHeader c t with missed := decide (1 < s.captureTriggers) }) :
    s.raiseUpdate.rcu = { s.rcu with
      state := .filling, filling := some (x.recorded s ((s.pe.counter + 1) % 281474976710656) s.position),
      bank0 := if s.rcu.bank0.role = .free then { role := .filling, words := s.raiseUpdate.wordsOf x } else s.rcu.bank0,
      bank1 := if s.rcu.bank0.role = .free then s.rcu.bank1 else { role := .filling, words := s.raiseUpdate.wordsOf x } } := by
  have hlength := s.countUpdate_updateTriggers_length
  rw [htriggers, List.length_cons] at hlength
  have hmissed : decide (0 < rest.length) = decide (1 < s.captureTriggers) := by
    rw [decide_eq_decide]
    omega
  rw [State.raiseUpdate_rcu, htriggers,
    State.captureStage_rcu_of_armed (c := c) (x := x) (by rw [State.capturing_rcu]; exact hs)
      (by rw [State.capturing_rcu]; exact hc) (by rw [State.capturing_rcu]; exact hbank) hrecords (by rw [hx, hmissed]),
    State.capturing_rcu, State.capturing_recorded, State.capturing_counter, State.raiseUpdate_wordsOf]

section filling
variable {x : Header} {missed : Bool} (hs : s.rcu.state = .filling) (hx : s.rcu.filling = some x)
include hs hx

theorem State.raiseUpdate_rcu_of_not_due (hmissed : missed = (x.missed || decide (0 < s.captureTriggers)))
    (hoff : ∃ t0, x.stamp = some t0
      ∧ ((s.pe.counter + 1) % 281474976710656 + 281474976710656 - t0) % 281474976710656 % x.decimation ≠ 0) :
    s.raiseUpdate.rcu = { s.rcu with filling := some { x with missed := missed } } := by
  have hdue := State.recordDue_of_exists s.capturing_counter hoff
  rw [← s.countUpdate_updateTriggers_length] at hmissed
  rw [State.raiseUpdate_rcu, State.captureStage_rcu_of_not_due (x := x) (by rw [State.capturing_rcu]; exact hs)
    (by rw [State.capturing_rcu]; exact hx) (by rw [← hmissed]) hdue, State.capturing_rcu]

theorem State.raiseUpdate_rcu_of_due (hmissed : missed = (x.missed || decide (0 < s.captureTriggers)))
    (hnow : ∀ t0, x.stamp = some t0 →
      ((s.pe.counter + 1) % 281474976710656 + 281474976710656 - t0) % 281474976710656 % x.decimation = 0)
    (hmore : x.taken + 1 < x.records) (hone : s.rcu.OneFills) :
    s.raiseUpdate.rcu = { s.rcu with
      filling := some { x.recorded s ((s.pe.counter + 1) % 281474976710656) s.position with missed := missed },
      bank0 := s.rcu.bank0.joined (s.raiseUpdate.wordsOf x), bank1 := s.rcu.bank1.joined (s.raiseUpdate.wordsOf x) } := by
  have hdue := State.recordDue_of_forall s.capturing_counter hnow
  rw [← s.countUpdate_updateTriggers_length] at hmissed
  rw [State.raiseUpdate_rcu, State.captureStage_rcu_of_due (x := x) (by rw [State.capturing_rcu]; exact hs)
    (by rw [State.capturing_rcu]; exact hx) (by rw [← hmissed]) hmore hdue (by rw [State.capturing_rcu]; exact hone),
    State.capturing_rcu, State.capturing_recorded, State.capturing_counter, State.raiseUpdate_wordsOf]

/-- An update whose record is due, and that makes no trigger. -/
theorem State.capturing_takes (htriggers : s.captureTriggers = 0)
    (hnow : ∀ t0, x.stamp = some t0 →
      ((s.pe.counter + 1) % 281474976710656 + 281474976710656 - t0) % 281474976710656 % x.decimation = 0) :
    s.capturing.captureStage s.countUpdate.updateTriggers s.position = s.capturing.takeRecord x s.position := by
  have hnone : s.countUpdate.updateTriggers = [] :=
    List.length_eq_zero_iff.mp (s.countUpdate_updateTriggers_length.trans htriggers)
  rw [hnone, State.captureStage_of_goes_on (.inl rfl), List.foldl_nil]
  exact State.captureUpdate_of_due (by rw [State.capturing_rcu]; exact hs) (by rw [State.capturing_rcu]; exact hx)
    (State.recordDue_of_forall s.capturing_counter hnow) _

/-- An update whose record is the last of a capture completes it (R167). -/
theorem State.raiseUpdate_of_last (htriggers : s.captureTriggers = 0)
    (hnow : ∀ t0, x.stamp = some t0 →
      ((s.pe.counter + 1) % 281474976710656 + 281474976710656 - t0) % 281474976710656 % x.decimation = 0)
    (hlast : x.records ≤ x.taken + 1) (hone : s.rcu.OneFills) {c : CaptureConfig} (hc : s.rcu.config = some c) :
    s.raiseUpdate.rcu
        = s.rcu.completed c (x.recorded s ((s.pe.counter + 1) % 281474976710656) s.position) (s.raiseUpdate.wordsOf x)
      ∧ (s.raiseUpdate.cause .capture).detail = some (.capture (some ((s.rcu.sequence + 1) % 4294967296))) := by
  have hone' : s.capturing.rcu.OneFills := by rw [State.capturing_rcu]; exact hone
  have hc' : s.capturing.rcu.config = some c := by rw [State.capturing_rcu]; exact hc
  constructor
  · rw [State.raiseUpdate_rcu, State.capturing_takes hs hx htriggers hnow, State.takeRecord_rcu_last hlast hone' hc',
      State.capturing_rcu, State.capturing_recorded, State.capturing_counter, State.raiseUpdate_wordsOf]
  · rw [State.raiseUpdate_cause, State.capturing_takes hs hx htriggers hnow, State.takeRecord_detail_last hlast hone',
      State.capturing_rcu]

end filling

end updates

end Sys2Proof.Machine
end

section
/-! The statement about a capture's records. -/

namespace Sys2Proof.Machine

open Sys2Proof

/-- Settles O40: CAPTURE_COMPLETE takes the record due (`exec_captureComplete_of_due`), and an update is the unit's stage between
the closing of the windows and the sending of the records (`State.raiseUpdate_rcu`), by capture state. -/
theorem captureCompleteResult : Obligations.CaptureCompleteResult := by
  refine ⟨fun h c words s hs hh hc hlast hone hwords => ⟨exec_captureComplete_of_not_due hs hh, fun hdue => ?complete⟩,
    fun i at' stamp s hraises hstamp => ⟨_, exec_of_raisesUpdate hraises, ?resting, ?armed, ?filling⟩⟩
  case complete =>
    obtain rfl : words = s.wordsOf h := hwords
    have hrcu := State.takeRecord_rcu_last (s := s) hlast hone hc s.position
    exact ⟨_, _, exec_captureComplete_of_due hs hh hlast hdue, congrArg CaptureUnit.sequence hrcu,
      congrArg CaptureUnit.filling hrcu, congrArg CaptureUnit.committed hrcu, rfl, congrArg CaptureUnit.state hrcu,
      (congrArg CaptureUnit.config hrcu).trans hc, congrArg CaptureUnit.bank0 hrcu, congrArg CaptureUnit.bank1 hrcu,
      State.takeRecord_detail_last hlast hone s.position, by simp, by simp, by simp, by simp, by simp, by simp, by simp, by simp,
      by simp⟩
  case resting => exact fun h => State.raiseUpdate_rcu_of_resting (s := s.tick at') h
  case armed =>
    intro c hs hc hbank hrecords htriggers
    subst hstamp
    obtain ⟨t, rest, hlist⟩ : ∃ t rest, (s.tick at').countUpdate.updateTriggers = t :: rest :=
      List.length_pos_iff_exists_cons.mp (by rw [(s.tick at').countUpdate_updateTriggers_length]; exact htriggers)
    have hhead := State.updateTriggers_head hlist
    rw [State.marksTriggering_congr (s := s) (s.tick at').countUpdate_mu rfl rfl] at hhead
    exact ⟨t.kind, t.unit, { freshHeader c t with missed := decide (1 < s.captureTriggers) }, hhead, rfl,
      State.raiseUpdate_rcu_of_armed (s := s.tick at') hs hc hbank hrecords hlist rfl⟩
  case filling =>
    intro h missed hs hh hmissed hone
    subst hstamp
    exact ⟨State.raiseUpdate_rcu_of_not_due (s := s.tick at') hs hh hmissed,
      fun hnow hmore => State.raiseUpdate_rcu_of_due (s := s.tick at') hs hh hmissed hnow hmore hone,
      fun c hc htriggers hlast hnow => State.raiseUpdate_of_last (s := s.tick at') hs hh htriggers hnow hlast hone hc⟩

end Sys2Proof.Machine
end

section
/-! The mark units at an update: the position they handle, the levels they take, and MARK, which nothing else of an update raises
(R145 to R149). -/

namespace Sys2Proof.Machine

open Sys2Proof

/-! ### The position handed to the mark units -/

/-- While a played update is computed the engine plays or has tripped, and its position stands. -/
def State.Holding (s : State) (pos : Option PlayPosition) : Prop :=
  (s.pe.state.playing = true ∨ s.pe.state = .tripped) ∧ s.playPosition = pos

theorem Context.mapStats_position (c : Context) (f : StatRecord → StatRecord) (s t : State) (hs : s.pe.ctx = some c)
    (ht : t.pe.ctx = some (c.mapStats f)) : t.playPosition = s.playPosition := by
  obtain ⟨tag, body, counted, overrun, cut, first, last, due⟩ := c
  cases body <;> simp [State.playPosition, hs, ht, Context.mapStats]

/-- The visit statistics are no part of the position. -/
theorem State.playPosition_of_mapStats {s t : State} {f : StatRecord → StatRecord}
    (h : t.pe.ctx = s.pe.ctx.map (·.mapStats f)) : t.playPosition = s.playPosition := by
  cases hc : s.pe.ctx with
  | none => simp [State.playPosition, h, hc]
  | some c => exact c.mapStats_position f s t hc (by rw [h, hc]; rfl)

theorem State.playPosition_congr {s t : State} (h : t.pe.ctx = s.pe.ctx) : t.playPosition = s.playPosition := by
  simp only [State.playPosition, h]

namespace State.Holding

variable {s t : State} {pos : Option PlayPosition}

theorem of_ctx (hstate : t.pe.state = s.pe.state) (hctx : t.pe.ctx = s.pe.ctx) (h : s.Holding pos) : t.Holding pos :=
  ⟨hstate ▸ h.1, (State.playPosition_congr hctx).trans h.2⟩

theorem of_playsOn {f : StatRecord → StatRecord} (hon : s.PlaysOn f t) (h : s.Holding pos) : t.Holding pos :=
  ⟨.inl hon.playing, (State.playPosition_of_mapStats hon.ctx).trans h.2⟩

theorem enterTripped (h : s.Holding pos) (cause : EngineCause) (ch : Option Nat) : (s.enterTripped cause ch).Holding pos :=
  ⟨.inr (by rw [State.enterTripped_pe]), (State.playPosition_congr (by rw [State.enterTripped_pe])).trans h.2⟩

/-- Every action leaves the engine playing or trips it; in TRIPPED none is applied (R85, R95). -/
theorem applyAction (h : s.Holding pos) (a : Action) (cause : EngineCause) (ch : Option Nat) :
    (s.applyAction a cause ch).Holding pos := by
  unfold State.applyAction
  dsimp only
  generalize hset : s.setPe _ = u
  have hstate : u.pe.state = s.pe.state := by rw [← hset]; rfl
  have hu : u.Holding pos := h.of_ctx hstate (by rw [← hset]; rfl)
  split
  · next happlies =>
    rcases h.1 with hplaying | htripped
    · by_cases ha : a = .trip
      · subst ha
        exact hu.enterTripped _ _
      · exact hu.of_playsOn (State.actionEffect_playsOn (by rw [hstate]; exact hplaying) ha cause ch)
    · cases a <;> simp [State.actionApplies, htripped] at happlies
  · exact hu

theorem fireDetector (h : s.Holding pos) (r : LimitRecord) : (s.fireDetector r).Holding pos := by
  have hraised : (s.raise .limit (some (.limit r))).Holding pos := h.of_ctx (by simp) (by simp)
  unfold State.fireDetector
  dsimp only
  split
  · exact hraised
  · exact hraised.applyAction _ _ _

theorem evalClamp (h : s.Holding pos) (ch : Nat) : (s.evalClamp ch).Holding pos := by
  have hset (l : ChannelLimits) : (s.setLimits ch l).Holding pos := h.of_ctx rfl rfl
  unfold State.evalClamp
  dsimp only
  split
  · split
    · exact (hset _).fireDetector _
    · exact hset _
  · exact h

theorem mapStat (h : s.Holding pos) (ch : Nat) (f : StatRecord → StatRecord) : (s.mapStat ch f).Holding pos := by
  have hpe := s.mapStat_pe ch f
  exact ⟨by rw [hpe]; exact h.1, (State.playPosition_of_mapStats (by rw [hpe])).trans h.2⟩

theorem handOn (h : s.Holding pos) (cr : Nat × DriveResult) : (s.handOn cr).Holding pos := by
  obtain ⟨ch, r⟩ := cr
  unfold State.handOn
  dsimp only
  generalize hu : s.setDrive ch { s.drive ch with lastOutput := r.command } = u
  have hset : u.Holding pos := h.of_ctx (by rw [← hu]; rfl) (by rw [← hu]; rfl)
  have hcounted : (if r.dynamic = true then u.mapStat ch (countIndications r) else u).Holding pos := by
    split
    · exact hset.mapStat _ _
    · exact hset
  split
  · exact hcounted.evalClamp ch
  · exact hcounted

theorem foldl_handOn : ∀ (results : List (Nat × DriveResult)) {s : State}, s.Holding pos →
    (results.foldl State.handOn s).Holding pos
  | [], _, h => h
  | cr :: rest, _, h => foldl_handOn rest (h.handOn cr)

end State.Holding

/-- The mark units handle the position that the update found (R87). -/
theorem State.handed_playPosition {s : State} (h : s.plays = true) : s.handed.playPosition = s.playPosition := by
  obtain ⟨hplaying, hsome⟩ := Bool.and_eq_true_iff.mp h
  obtain ⟨c, hc⟩ := Option.isSome_iff_exists.mp hsome
  have hpe := State.dropped_pe hc
  have hsame : s.rampStep.stampFirst.dropCaptureDue.playPosition = s.playPosition := by
    obtain ⟨tag, body, counted, overrun, cut, first, last, due⟩ := c
    simp only [State.playPosition, hpe, hc, Context.stamped]
    cases body <;> rfl
  have hhold : s.rampStep.stampFirst.dropCaptureDue.Holding s.playPosition :=
    ⟨.inl (by rw [hpe]; exact (Engine.ramped_state hplaying).1), hsame⟩
  exact (hhold.foldl_handOn _).2

/-! ### The levels (R147, R148) -/

/-- A unit with the level that an update gives its output. -/
def MarkUnit.moved (u : MarkUnit) (p : PlayPosition) : MarkUnit := { u with output := u.levelAfter p }

theorem State.markCompare_mu (p : PlayPosition) (s : State) (m : Nat) :
    (s.markCompare p m).mu = (s.setMark m ((s.mark m).moved p)).mu := by
  unfold State.markCompare MarkUnit.moved
  dsimp only
  (repeat' split) <;> simp

theorem State.markCompare_mark_same (p : PlayPosition) (s : State) {m : Nat} (h : m < 6) :
    (s.markCompare p m).mark m = (s.mark m).moved p :=
  (State.mark_congr m (State.markCompare_mu p s m)).trans (State.mark_setMark_same s m _ h)

theorem State.markStage_mark {s : State} {p : PlayPosition} (hp : s.playPosition = some p) {m : Nat} (h : m < 6) :
    s.markStage.mark m = (s.mark m).moved p := by
  have hfold := foldl_at (f := State.markCompare p) (view := fun t => t.mark m) (after := fun t => (t.mark m).moved p) m
    (fun t => State.markCompare_mark_same p t h) (fun t i hi => State.markCompare_mark_other p t hi.symm)
    (fun t i hi => congrArg (MarkUnit.moved · p) (State.markCompare_mark_other p t hi.symm)) allMarks s List.nodup_range
  rw [State.markStage, hp]
  exact hfold.trans (if_pos (List.mem_range.mpr h))

theorem State.markStage_of_none {s : State} (hp : s.playPosition = none) : s.markStage = s := by
  rw [State.markStage, hp]

/-- The table of the levels is the pass start's action, then the match's. -/
theorem MarkUnit.levelAfter_eq (u : MarkUnit) (p : PlayPosition) :
    u.levelAfter p = levelTable u.outputMode (u.isPassStart p) (u.isMatch p) u.output := by
  unfold MarkUnit.levelAfter
  cases u.outputMode <;> cases u.isPassStart p <;> cases u.isMatch p <;> rfl

/-- A unit that an update does not reach keeps its level. -/
theorem levelTable_of_unreached (o : OutputMode) (level : Bool) : levelTable o false false level = level := by
  cases o <;> rfl

/-- What follows the mark units in an update leaves them alone. -/
theorem State.playedUpdate_mu (s : State) : s.playedUpdate.mu = s.marked.mu := by
  unfold State.playedUpdate
  dsimp only
  split
  · rw [State.endRampOut_mu, State.advanceStage_mu]; exact State.stampLast_mu _
  · rw [State.advanceStage_mu]; exact State.stampLast_mu _

theorem State.restUpdate_mu (s : State) : s.restUpdate.mu = s.mu := by
  unfold State.restUpdate
  dsimp only
  split
  · rw [State.enterStopped_mu, State.foldl_handOn_mu]
  · rw [State.foldl_handOn_mu]

theorem State.engineUpdate_mark (s : State) {m : Nat} (h : m < 6) :
    s.engineUpdate.mark m = match s.markPosition with
      | none => s.mark m
      | some p => (s.mark m).moved p := by
  cases hplays : s.plays with
  | false =>
    have hnone : s.markPosition = none := by simp [State.markPosition, hplays]
    simp only [State.engineUpdate, hplays, hnone, Bool.false_eq_true, if_false]
    exact State.mark_congr m s.restUpdate_mu
  | true =>
    have hposition : s.markPosition = s.playPosition := if_pos hplays
    have hhanded := State.handed_playPosition hplays
    simp only [State.engineUpdate, hplays, hposition, if_true]
    rw [State.mark_congr m s.playedUpdate_mu, State.marked_eq]
    cases hp : s.playPosition with
    | none => rw [State.markStage_of_none (hhanded.trans hp), State.handed_mark]
    | some p => rw [State.markStage_mark (hhanded.trans hp) h, State.handed_mark]

/-- A unit in COMPARE takes the level of the table; every other keeps its own (R147, R148). -/
theorem State.raiseUpdate_mark (s : State) {m : Nat} (h : m < 6) :
    s.raiseUpdate.mark m = { s.mark m with
      output := levelTable (s.mark m).outputMode (decide (m ∈ s.marksStarted)) (decide (m ∈ s.marksHit))
        (s.mark m).output } := by
  have hunit : s.raiseUpdate.mark m = s.countUpdate.engineUpdate.mark m :=
    State.mark_congr m (by simp [State.raiseUpdate_eq, State.portUpdate])
  have hcounted : s.countUpdate.markPosition = s.markPosition := rfl
  rw [hunit, State.engineUpdate_mark _ h, hcounted, State.mark_congr m s.countUpdate_mu]
  cases hp : s.markPosition with
  | none => simp [State.marksStarted, State.marksHit, State.marksAt_of_none hp, levelTable_of_unreached]
  | some p =>
    have hstarted : decide (m ∈ s.marksStarted) = (s.mark m).isPassStart p := by
      rw [State.marksStarted_of_position hp]
      simp [allMarks, h]
    have hhit : decide (m ∈ s.marksHit) = (s.mark m).isMatch p := by
      rw [State.marksHit_of_position hp]
      simp [allMarks, h]
    rw [hstarted, hhit, ← MarkUnit.levelAfter_eq]
    rfl

/-! ### What raises another cause than MARK -/

/-- From `s` to `t` MARK is not raised: the cause and the set of units stand. -/
structure State.MarkStands (s t : State) : Prop where
  units : t.eu.markSet = s.eu.markSet
  cause : t.cause .mark = s.cause .mark

namespace State.MarkStands

variable {s t u : State}

theorem of_eu (h : t.eu = s.eu) : s.MarkStands t := ⟨by rw [h], State.cause_congr _ h⟩

theorem trans (h : s.MarkStands t) (h' : t.MarkStands u) : s.MarkStands u :=
  ⟨h'.units.trans h.units, h'.cause.trans h.cause⟩

theorem raise {c : Cause} (hc : Cause.mark ≠ c) (d : Option Detail) : s.MarkStands (s.raise c d) :=
  ⟨by rw [State.raise_eq]; rfl, State.raise_cause_other s d hc⟩

theorem foldl {α : Type} {f : State → α → State} (h : ∀ (s : State) a, s.MarkStands (f s a)) :
    ∀ (l : List α) (s : State), s.MarkStands (l.foldl f s)
  | [], _ => of_eu rfl
  | a :: rest, s => (h s a).trans (foldl h rest (f s a))

end State.MarkStands

theorem State.fireWatch_markStands (s : State) : s.MarkStands s.fireWatch := by
  unfold State.fireWatch
  split
  · exact .trans (.of_eu (by rfl)) (.raise (by decide) _)
  · exact .of_eu rfl

theorem State.enterState_markStands (s : State) (new : EngineState) (cause : Option EngineCause) :
    s.MarkStands (s.enterState new cause) := .trans (.of_eu (by rfl)) (.raise (by decide) _)

theorem State.enterStopped_markStands (s : State) (new : EngineState) (cause : Option EngineCause) :
    s.MarkStands (s.enterStopped new cause) := (s.enterState_markStands _ _).trans (State.fireWatch_markStands _)

theorem State.enterRampOut_markStands (s : State) (target : Target) (cause : EngineCause) :
    s.MarkStands (s.enterRampOut target cause) := .trans (.of_eu (by rfl)) (State.enterState_markStands _ _ _)

theorem State.enterTripped_markStands (s : State) (cause : EngineCause) (ch : Option Nat) :
    s.MarkStands (s.enterTripped cause ch) :=
  .trans (.of_eu (by rfl)) ((State.enterState_markStands _ _ _).trans
    (.trans (.raise (by decide) _) (State.fireWatch_markStands _)))

theorem State.retire_markStands : ∀ (n : Nat) (s : State), s.MarkStands (s.retire n)
  | 0, _ => .of_eu rfl
  | n + 1, s => by
    unfold State.retire
    split
    · exact .of_eu rfl
    · exact .trans (.of_eu (by rfl)) (.trans ⟨State.leaveEntry_markSet .., State.leaveEntry_cause_other _ _ _ (by decide)⟩
        (State.retire_markStands n _))

theorem State.realRun_markStands (s : State) (start : Nat) : s.MarkStands (s.realRun start) :=
  .trans (.of_eu (by rfl)) (State.retire_markStands _ _)

theorem State.releaseContext_markStands (s : State) : s.MarkStands s.releaseContext := by
  unfold State.releaseContext
  split
  · exact .of_eu rfl
  · split
    · exact .trans (.of_eu (s.endVisit_eu _)) (State.realRun_markStands _ _)
    · exact .of_eu (s.interruptVisit_eu _)

/-! ### Actions and detectors -/

theorem State.actionEffect_markStands (s : State) (a : Action) (cause : EngineCause) (ch : Option Nat) :
    s.MarkStands (s.actionEffect a cause ch) := by
  unfold State.actionEffect
  cases a with
  | note => exact .of_eu rfl
  | pause => exact s.enterRampOut_markStands _ _
  | trip => exact s.enterTripped_markStands _ _
  | stop =>
    dsimp only
    split
    · exact .of_eu rfl
    · exact .trans (.of_eu (by rfl)) ((State.enterStopped_markStands _ _ _).trans (State.releaseContext_markStands _))
    · exact s.enterRampOut_markStands _ _

theorem State.applyAction_markStands (s : State) (a : Action) (cause : EngineCause) (ch : Option Nat) :
    s.MarkStands (s.applyAction a cause ch) := by
  unfold State.applyAction
  dsimp only
  split
  · exact .trans (.of_eu (by rfl)) (State.actionEffect_markStands _ a cause ch)
  · exact .of_eu rfl

theorem State.fireDetector_markStands (s : State) (r : LimitRecord) : s.MarkStands (s.fireDetector r) := by
  unfold State.fireDetector
  dsimp only
  split
  · exact .raise (by decide) _
  · exact .trans (.raise (by decide) _) (State.applyAction_markStands _ _ _ _)

theorem State.evalClamp_markStands (s : State) (ch : Nat) : s.MarkStands (s.evalClamp ch) := by
  unfold State.evalClamp
  dsimp only
  split
  · split
    · exact .trans (.of_eu (by rfl)) (State.fireDetector_markStands _ _)
    · exact .of_eu rfl
  · exact .of_eu rfl

theorem State.handOn_markStands (s : State) (cr : Nat × DriveResult) : s.MarkStands (s.handOn cr) := by
  unfold State.handOn
  dsimp only
  split
  · refine .trans (.of_eu ?_) (State.evalClamp_markStands _ _)
    split
    · exact State.mapStat_eu _ _ _
    · rfl
  · split
    · exact .of_eu (State.mapStat_eu _ _ _)
    · exact .of_eu rfl

theorem State.closeWindow_markStands (s : State) (ch : Nat) : s.MarkStands (s.closeWindow ch) := by
  have hfault (t : State) (cause : FaultCause) : t.MarkStands (t.faultChannel ch cause) := by
    unfold State.faultChannel State.flagChange
    dsimp only
    split
    · exact .trans (.of_eu (by rfl)) (.trans (.raise (by decide) _) (State.applyAction_markStands _ _ _ _))
    · exact .trans (.of_eu (by rfl)) (.raise (by decide) _)
  obtain ⟨p, cause, h | h | h⟩ := s.closeWindow_cases ch
  · rw [h]; exact .of_eu rfl
  · rw [h]; exact .of_eu rfl
  · rw [h]; exact .trans (.of_eu (by rfl)) (hfault _ cause)

/-! ### Passes and visits -/

theorem State.reloadPoint_markStands (s : State) : s.MarkStands s.reloadPoint := by
  unfold State.reloadPoint
  split
  · split
    · refine .trans (.of_eu ?_) (State.fireWatch_markStands _)
      rw [State.latchPending_eu, State.setCtx_eu]
    · exact s.fireWatch_markStands
  · exact s.fireWatch_markStands

theorem State.beginVisit_markStands (s : State) : s.MarkStands s.beginVisit := by
  unfold State.beginVisit
  split
  · split
    · exact .of_eu rfl
    · exact .trans (.of_eu (by simp)) (State.reloadPoint_markStands _)
  · exact .trans (.of_eu (by simp)) (State.reloadPoint_markStands _)
  · exact .of_eu rfl

theorem State.overrunOut_markStands (s : State) (c : Context) (cause : EngineCause) : s.MarkStands (s.overrunOut c cause) :=
  (s.enterRampOut_markStands .idle cause).trans (.of_eu (by rfl))

theorem State.passEndPlaying_markStands (s : State) : s.MarkStands s.passEndPlaying := by
  unfold State.passEndPlaying
  split
  · exact .of_eu rfl
  · next c0 _ =>
    refine .trans (.of_eu (s.countPass_eu c0)) ?_
    dsimp only
    generalize (if c0.overrun then c0 else { c0 with counted := c0.counted + 1 }) = c
    split
    · split
      · exact State.overrunOut_markStands _ _ _
      · split
        · exact State.overrunOut_markStands _ _ _
        · exact .trans (.of_eu (State.endVisit_eu _ _))
            ((State.realRun_markStands _ _).trans (State.beginVisit_markStands _))
    · exact .trans (.of_eu (by rfl)) (State.reloadPoint_markStands _)

theorem State.endRampOut_markStands (s : State) : s.MarkStands s.endRampOut := by
  unfold State.endRampOut
  dsimp only
  split
  · exact .trans (.of_eu (by rfl)) (State.enterStopped_markStands _ _ _)
  · exact .trans (.of_eu (by rfl)) ((State.enterStopped_markStands _ _ _).trans (State.releaseContext_markStands _))

theorem State.advanceStage_markStands (s : State) : s.MarkStands s.advanceStage := by
  unfold State.advanceStage
  split
  · exact .of_eu rfl
  · split
    · split
      · split
        · exact .of_eu s.passEndRampOut_eu
        · exact s.passEndPlaying_markStands
      · exact .of_eu rfl
    · exact .of_eu rfl

theorem State.rampStep_markStands (s : State) : s.MarkStands s.rampStep := by
  unfold State.rampStep
  split
  · dsimp only
    split
    · exact .trans (.of_eu (by rfl)) (State.enterState_markStands _ _ _)
    · exact .of_eu rfl
  · exact .of_eu rfl
  · exact .of_eu rfl

/-! ### The stages of an update around the mark units -/

theorem State.handed_markStands (s : State) : s.MarkStands s.handed :=
  s.rampStep_markStands.trans (.trans (.of_eu (by simp)) (State.MarkStands.foldl State.handOn_markStands _ _))

theorem State.playedUpdate_markStands (s : State) : s.marked.MarkStands s.playedUpdate := by
  have hadvanced : s.marked.MarkStands s.marked.stampLast.advanceStage :=
    .trans (.of_eu (State.stampLast_eu _)) (State.advanceStage_markStands _)
  unfold State.playedUpdate
  dsimp only
  split
  · exact hadvanced.trans (State.endRampOut_markStands _)
  · exact hadvanced

theorem State.restUpdate_markStands (s : State) : s.MarkStands s.restUpdate := by
  have hhanded := State.MarkStands.foldl State.handOn_markStands s.computeAll s
  unfold State.restUpdate
  dsimp only
  split
  · exact hhanded.trans (State.enterStopped_markStands _ _ _)
  · exact hhanded

/-- The Response Capture Unit raises CAPTURE alone. -/
theorem State.captureStage_markStands (s : State) (ts : List Trigger) (pos : Option Position) :
    s.MarkStands (s.captureStage ts pos) := by
  have htrigger (t : State) (x : Trigger) : t.MarkStands (t.captureTrigger x) := .of_eu (t.captureTrigger_eu x)
  have htake (t : State) (h : Header) : t.MarkStands (t.takeRecord h pos) := by
    rw [State.takeRecord_eq]
    split
    · exact .trans (.of_eu (by rfl)) (.raise (by decide) _)
    · exact .of_eu rfl
  have hupdate (t : State) : t.MarkStands (t.captureUpdate pos) := by
    unfold State.captureUpdate
    split
    · split
      · exact htake t _
      · exact .of_eu rfl
    · exact .of_eu rfl
  have hlate (t : State) (x : Trigger) : t.MarkStands (t.lateTrigger pos x) := by
    unfold State.lateTrigger
    dsimp only
    split
    · exact (htrigger t x).trans (htake _ _)
    · exact htrigger t x
  unfold State.captureStage State.captureSplit
  split
  · exact (State.MarkStands.foldl htrigger _ s).trans ((hupdate _).trans (State.MarkStands.foldl hlate _ _))
  · exact (State.MarkStands.foldl htrigger _ s).trans (hupdate _)

theorem State.portUpdate_markStands (s : State) (ts : List Trigger) (pos : Option Position) :
    s.MarkStands (s.portUpdate ts pos) := by
  have hclosed : s.MarkStands s.closeWindows := State.MarkStands.foldl State.closeWindow_markStands allChannels s
  refine hclosed.trans ((State.captureStage_markStands _ ts pos).trans (.of_eu ?_))
  rw [State.portUpdate, State.sendRecords_eu, State.recordHistory_eu]

/-! ### MARK (R149) -/

/-- MARK once units have raised it one after the other, under one stamp. -/
def CauseState.markRaised (c : CauseState) (raised : List Nat) (stamp : Nat) : CauseState :=
  match raised.getLast? with
  | none => c
  | some m => { c with count := min 255 (c.count + raised.length), detail := some (.mark m stamp) }

theorem CauseState.markRaised_cons (c : CauseState) (m : Nat) (rest : List Nat) (stamp : Nat) :
    c.markRaised (m :: rest) stamp
      = CauseState.markRaised { c with count := min 255 (c.count + 1), detail := some (.mark m stamp) } rest stamp := by
  cases rest with
  | nil => rfl
  | cons x xs =>
    obtain ⟨last, hlast⟩ : ∃ last, (x :: xs).getLast? = some last := ⟨_, List.getLast?_eq_some_getLast (by simp)⟩
    have hcount : min 255 (c.count + (m :: x :: xs).length) = min 255 (min 255 (c.count + 1) + (x :: xs).length) := by
      simp only [List.length_cons]
      omega
    simp only [CauseState.markRaised, List.getLast?_cons_cons, hlast, hcount]

/-- Whether a unit raises MARK at a position. -/
def MarkUnit.raises (u : MarkUnit) (p : PlayPosition) : Bool := u.isMatch p && u.trigNotify

/-- A set of units, and those that raise MARK. -/
def unitsRaised (set : BitVec 6) (raised : List Nat) : BitVec 6 :=
  raised.foldl (fun set m => set ||| BitVec.ofNat 6 (2 ^ m)) set

theorem State.markCompare_eu (p : PlayPosition) (s : State) (m : Nat) :
    (s.markCompare p m).eu = if (s.mark m).raises p then (s.raiseMark m s.pe.counter).eu else s.eu := by
  have hraise (u : MarkUnit) : ((s.setMark m u).raiseMark m s.pe.counter).eu = (s.raiseMark m s.pe.counter).eu := by
    simp only [State.raiseMark, State.raise_eq]
    rfl
  unfold State.markCompare MarkUnit.raises
  dsimp only
  cases (s.mark m).isMatch p with
  | false => rfl
  | true => cases (s.mark m).trigNotify <;> cases (s.mark m).trigCut <;> simp [hraise]

theorem State.raiseMark_marks (s : State) (m stamp : Nat) :
    (s.raiseMark m stamp).eu.markSet = s.eu.markSet ||| BitVec.ofNat 6 (2 ^ m)
      ∧ (s.raiseMark m stamp).cause .mark
        = { s.cause .mark with count := min 255 ((s.cause .mark).count + 1), detail := some (.mark m stamp) } :=
  ⟨by rw [State.raiseMark, State.raise_eq]; rfl, State.raise_cause_same s .mark _⟩

/-- The units handle a position one by one, and those that raise MARK do so in their order. -/
theorem State.foldl_markCompare_marks (p : PlayPosition) :
    ∀ (ms : List Nat) (s : State), ms.Nodup →
      (ms.foldl (State.markCompare p) s).eu.markSet = unitsRaised s.eu.markSet (ms.filter fun m => (s.mark m).raises p)
        ∧ (ms.foldl (State.markCompare p) s).cause .mark
          = (s.cause .mark).markRaised (ms.filter fun m => (s.mark m).raises p) s.pe.counter
  | [], _, _ => ⟨rfl, rfl⟩
  | m :: rest, s, hnd => by
    obtain ⟨hnot, hrest⟩ := List.nodup_cons.mp hnd
    have hothers : rest.filter (fun j => ((s.markCompare p m).mark j).raises p) = rest.filter fun j => (s.mark j).raises p :=
      List.filter_congr fun j hj => by rw [State.markCompare_mark_other p s (by rintro rfl; exact hnot hj)]
    obtain ⟨hset, hcause⟩ := State.foldl_markCompare_marks p rest (s.markCompare p m) hrest
    have heu := State.markCompare_eu p s m
    rw [List.foldl_cons, hset, hcause, hothers, (State.markCompare_runsTo p s m).counter, List.filter_cons]
    split at heu
    · next hraises =>
      obtain ⟨hset', hcause'⟩ := s.raiseMark_marks m s.pe.counter
      rw [if_pos hraises, CauseState.markRaised_cons, heu, hset', State.cause_congr _ heu, hcause']
      exact ⟨rfl, rfl⟩
    · next hraises =>
      rw [if_neg hraises, heu, State.cause_congr _ heu]
      exact ⟨rfl, rfl⟩

/-- The units that raise MARK at the next update. -/
def State.marksRaising (s : State) : List Nat := s.marksHit.filter fun m => (s.mark m).trigNotify

theorem State.marksRaising_of_position {s : State} {p : PlayPosition} (h : s.markPosition = some p) :
    s.marksRaising = allMarks.filter fun m => (s.mark m).raises p := by
  rw [State.marksRaising, State.marksHit_of_position h, List.filter_filter]
  exact List.filter_congr fun m _ => Bool.and_comm _ _

theorem State.marksRaising_of_none {s : State} (h : s.markPosition = none) : s.marksRaising = [] := by
  rw [State.marksRaising, State.marksHit, State.marksAt_of_none h, List.filter_nil]

theorem State.handed_counter (s : State) : s.handed.pe.counter = s.pe.counter :=
  (s.rampStep_runsTo.trans ((State.stampFirst_runsTo _).trans ((State.dropCaptureDue_runsTo _).trans
    (State.RunsTo.foldl State.handOn_runsTo _ _)))).counter

/-- MARK after the engine's handling of an update: the units that raise it, ascending, under the update's stamp. -/
theorem State.engineUpdate_marks (s : State) :
    s.engineUpdate.eu.markSet = unitsRaised s.eu.markSet s.marksRaising
      ∧ s.engineUpdate.cause .mark = (s.cause .mark).markRaised s.marksRaising s.pe.counter := by
  cases hplays : s.plays with
  | false =>
    have hrest : s.engineUpdate = s.restUpdate := if_neg (Bool.eq_false_iff.mp hplays)
    rw [State.marksRaising_of_none (if_neg (Bool.eq_false_iff.mp hplays)), hrest]
    exact ⟨s.restUpdate_markStands.units, s.restUpdate_markStands.cause⟩
  | true =>
    have hplayed : s.engineUpdate = s.playedUpdate := if_pos hplays
    have hposition : s.markPosition = s.playPosition := if_pos hplays
    have hhanded := s.handed_markStands
    rw [hplayed, s.playedUpdate_markStands.units, s.playedUpdate_markStands.cause, State.marked_eq]
    cases hp : s.playPosition with
    | none =>
      rw [State.markStage_of_none ((State.handed_playPosition hplays).trans hp),
        State.marksRaising_of_none (hposition.trans hp)]
      exact ⟨hhanded.units, hhanded.cause⟩
    | some p =>
      obtain ⟨hset, hcause⟩ := State.foldl_markCompare_marks p allMarks s.handed List.nodup_range
      rw [State.markStage, (State.handed_playPosition hplays).trans hp, State.marksRaising_of_position (hposition.trans hp)]
      dsimp only
      rw [hset, hcause, hhanded.units, hhanded.cause, s.handed_counter]
      simp only [State.handed_mark, and_self]

theorem State.marksRaising_congr {s t : State} (hmu : t.mu = s.mu) (hstate : t.pe.state = s.pe.state)
    (hctx : t.pe.ctx = s.pe.ctx) : t.marksRaising = s.marksRaising := by
  simp only [State.marksRaising, State.marksHit, State.marksAt_congr hmu hstate hctx, State.mark_congr _ hmu]

/-- MARK after an update (R149, R175). -/
theorem State.raiseUpdate_marks (s : State) :
    s.raiseUpdate.eu.markSet = unitsRaised s.eu.markSet s.marksRaising
      ∧ s.raiseUpdate.cause .mark = (s.cause .mark).markRaised s.marksRaising ((s.pe.counter + 1) % 281474976710656) := by
  have hport := s.countUpdate.engineUpdate.portUpdate_markStands s.countUpdate.updateTriggers s.countUpdate.position
  obtain ⟨hset, hcause⟩ := s.countUpdate.engineUpdate_marks
  rw [State.marksRaising_congr s.countUpdate_mu rfl rfl] at hset hcause
  rw [State.raiseUpdate_eq, hport.units, hport.cause, hset, hcause]
  exact ⟨rfl, rfl⟩

end Sys2Proof.Machine
end

section
/-! The statement about an update, and the moments at which UPDATE, a sync edge and a sync loss are one (R98, R100, R101). -/

namespace Sys2Proof.Machine

open Sys2Proof

/-! ### The engine's settings, and what an update leaves alone -/

theorem keptByEngine_clock : KeptByEngine State.clock := by constructor <;> simp

theorem keptByEngine_pending : KeptByEngine State.pending := by constructor <;> simp

theorem keptByEngine_order : KeptByEngine fun s => s.cs.order := by constructor <;> simp

theorem State.raiseUpdate_clock (s : State) : s.raiseUpdate.clock = s.clock := by
  have hengine := keptByEngine_clock.engineUpdate s.countUpdate
  simp [State.raiseUpdate_eq, State.portUpdate, hengine]

theorem State.raiseUpdate_pending (s : State) : s.raiseUpdate.pending = s.pending := by
  have hengine := keptByEngine_pending.engineUpdate s.countUpdate
  simp [State.raiseUpdate_eq, State.portUpdate, hengine]

theorem State.raiseUpdate_order (s : State) : s.raiseUpdate.cs.order = s.cs.order := by
  have hengine := keptByEngine_order.engineUpdate s.countUpdate
  simp [State.raiseUpdate_eq, State.portUpdate, hengine]

/-- Of the settings an update moves the counter alone, by one. -/
theorem State.raiseUpdate_settings (s : State) :
    s.raiseUpdate.pe.counter = (s.pe.counter + 1) % 281474976710656 ∧ s.raiseUpdate.pe.rate = s.pe.rate
      ∧ s.raiseUpdate.pe.source = s.pe.source ∧ s.raiseUpdate.pe.ri = s.pe.ri ∧ s.raiseUpdate.pe.ro = s.pe.ro := by
  have h := s.raiseUpdate_runsTo.settings
  simp only [Engine.settings, Prod.mk.injEq] at h
  obtain ⟨hrate, hsource, hri, hro, hcounter⟩ := h
  exact ⟨hcounter, hrate, hsource, hri, hro⟩

/-! ### A port after an update, by its window and state (R113, R115 to R117) -/

section port
variable {p : Port} (stamp : Nat) (command : Int)

theorem Port.recordSent_of_answered (h : ∀ w, p.window = some w → w.answered = true) :
    p.windowClosed.recordSent stamp command = p.recordSent stamp command := by
  cases hw : p.window with
  | none => rw [Port.windowClosed_of_none hw]
  | some w =>
    rw [Port.windowClosed_of_answered hw (h w hw)]
    rfl

section missing
variable {w : Window} (hw : p.window = some w) (ha : w.answered = false)
include hw ha

theorem Port.recordSent_of_linking (hs : p.state = .linking) (h : p.linkCount.getD 0 + 1 < 256) :
    p.windowClosed.recordSent stamp command
      = Port.recordSent { p with linkCount := some (p.linkCount.getD 0 + 1) } stamp command := by
  rw [Port.windowClosed_of_linking hw ha hs, Port.unlinked, if_neg (by omega)]
  rfl

theorem Port.recordSent_of_noLink (hs : p.state = .linking) (h : 256 ≤ p.linkCount.getD 0 + 1) :
    p.windowClosed.recordSent stamp command = { p.faulted .noLink with window := none } := by
  rw [Port.windowClosed_of_linking hw ha hs, Port.unlinked, if_pos h]
  rfl

theorem Port.recordSent_of_missed (hs : p.state = .standby ∨ p.state = .engaged) (h : p.missCount < 2) :
    p.windowClosed.recordSent stamp command = Port.recordSent { p with missCount := p.missCount + 1 } stamp command := by
  rw [Port.windowClosed_of_live hw ha hs, Port.missed, if_neg (by omega)]
  rfl

theorem Port.recordSent_of_linkLost (hs : p.state = .standby ∨ p.state = .engaged) (h : 2 ≤ p.missCount) :
    p.windowClosed.recordSent stamp command = { p.faulted .linkLost with missCount := p.missCount + 1, window := none } := by
  rw [Port.windowClosed_of_live hw ha hs, Port.missed, if_pos h]
  rfl

theorem Port.recordSent_of_dead (hs : p.state = .off ∨ p.state = .fault) :
    p.windowClosed.recordSent stamp command = { p with window := none } := by
  rw [Port.windowClosed_of_dead hw ha hs]
  rcases hs with hs | hs <;> simp [Port.recordSent, hs]

end missing

end port

/-! ### The timebase's events (R98, R100) -/

section timebase
variable {s : State} {at' : Nat}

/-- An edge once the loss has come is the loss (log entry 2). -/
theorem exec_syncEdge_of_lost (hsource : s.pe.source = .externalSync) (hlost : (s.tick at').syncLost = true) :
    exec (.syncEdge at') s = .next (s.tick at').loseSync := by
  show execSyncEdge at' s = _
  simp [execSyncEdge, hsource, hlost]

theorem exec_syncLoss_of_lost (hsource : s.pe.source = .externalSync) (hlost : (s.tick at').syncLost = true) :
    exec (.syncLoss at') s = .next (s.tick at').loseSync := if_pos ⟨hsource, hlost⟩

theorem exec_syncLoss_of_not_lost (h : s.pe.source = .internal ∨ (s.tick at').syncLost = false) :
    exec (.syncLoss at') s = .next { s with clock := max s.clock at' } := by
  refine if_neg fun hboth => ?_
  obtain ⟨hsource, hlost⟩ := hboth
  rcases h with h | h
  · exact absurd (h.symm.trans hsource) (by decide)
  · exact absurd (h.symm.trans hlost) (by decide)

/-- An edge less than half a period after the previous update raises nothing. -/
theorem exec_syncEdge_of_soon {last : Nat} (hsource : s.pe.source = .externalSync) (hlost : (s.tick at').syncLost = false)
    (hlast : s.pe.lastUpdateAt = some last) (hsoon : (max s.clock at' - last) * 2 * s.pe.rate < 3276800000) :
    exec (.syncEdge at') s = .next { s with clock := max s.clock at' } := by
  have hqualifies : (s.tick at').edgeQualifies = false := by
    have hlast : (s.tick at').pe.lastUpdateAt = some last := hlast
    simp only [State.edgeQualifies, hlast]
    exact decide_eq_false (not_le.mpr hsoon)
  show execSyncEdge at' s = _
  simp only [execSyncEdge, hlost, hqualifies]
  exact if_pos hsource

/-- The engine after a TRIP, whether it has tripped before or not (R85, R95). -/
theorem State.applyAction_trip_pe (s : State) (cause : EngineCause) (ch : Option Nat) :
    (s.applyAction .trip cause ch).pe.state = .tripped
      ∧ (s.applyAction .trip cause ch).pe.lam = (if s.pe.state = .tripped then s.pe.lam else 0)
      ∧ (s.applyAction .trip cause ch).pe.settings = s.pe.settings := by
  refine ⟨?_, ?_, (s.applyAction_runsTo .trip cause ch).settings⟩
  all_goals
    unfold State.applyAction
    cases h : s.pe.state <;> simp [State.actionApplies, State.actionEffect, State.enterTripped_pe, h]

/-- A sync loss: INTERNAL, the TRIP, and an update that TRIPPED holds (R100; log entry 13). -/
theorem State.loseSync_result (s : State) :
    s.loseSync.pe.source = .internal ∧ s.loseSync.pe.rate = s.pe.rate ∧ s.loseSync.pe.state = .tripped
      ∧ s.loseSync.pe.lam = (if s.pe.state = .tripped then s.pe.lam else 0)
      ∧ s.loseSync.pe.counter = (s.pe.counter + 1) % 281474976710656 ∧ s.loseSync.dcu = s.dcu
      ∧ s.loseSync.cs.points = s.cs.points ∧ s.loseSync.clock = s.clock ∧ s.loseSync.pending = s.pending := by
  obtain ⟨hstate, hlam, hsettings⟩ :=
    (s.setPe { s.pe with source := .internal }).applyAction_trip_pe .timebaseLost none
  simp only [Engine.settings, Prod.mk.injEq, State.setPe_pe] at hsettings
  obtain ⟨hrate, hsource, -, -, hcounter⟩ := hsettings
  rw [State.loseSync]
  generalize hu : (s.setPe { s.pe with source := .internal }).applyAction .trip .timebaseLost none = u at *
  obtain ⟨hdcu, hpe⟩ := State.raiseUpdate_of_tripped hstate
  rw [hdcu, hpe, u.raiseUpdate_clock, u.raiseUpdate_pending, u.raiseUpdate_storeKept.points]
  refine ⟨hsource, hrate, hstate, hlam, ?_, ?_, ?_, ?_, ?_⟩
  · exact congrArg (fun n => (n + 1) % 281474976710656) hcounter
  all_goals rw [← hu]; simp

end timebase

/-- Settles O47: an update's counter, ports, levels and MARK by the lemmas of its stages, and the timebase's events by their
moments. -/
theorem updateResult : Obligations.UpdateResult := by
  intro at' s
  refine ⟨fun i hraises => ?update, fun hsource => ?edgeInternal, fun hsource => ?updateExternal,
    fun last hsource hlast hnear hsoon => ?edgeSoon, fun hsource hlate => ?edgeLate, fun hearly => ?lossEarly,
    fun hsource hlate => ?loss⟩
  case update =>
    obtain ⟨hcounter, hrate, hsource, hri, hro⟩ := (s.tick at').raiseUpdate_settings
    obtain ⟨hmode, hready⟩ := (s.tick at').raiseUpdate_rig
    have hstore := (s.tick at').raiseUpdate_storeKept
    refine ⟨_, exec_of_raisesUpdate hraises, hcounter, hrate, hsource, hri, hro, hmode, hready, hstore.points, hstore.freePages,
      (s.tick at').raiseUpdate_order, (s.tick at').raiseUpdate_clock, (s.tick at').raiseUpdate_pending, ?port, ?level, ?mark⟩
    case port =>
      rintro ch stamp p command hch rfl rfl rfl
      have hport := (s.tick at').raiseUpdate_port hch
      exact ⟨fun h => hport.trans (Port.recordSent_of_answered _ _ h), fun w hw ha =>
        ⟨fun hs h => hport.trans (Port.recordSent_of_linking _ _ hw ha hs h),
          fun hs h => hport.trans (Port.recordSent_of_noLink _ _ hw ha hs h),
          fun hs h => hport.trans (Port.recordSent_of_missed _ _ hw ha hs h),
          fun hs h => hport.trans (Port.recordSent_of_linkLost _ _ hw ha hs h),
          fun hs => hport.trans (Port.recordSent_of_dead _ _ hw ha hs)⟩⟩
    case level =>
      rintro m level hm rfl
      exact (s.tick at').raiseUpdate_mark hm
    case mark =>
      rintro raised rfl
      exact (s.tick at').raiseUpdate_marks
  case edgeInternal => exact if_neg (by exact fun h => absurd (hsource.symm.trans h) (by decide))
  case updateExternal => exact if_neg (by exact fun h => absurd (hsource.symm.trans h) (by decide))
  case edgeSoon => exact exec_syncEdge_of_soon hsource (decide_eq_false (not_le.mpr hnear)) hlast hsoon
  case edgeLate =>
    have hlost : (s.tick at').syncLost = true := decide_eq_true hlate
    rw [exec_syncEdge_of_lost hsource hlost, exec_syncLoss_of_lost hsource hlost]
  case lossEarly => exact exec_syncLoss_of_not_lost (hearly.imp_right fun h => decide_eq_false (not_le.mpr h))
  case loss => exact ⟨_, exec_syncLoss_of_lost hsource (decide_eq_true hlate), (s.tick at').loseSync_result⟩

end Sys2Proof.Machine
end

section
/-! The law of the owners, kept by everything that changes a port, and so by every step (R110). -/

namespace Sys2Proof.Machine

open Sys2Proof

/-! ### The law of one port (R110) -/

/-- The port is not ENGAGED while its channel's owner is LOCAL. -/
def Port.OwnerLawful (p : Port) : Prop := p.owner = .local → p.state ≠ .engaged

namespace Port.OwnerLawful

variable {p q : Port}

theorem of_kept (h : p.OwnerLawful) (howner : q.owner = p.owner) (hstate : q.state = p.state) : q.OwnerLawful := by
  rwa [Port.OwnerLawful, howner, hstate]

theorem of_not_engaged (h : q.state ≠ .engaged) : q.OwnerLawful := fun _ => h

theorem of_replay (h : q.owner = .replay) : q.OwnerLawful := fun hlocal => absurd (h.symm.trans hlocal) (by decide)

theorem recordSent (h : p.OwnerLawful) (stamp : Nat) (command : Int) : (p.recordSent stamp command).OwnerLawful :=
  h.of_kept rfl rfl

/-- A port whose record is missing stands as it stood, or in FAULT (R115 to R117). -/
theorem missed (h : p.OwnerLawful) : p.missed.OwnerLawful := by
  unfold Port.missed
  split
  · exact .of_not_engaged nofun
  · exact h.of_kept rfl rfl

theorem unlinked (h : p.OwnerLawful) : p.unlinked.OwnerLawful := by
  unfold Port.unlinked
  split
  · exact .of_not_engaged nofun
  · exact h.of_kept rfl rfl

theorem windowClosed (h : p.OwnerLawful) : p.windowClosed.OwnerLawful := by
  unfold Port.windowClosed
  split
  · exact h
  split
  · exact h.of_kept rfl rfl
  split
  · exact h.unlinked
  · exact h.missed
  · exact h.missed
  · exact h.of_kept rfl rfl
  · exact h.of_kept rfl rfl

end Port.OwnerLawful

/-- A port that has left ENGAGED is not ENGAGED. -/
theorem Port.disengaged_state_ne (p : Port) : p.disengaged.state ≠ .engaged := by
  unfold Port.disengaged
  split
  · nofun
  · next h => exact h

/-! ### The law of the ports -/

/-- No channel beyond the sixteen is ENGAGED, so the law may be read of every number. -/
theorem State.localNotEngaged_iff {s : State} : s.LocalNotEngaged ↔ ∀ ch, (s.port ch).OwnerLawful := by
  refine ⟨fun h ch => ?_, fun h ch _ => h ch⟩
  by_cases hch : ch < 16
  · exact h ch hch
  · have hreset : s.port ch = Port.reset := by simp [State.port, hch]
    exact .of_not_engaged (by rw [hreset]; nofun)

namespace State.LocalNotEngaged

variable {s t : State}

theorem port (hs : s.LocalNotEngaged) (ch : Nat) : (s.port ch).OwnerLawful := State.localNotEngaged_iff.mp hs ch

theorem congr (h : t.cpc.ports = s.cpc.ports) (hs : s.LocalNotEngaged) : t.LocalNotEngaged := by
  simpa only [State.LocalNotEngaged, State.port, h] using hs

theorem setPort (hs : s.LocalNotEngaged) (ch : Nat) {p : Port} (hp : p.OwnerLawful) : (s.setPort ch p).LocalNotEngaged := by
  intro j hj
  by_cases hch : j = ch
  · subst hch
    rw [State.port_setPort_same s j p hj]
    exact hp
  · rw [State.port_setPort_other s ch j p hch]
    exact hs j hj

theorem mapPorts {f : Nat → Port → Port} (hf : ∀ ch, (f ch (s.port ch)).OwnerLawful)
    (h : t.cpc.ports = s.cpc.ports.mapIdx f) : t.LocalNotEngaged := by
  intro ch hch
  have hport : t.port ch = f ch (s.port ch) := by simp [State.port, h, hch]
  rw [hport]
  exact hf ch

theorem foldl {f : State → Nat → State} (hf : ∀ t ch, State.LocalNotEngaged t → (f t ch).LocalNotEngaged) (l : List Nat)
    (hs : s.LocalNotEngaged) : (l.foldl f s).LocalNotEngaged :=
  List.foldlRecOn l f hs fun t ht ch _ => hf t ch ht

/-! ### Events of the ports (R113 to R118) -/

theorem flagChange (hs : s.LocalNotEngaged) (ch : Nat) : (s.flagChange ch).LocalNotEngaged :=
  (hs.setPort ch ((hs.port ch).of_kept (q := { s.port ch with changed := true }) rfl rfl)).congr (by simp [State.flagChange])

/-- A channel in FAULT is not ENGAGED (R117). -/
theorem faultChannel (hs : s.LocalNotEngaged) {ch : Nat} (hch : ch < 16) (cause : FaultCause) :
    (s.faultChannel ch cause).LocalNotEngaged := by
  have hcpc := s.faultChannel_setPort_cpc hch (s.port ch) cause
  rw [State.setPort_port] at hcpc
  exact (hs.setPort ch (p := (s.port ch).faulted cause) (.of_not_engaged nofun)).congr (by rw [hcpc])

theorem closeWindow (hs : s.LocalNotEngaged) (ch : Nat) : (s.closeWindow ch).LocalNotEngaged :=
  (hs.setPort ch (hs.port ch).windowClosed).congr (by rw [s.closeWindow_cpc])

theorem takeResponse (hs : s.LocalNotEngaged) {ch : Nat} (hch : ch < 16) (w : Window) (f sp : Int) (st : ServoStatus) :
    (s.takeResponse ch w f sp st).LocalNotEngaged := by
  unfold State.takeResponse
  generalize hq : ({ s.port ch with window := _, missCount := 0, feedback := _, setpoint := _ } : Port) = q
  have hq : q.OwnerLawful := (hs.port ch).of_kept (by rw [← hq]) (by rw [← hq])
  have htaken : (s.setPort ch q).LocalNotEngaged := hs.setPort ch hq
  unfold State.actOnStatus
  split
  · exact htaken.faultChannel hch _
  · refine (htaken.setPort ch ?_).flagChange ch
    exact .of_not_engaged nofun
  · exact htaken.congr (by simp)
  · exact htaken

/-- At an update each port's window closes and its record is sent, and neither engages a channel. -/
theorem raiseUpdate (hs : s.LocalNotEngaged) : s.raiseUpdate.LocalNotEngaged := by
  intro ch hch
  rw [s.raiseUpdate_port hch]
  exact (hs.port ch).windowClosed.recordSent _ _

/-! ### Requests of the ports (R105 to R112, R119) -/

theorem channelPowerOn (hs : s.LocalNotEngaged) (ch : Nat) : (takeChannelPowerOn ch s).1.LocalNotEngaged := by
  unfold takeChannelPowerOn
  split
  · exact hs
  split
  case h_2 => exact hs.setPort ch (.of_not_engaged nofun)
  all_goals exact hs

theorem channelPowerOff (hs : s.LocalNotEngaged) (ch : Nat) : (takeChannelPowerOff ch s).1.LocalNotEngaged := by
  unfold takeChannelPowerOff
  split
  · exact hs
  split
  · exact hs
  split
  · exact hs
  · exact hs.setPort ch (.of_not_engaged nofun)

theorem giveReplay (hs : s.LocalNotEngaged) (ch : Nat) : (s.giveReplay ch).LocalNotEngaged := by
  unfold State.giveReplay
  split
  · exact (hs.setPort ch (.of_replay rfl)).flagChange ch
  · exact hs

/-- A channel given to LOCAL leaves ENGAGED (R108). -/
theorem giveLocal (hs : s.LocalNotEngaged) (ch : Nat) : (s.giveLocal ch).LocalNotEngaged := by
  unfold State.giveLocal
  split
  · refine (hs.setPort ch ?_).flagChange ch
    exact .of_not_engaged (s.port ch).disengaged_state_ne
  · exact hs

theorem setRigMode (hs : s.LocalNotEngaged) (mode : Nat) : (takeSetRigMode mode s).1.LocalNotEngaged := by
  unfold takeSetRigMode
  split
  · exact hs
  · unfold takeRigModeReplay
    rw [accept_fst]
    exact foldl (fun _ ch ht => ht.giveReplay ch) _ (hs.congr rfl)
  · unfold takeRigModeLocal
    split
    · exact hs
    · rw [accept_fst]
      exact foldl (fun _ ch ht => ht.giveLocal ch) _ (hs.congr rfl)

theorem setChannelOwner (hs : s.LocalNotEngaged) (ch owner : Nat) : (takeSetChannelOwner ch owner s).1.LocalNotEngaged := by
  unfold takeSetChannelOwner
  split
  · exact hs
  split
  · exact hs
  split
  · split
    · exact hs
    · exact hs.setPort ch (.of_replay rfl)
  · split
    · exact hs
    · exact hs.setPort ch (.of_not_engaged (s.port ch).disengaged_state_ne)

/-- Only a channel of owner REPLAY is engaged (R111). -/
theorem engage (hs : s.LocalNotEngaged) (ch : Nat) : (takeEngage ch s).1.LocalNotEngaged := by
  unfold takeEngage
  split
  · exact hs
  split
  · exact hs
  split
  · exact hs
  split
  · exact hs
  next howner =>
  split
  · exact hs
  · exact (hs.setPort ch (p := { s.port ch with state := .engaged }) (.of_replay (not_not.mp howner))).congr rfl

theorem release (hs : s.LocalNotEngaged) (ch : Nat) : (takeRelease ch s).1.LocalNotEngaged := by
  unfold takeRelease
  split
  · exact hs
  split
  · exact hs
  split
  · exact hs
  · exact hs.setPort ch (.of_not_engaged nofun)

theorem acknowledgeChannels (hs : s.LocalNotEngaged) (mask : Nat) : (takeAcknowledgeChannels mask s).1.LocalNotEngaged := by
  refine mapPorts (f := fun ch p => if mask.testBit ch then { p with changed := false } else p) (fun ch => ?_) rfl
  split
  · exact (hs.port ch).of_kept rfl rfl
  · exact hs.port ch

end State.LocalNotEngaged

/-! ### The requests that change no port -/

/-- The requests that can change a port. -/
def movesPorts : Request → Bool
  | .channelPowerOn .. => true | .channelPowerOff .. => true | .setRigMode .. => true | .setChannelOwner .. => true
  | .engage .. => true | .release .. => true | .acknowledgeChannels .. => true
  | _ => false

theorem takeFlushQueue_cpc (s : State) : (takeFlushQueue s).1.cpc = s.cpc := by
  unfold takeFlushQueue
  split
  · rfl
  · exact foldl_keeps State.cpc (fun t e => t.leaveEntry true e) (fun t e => t.leaveEntry_cpc true e) _ _

theorem takeFreeClip_cpc (id : Nat) (s : State) : (takeFreeClip id s).1.cpc = s.cpc := by
  rcases takeFreeClip_cases id s with h | ⟨-, -, -, h⟩
  · rw [h]
  · rw [h]
    split <;> simp

theorem takeEnableEvents_cpc (mask : Nat) (s : State) : (takeEnableEvents mask s).1.cpc = s.cpc := by
  unfold takeEnableEvents
  split
  · rfl
  · refine foldl_keeps State.cpc (State.announce s) (fun t c => ?_) _ _
    unfold State.announce
    split <;> simp

/-- Every other request leaves the ports as they were. -/
theorem takingOf_cpc {r : Request} (h : movesPorts r = false) (s : State) : (takingOf r s).1.cpc = s.cpc := by
  cases r <;> first | contradiction | skip
  case openClip => simp only [takingOf, takeOpenClip]; (repeat' split) <;> rfl
  case clipData => simp only [takingOf, takeClipData]; (repeat' split) <;> rfl
  case closeClip => simp only [takingOf, takeCloseClip]; (repeat' split) <;> simp
  case freeClip => exact takeFreeClip_cpc _ s
  case clipInfo => simp only [takingOf, takeClipInfo]; split <;> rfl
  case storeInfo => rfl
  case appendEntry => simp only [takingOf, takeAppendEntry]; (repeat' split) <;> simp
  case modifyEntry => simp only [takingOf, takeModifyEntry]; (repeat' split) <;> simp
  case flushQueue => exact takeFlushQueue_cpc s
  case readQueue => simp only [takingOf, takeReadQueue]; (repeat' split) <;> rfl
  case readDone => rfl
  case advanceWatch => simp only [takingOf, takeAdvanceWatch]; split <;> simp
  case start => simp only [takingOf, takeStart]; (repeat' split) <;> simp
  case pause => simp only [takingOf, takePause]; split <;> simp
  case resume => simp only [takingOf, takeResume]; (repeat' split) <;> simp
  case stop => simp only [takingOf, takeStop]; (repeat' split) <;> simp
  case clearTrip => simp only [takingOf, takeClearTrip]; (repeat' split) <;> simp
  case setRamp => simp only [takingOf, takeSetRamp]; split <;> rfl
  case setTimebase => simp only [takingOf, takeSetTimebase]; (repeat' split) <;> rfl
  case readEngine => rfl
  case configureChannel => simp only [takingOf, takeConfigureChannel]; split <;> rfl
  case writeGainSet => simp only [takingOf, takeWriteGainSet]; (repeat' split) <;> rfl
  case readGainSet => simp only [takingOf, takeReadGainSet]; split <;> rfl
  case readChannel => simp only [takingOf, takeReadChannel]; split <;> rfl
  case configureLimits => simp only [takingOf, takeConfigureLimits]; (repeat' split) <;> rfl
  case configureMark => simp only [takingOf, takeConfigureMark]; (repeat' split) <;> rfl
  case setMarkOutput => simp only [takingOf, takeSetMarkOutput]; (repeat' split) <;> rfl
  case readMark => simp only [takingOf, takeReadMark]; (repeat' split) <;> rfl
  case configureCapture => simp only [takingOf, takeConfigureCapture]; (repeat' split) <;> rfl
  case captureTrigger => simp only [takingOf, takeCaptureTrigger]; split <;> simp
  case abortCapture => simp only [takingOf, takeAbortCapture]; split <;> simp
  case readCapture => simp only [takingOf, takeReadCapture]; (repeat' split) <;> rfl
  case captureInfo => rfl
  case enableEvents mask => exact takeEnableEvents_cpc mask s
  case takeEvent => simp only [takingOf, takeTakeEvent]; split <;> simp
  case setSupervision => simp only [takingOf, takeSetSupervision]; (repeat' split) <;> rfl
  case queryIdentity => rfl
  case queryStatus => simp only [takingOf, takeQueryStatus]; split <;> rfl
  case resetPart => simp only [takingOf, takeResetPart]; split <;> rfl

/-! ### The law at every step -/

theorem takingOf_localNotEngaged (r : Request) {s : State} (hs : s.LocalNotEngaged) : (takingOf r s).1.LocalNotEngaged := by
  cases hr : movesPorts r with
  | false => exact hs.congr (by rw [takingOf_cpc hr])
  | true =>
    cases r <;> first | contradiction | skip
    case channelPowerOn => exact hs.channelPowerOn _
    case channelPowerOff => exact hs.channelPowerOff _
    case setRigMode => exact hs.setRigMode _
    case setChannelOwner => exact hs.setChannelOwner _ _
    case engage => exact hs.engage _
    case release => exact hs.release _
    case acknowledgeChannels => exact hs.acknowledgeChannels _

/-- Every operation of the part keeps the law of the owners; both resets leave no channel ENGAGED. -/
theorem localNotEngaged_keptByOperations : KeptByOperations State.LocalNotEngaged where
  line _ _ _ _ := .congr rfl
  taking r _ := takingOf_localNotEngaged r
  warmReset s _ _ := .mapPorts (s := s) (f := fun _ p => p.warm) (fun ch => .of_not_engaged (s.port ch).disengaged_state_ne) rfl
  fullReset source s _ ch _ := Port.OwnerLawful.of_not_engaged (by rw [makeFullReset_port source s ch]; nofun)
  update _ := .raiseUpdate
  sourceInternal _ := .congr rfl
  action _ _ _ _ := .congr (by simp)
  record _ _ _ _ _ := .congr (by simp)
  rampIn _ _ := .congr (by simp)
  rampOut _ _ _ := .congr (by simp)
  passEnd _ _ _ := .congr (by simp)
  passEndRampOut _ _ _ := .congr (by simp)
  response _ _ w f sp st hch _ hs := hs.takeResponse hch w f sp st
  envelope _ _ _ _ := .congr (by simp)
  tracking _ _ _ _ := .congr (by simp)
  clampRate _ _ := .congr (by simp)
  window _ ch hs := hs.closeWindow ch
  rigReady _ _ := .congr rfl
  markEdge _ _ _ _ := .congr (by simp)
  verified _ _ _ _ _ _ := .congr (by simp)

/-- Settles O57: each operation keeps the law of the owners, so every step does. -/
theorem stepKeepsLocalNotEngaged : Obligations.StepKeepsLocalNotEngaged :=
  fun _ _ hs h => localNotEngaged_keptByOperations.of_step hs h

end Sys2Proof.Machine
end

section
/-! The requests of the Channel Port Controller: power, rig mode, owner, Engage, Release and Acknowledge Channels (R105 to R112,
R119). -/

namespace Sys2Proof.Machine

open Sys2Proof

/-! ### Channels the context drives (R4, R106) -/

theorem State.driven_iff (s : State) (ch : Nat) : s.driven ch = true ↔ ch ∈ s.drivenChannels := by
  simp [State.driven]

theorem State.driven_of_not_mem {s : State} {ch : Nat} (h : ch ∉ s.drivenChannels) : s.driven ch = false := by
  simpa [State.driven] using h

theorem holdsChannels_of {e : EngineState} (h : e = .rampIn ∨ e = .running ∨ e = .rampOut ∨ e = .paused) :
    e.holdsChannels = true := by
  rcases h with rfl | rfl | rfl | rfl <;> rfl

/-! ### Power (R105, R106) -/

section power
variable {s : State} {ch : Nat} (hch : ch < 16)
include hch

/-- The reply of a request that leaves a port record behind names its state. -/
theorem acceptPort_setPort {p : Port} {st : PortState} (h : p.state = st) :
    acceptPort (s.setPort ch p) ch = (s.setPort ch p, { status := .ok, fields := beBytes 1 st.code }) := by
  simp [acceptPort, accept, State.port_setPort_same s ch p hch, h]

theorem takeChannelPowerOn_of_off (h : (s.port ch).state = .off) :
    takeChannelPowerOn ch s
      = (s.setPort ch
          { s.port ch with state := .linking, linkCount := some 0, missCount := 0, setpoint := none, feedback := none,
                           enable := true },
        { status := .ok, fields := [1] }) := by
  rw [takeChannelPowerOn, if_neg (by omega), h]
  exact acceptPort_setPort hch (st := .linking) rfl

theorem takeChannelPowerOn_of_fault (h : (s.port ch).state = .fault) : takeChannelPowerOn ch s = refuse s .wrongState := by
  rw [takeChannelPowerOn, if_neg (by omega), h]

/-- A channel that is on and not in FAULT stays as it is (R105). -/
theorem takeChannelPowerOn_of_live (hoff : (s.port ch).state ≠ .off) (hfault : (s.port ch).state ≠ .fault) :
    takeChannelPowerOn ch s = acceptPort s ch := by
  rw [takeChannelPowerOn, if_neg (by omega)]
  cases h : (s.port ch).state
  case off => exact absurd h hoff
  case fault => exact absurd h hfault
  all_goals rfl

theorem takeChannelPowerOff_of_off (h : (s.port ch).state = .off) :
    takeChannelPowerOff ch s = (s, { status := .ok, fields := [0] }) := by
  have hnot : ¬ (s.pe.state.holdsChannels && s.driven ch && (s.port ch).state == .engaged) = true := by simp [h]
  rw [takeChannelPowerOff, if_neg (by omega), if_neg hnot, h]
  simp only [acceptPort, h]
  rfl

/-- A channel is powered off unless it is ENGAGED and driven (R106). -/
theorem takeChannelPowerOff_of_free (hoff : (s.port ch).state ≠ .off)
    (h : (s.port ch).state ≠ .engaged ∨ ch ∉ s.drivenChannels) :
    takeChannelPowerOff ch s
      = (s.setPort ch
          { s.port ch with state := .off, enable := false, faultCause := none, linkCount := none, setpoint := none,
                           missCount := 0 },
        { status := .ok, fields := [0] }) := by
  have hnot : ¬ (s.pe.state.holdsChannels && s.driven ch && (s.port ch).state == .engaged) = true := by
    rcases h with h | h
    · simp [h]
    · simp [State.driven_of_not_mem h]
  rw [takeChannelPowerOff, if_neg (by omega), if_neg hnot]
  cases hstate : (s.port ch).state
  case off => exact absurd hstate hoff
  all_goals exact acceptPort_setPort hch (st := .off) rfl

theorem takeChannelPowerOff_of_held (hstate : (s.port ch).state = .engaged) (hdriven : ch ∈ s.drivenChannels)
    (h : s.pe.state.holdsChannels = true) : takeChannelPowerOff ch s = refuse s .inUse := by
  have hheld : (s.pe.state.holdsChannels && s.driven ch && (s.port ch).state == .engaged) = true := by
    simp [h, (s.driven_iff ch).mpr hdriven, hstate]
  rw [takeChannelPowerOff, if_neg (by omega), if_pos hheld]

end power

/-- Settles O28: each request by the port's state, and Channel Power Off by whether the engine holds the channel. -/
theorem powerResult : Obligations.PowerResult := by
  intro tag ch s hfree hch
  refine ⟨fun h => ?onOff, fun h => ?onFault, fun hoff hfault => ?onLive, fun h => ?offOff, fun hoff h => ?offFree,
    fun hstate hdriven h => ?offHeld⟩
  case onOff => exact exec_of_taking (c := .channelPowerOn tag ch) rfl nofun hfree (takeChannelPowerOn_of_off hch h)
  case onFault => exact exec_of_taking (c := .channelPowerOn tag ch) rfl nofun hfree (takeChannelPowerOn_of_fault hch h)
  case onLive =>
    exact exec_of_taking (c := .channelPowerOn tag ch) rfl nofun hfree (takeChannelPowerOn_of_live hch hoff hfault)
  case offOff => exact exec_of_taking (c := .channelPowerOff tag ch) rfl nofun hfree (takeChannelPowerOff_of_off hch h)
  case offFree => exact exec_of_taking (c := .channelPowerOff tag ch) rfl nofun hfree (takeChannelPowerOff_of_free hch hoff h)
  case offHeld =>
    exact exec_of_taking (c := .channelPowerOff tag ch) rfl nofun hfree
      (takeChannelPowerOff_of_held hch hstate hdriven (holdsChannels_of h))

/-! ### Owner, Engage and Release (R109 to R112) -/

section owner
variable {s : State} {ch : Nat} (hch : ch < 16)
include hch

theorem acceptOwner_setPort {p : Port} {o : Owner} {st : PortState} (howner : p.owner = o) (h : p.state = st) :
    acceptOwner (s.setPort ch p) ch
      = (s.setPort ch p, { status := .ok, fields := beBytes 1 o.code ++ beBytes 1 st.code }) := by
  simp [acceptOwner, accept, State.port_setPort_same s ch p hch, howner, h]

theorem takeSetChannelOwner_replay (h : s.cpc.rigMode = .replay) :
    takeSetChannelOwner ch 1 s
      = (s.setPort ch { s.port ch with owner := .replay },
        { status := .ok, fields := beBytes 1 1 ++ beBytes 1 (s.port ch).state.code }) := by
  have hmode : ¬ s.cpc.rigMode = .local := by rw [h]; decide
  show (if 15 < ch then _ else if s.cpc.rigMode = .local then _ else _) = _
  rw [if_neg (by omega), if_neg hmode]
  exact acceptOwner_setPort hch (o := .replay) rfl rfl

theorem takeSetChannelOwner_replay_refused (h : s.cpc.rigMode = .local) :
    takeSetChannelOwner ch 1 s = refuse s .wrongState := by
  show (if 15 < ch then _ else if s.cpc.rigMode = .local then _ else _) = _
  rw [if_neg (by omega), if_pos h]

/-- An ENGAGED channel that is not driven goes to LOCAL and STANDBY (R109, R110). -/
theorem takeSetChannelOwner_local (hdriven : ch ∉ s.drivenChannels) (h : (s.port ch).state = .engaged) :
    takeSetChannelOwner ch 0 s
      = (s.setPort ch { s.port ch with owner := .local, state := .standby }, { status := .ok, fields := [0, 2] }) := by
  have hnot : ¬ (s.pe.state.holdsChannels && s.driven ch) = true := by simp [State.driven_of_not_mem hdriven]
  show (if 15 < ch then _ else if (s.pe.state.holdsChannels && s.driven ch) = true then _ else _) = _
  rw [if_neg (by omega), if_neg hnot, Port.disengaged, if_pos h]
  exact acceptOwner_setPort hch (o := .local) (st := .standby) rfl rfl

/-- Engage passes its checks in STANDBY under REPLAY with Rig Ready, out of TRIPPED, and starts from the setpoint (R111). -/
theorem takeEngage_of_ready {v : Int} (hstate : (s.port ch).state = .standby) (htripped : s.pe.state ≠ .tripped)
    (howner : (s.port ch).owner = .replay) (hready : s.cpc.rigReady = true) (hset : (s.port ch).setpoint = some v) :
    takeEngage ch s
      = ({ s with
            dcu := { s.dcu with drives := s.dcu.drives.setIfInBounds ch { s.drive ch with lastOutput := v } },
            lm := s.lm.setIfInBounds ch
              { s.limits ch with env := { state := .clear, count := 0 }, trk := { state := .clear, count := 0 },
                                 clamp := { state := .clear, count := 0 }, history := Vector.replicate 16 v },
            cpc := { s.cpc with ports := s.cpc.ports.setIfInBounds ch { s.port ch with state := .engaged } } },
        { status := .ok, fields := countBytes v }) := by
  have hdrive : ((s.engageChannel ch).drive ch).lastOutput = v := by
    have hkept : (s.engageChannel ch).drive ch = (s.setDrive ch { s.drive ch with lastOutput := v }).drive ch := by
      simp [State.engageChannel, hset, State.drive]
    rw [hkept, State.drive_setDrive_same s ch _ hch]
  rw [takeEngage, if_neg (by omega), if_neg htripped, if_neg (not_not.mpr hstate), if_neg (not_not.mpr howner),
    if_neg (not_not.mpr hready)]
  simp only [accept, hdrive]
  simp only [State.engageChannel, hset]
  rfl

theorem takeRelease_of_engaged (h : (s.port ch).state = .engaged) (hdriven : ch ∉ s.drivenChannels) :
    takeRelease ch s = accept (s.setPort ch { s.port ch with state := .standby }) [] := by
  have hnot : ¬ (s.pe.state.holdsChannels && s.driven ch) = true := by simp [State.driven_of_not_mem hdriven]
  rw [takeRelease, if_neg (by omega), if_neg (not_not.mpr h), if_neg hnot]

theorem takeRelease_of_not_engaged (h : (s.port ch).state ≠ .engaged) : takeRelease ch s = refuse s .wrongState := by
  rw [takeRelease, if_neg (by omega), if_pos h]

end owner

/-- Settles O30: each request passes its rule's checks in their order, or is refused at one. -/
theorem ownerEngageReleaseResult : Obligations.OwnerEngageReleaseResult := by
  intro tag ch s hfree hch
  refine ⟨fun h => ?replay, fun h => ?refused, fun hdriven h => ?toLocal, fun v hstate htripped howner hready hset => ?engage,
    fun h hdriven => ?release, fun h => ?notEngaged⟩
  case replay => exact exec_of_taking (c := .setChannelOwner tag ch 1) rfl nofun hfree (takeSetChannelOwner_replay hch h)
  case refused =>
    exact exec_of_taking (c := .setChannelOwner tag ch 1) rfl nofun hfree (takeSetChannelOwner_replay_refused hch h)
  case toLocal =>
    exact exec_of_taking (c := .setChannelOwner tag ch 0) rfl nofun hfree (takeSetChannelOwner_local hch hdriven h)
  case engage =>
    exact exec_of_taking (c := .engage tag ch) rfl nofun hfree (takeEngage_of_ready hch hstate htripped howner hready hset)
  case release => exact exec_of_taking (c := .release tag ch) rfl nofun hfree (takeRelease_of_engaged hch h hdriven)
  case notEngaged => exact exec_of_taking (c := .release tag ch) rfl nofun hfree (takeRelease_of_not_engaged hch h)

/-! ### Rig mode (R107, R108) -/

/-- A port as Set Rig Mode REPLAY and LOCAL leave it: a channel that changes is flagged (R107, R108, R118). -/
def Port.givenReplay (p : Port) : Port := { p with owner := .replay, changed := p.changed || p.owner == .local }
def Port.givenLocal (p : Port) : Port :=
  { p with owner := .local, state := if p.state = .engaged then .standby else p.state,
           changed := p.changed || p.owner == .replay || p.state == .engaged }

theorem Port.givenReplay_eq (p : Port) :
    p.givenReplay = if p.changesToReplay then { p with owner := .replay, changed := true } else p := by
  obtain ⟨state, owner, changed, cause, misses, links, setpoint, feedback, enable, window⟩ := p
  cases owner <;> simp [Port.givenReplay, Port.changesToReplay]

theorem Port.givenLocal_eq (p : Port) :
    p.givenLocal = if p.changesToLocal then { p.disengaged with owner := .local, changed := true } else p := by
  obtain ⟨state, owner, changed, cause, misses, links, setpoint, feedback, enable, window⟩ := p
  by_cases h : state = .engaged
  · cases owner <;> simp [Port.givenLocal, Port.changesToLocal, Port.disengaged, h]
  · have hstate : (state == .engaged) = false := beq_false_of_ne h
    cases owner <;> simp [Port.givenLocal, Port.changesToLocal, Port.disengaged, h, hstate]

theorem State.setPort_of_beyond (s : State) {ch : Nat} (h : ¬ ch < 16) (p : Port) : s.setPort ch p = s := by
  have hvec : s.cpc.ports.setIfInBounds ch p = s.cpc.ports := by
    ext i hi
    have hne : ch ≠ i := by omega
    simp [hne]
  simp [State.setPort, hvec]

/-- A port written and then flagged is the port with its flag set (R118). -/
theorem State.flagChange_setPort_cpc (s : State) (ch : Nat) (p : Port) :
    ((s.setPort ch p).flagChange ch).cpc = (s.setPort ch { p with changed := true }).cpc := by
  rw [State.flagChange, State.raise_cpc]
  by_cases h : ch < 16
  · rw [State.port_setPort_same s ch p h, State.setPort_setPort]
  · simp only [State.setPort_of_beyond _ h]

theorem State.giveReplay_cpc (s : State) (ch : Nat) :
    (s.giveReplay ch).cpc = (s.setPort ch (s.port ch).givenReplay).cpc := by
  rw [State.giveReplay, Port.givenReplay_eq]
  split
  · exact s.flagChange_setPort_cpc ch _
  · rw [State.setPort_port]

theorem State.giveLocal_cpc (s : State) (ch : Nat) :
    (s.giveLocal ch).cpc = (s.setPort ch (s.port ch).givenLocal).cpc := by
  rw [State.giveLocal, Port.givenLocal_eq]
  split
  · exact s.flagChange_setPort_cpc ch _
  · rw [State.setPort_port]

/-- What changes each port by itself, channel by channel, changes every port so. -/
theorem State.foldl_port {f : State → Nat → State} {g : Port → Port}
    (hf : ∀ t ch, (f t ch).cpc = (t.setPort ch (g (t.port ch))).cpc) (s : State) {ch : Nat} (h : ch < 16) :
    (allChannels.foldl f s).port ch = g (s.port ch) := by
  have hother (t : State) {i : Nat} (hi : i ≠ ch) : (f t i).port ch = t.port ch :=
    (State.port_congr ch (hf t i)).trans (State.port_setPort_other t i ch _ hi.symm)
  have hfold := foldl_at (f := f) (view := fun t => t.port ch) (after := fun t => g (t.port ch)) ch
    (fun t => (State.port_congr ch (hf t ch)).trans (State.port_setPort_same t ch _ h)) (fun t i hi => hother t hi)
    (fun t i hi => congrArg g (hother t hi)) allChannels s List.nodup_range
  exact hfold.trans (if_pos (List.mem_range.mpr h))

/-- All that stands beside the ports, the causes and the line. -/
def State.besidePorts (s : State) : Owner × Bool × ClipStore × SegmentQueue × Engine × DriveUnit × Vector ChannelLimits 16
    × Vector MarkUnit 6 × CaptureUnit × Nat × List Instr :=
  (s.cpc.rigMode, s.cpc.rigReady, s.cs, s.sq, s.pe, s.dcu, s.lm, s.mu, s.rcu, s.clock, s.pending)

theorem State.besidePorts_eq_iff {s t : State} :
    t.besidePorts = s.besidePorts ↔ t.cpc.rigMode = s.cpc.rigMode ∧ t.cpc.rigReady = s.cpc.rigReady ∧ t.cs = s.cs ∧ t.sq = s.sq
      ∧ t.pe = s.pe ∧ t.dcu = s.dcu ∧ t.lm = s.lm ∧ t.mu = s.mu ∧ t.rcu = s.rcu ∧ t.clock = s.clock
      ∧ t.pending = s.pending := by
  simp [State.besidePorts]

theorem State.giveReplay_besidePorts (s : State) (ch : Nat) : (s.giveReplay ch).besidePorts = s.besidePorts := by
  unfold State.giveReplay
  split <;> simp [State.besidePorts, State.flagChange]

theorem State.giveLocal_besidePorts (s : State) (ch : Nat) : (s.giveLocal ch).besidePorts = s.besidePorts := by
  unfold State.giveLocal
  split <;> simp [State.besidePorts, State.flagChange]

/-- The ports and all else, the causes and the line apart, after each channel of a part in rig mode `m` has been handled. -/
theorem State.rigModeSet_result {f : State → Nat → State} {g : Port → Port}
    (hf : ∀ t ch, (f t ch).cpc = (t.setPort ch (g (t.port ch))).cpc) (hbeside : ∀ t ch, (f t ch).besidePorts = t.besidePorts)
    (s : State) (m : Owner) (code tag : Nat) (st : Status) (fields : List Byte) {t : State}
    (ht : t = (allChannels.foldl f { s with cpc := { s.cpc with rigMode := m } }).answered code tag st fields) :
    t.cpc.rigMode = m ∧ t.cpc.rigReady = s.cpc.rigReady ∧ (∀ ch, ch < 16 → t.port ch = g (s.port ch)) ∧ t.cs = s.cs
      ∧ t.sq = s.sq ∧ t.pe = s.pe ∧ t.dcu = s.dcu ∧ t.lm = s.lm ∧ t.mu = s.mu ∧ t.rcu = s.rcu ∧ t.clock = s.clock
      ∧ t.pending = s.pending := by
  have hkept := foldl_keeps State.besidePorts f hbeside allChannels { s with cpc := { s.cpc with rigMode := m } }
  have hport := fun ch (hch : ch < 16) => State.foldl_port hf { s with cpc := { s.cpc with rigMode := m } } hch
  obtain ⟨hmode, hready, hblocks⟩ := State.besidePorts_eq_iff.mp hkept
  subst ht
  exact ⟨by simpa using hmode, by simpa using hready,
    fun ch hch => (State.port_congr ch (State.answered_cpc ..)).trans (hport ch hch), by simpa using hblocks⟩

/-- Settles O29: each request handles the channels one after another, each by itself. -/
theorem rigModeResult : Obligations.RigModeResult := by
  intro tag s hfree
  refine ⟨⟨_, exec_of_taking (c := .setRigModeReplay tag) rfl nofun hfree rfl, ?replay⟩, fun h => ?toLocal,
    fun hidle htripped => ?refused⟩
  case replay =>
    exact State.rigModeSet_result State.giveReplay_cpc State.giveReplay_besidePorts s .replay _ tag _ _ rfl
  case toLocal =>
    have htaking : takingOf (.setRigMode 0) s = takeRigModeLocal s := rfl
    rw [takeRigModeLocal, if_neg (not_not.mpr h)] at htaking
    exact ⟨_, exec_of_taking (c := .setRigModeLocal tag) rfl nofun hfree htaking,
      State.rigModeSet_result State.giveLocal_cpc State.giveLocal_besidePorts s .local _ tag _ _ rfl⟩
  case refused =>
    exact exec_of_taking (c := .setRigModeLocal tag) rfl nofun hfree (if_pos (not_or.mpr ⟨hidle, htripped⟩))

/-! ### Acknowledge Channels (R119) -/

theorem maskOf_succ (width : Nat) (p : Nat → Bool) :
    maskOf (width + 1) p = if p width then maskOf width p + 2 ^ width else maskOf width p := by
  simp [maskOf, List.range_succ]

theorem maskOf_lt (width : Nat) (p : Nat → Bool) : maskOf width p < 2 ^ width := by
  induction width with
  | zero => simp [maskOf]
  | succ w ih =>
    rw [maskOf_succ, pow_succ]
    split <;> omega

/-- The bits of a mask are the numbers below its width that satisfy the predicate. -/
theorem maskOf_testBit (width : Nat) (p : Nat → Bool) (n : Nat) : (maskOf width p).testBit n = (decide (n < width) && p n) := by
  induction width with
  | zero => simp [maskOf]
  | succ w ih =>
    have hlow := Nat.testBit_lt_two_pow (maskOf_lt w p)
    rw [maskOf_succ]
    rcases Nat.lt_trichotomy n w with hn | rfl | hn
    · have hbit : (maskOf w p + 2 ^ w).testBit n = (maskOf w p).testBit n := by
        rw [Nat.add_comm, Nat.testBit_two_pow_add_gt hn]
      split
      · rw [hbit, ih]; simp [hn, Nat.lt_succ_of_lt hn]
      · rw [ih]; simp [hn, Nat.lt_succ_of_lt hn]
    · split
      · next hp => rw [Nat.add_comm, Nat.testBit_two_pow_add_eq, hlow]; simp [hp]
      · next hp => rw [hlow]; simp [hp]
    · have hbound : (if p w = true then maskOf w p + 2 ^ w else maskOf w p) < 2 ^ n :=
        maskOf_succ w p ▸ (maskOf_lt (w + 1) p).trans_le (Nat.pow_le_pow_right (by decide) hn)
      rw [Nat.testBit_lt_two_pow hbound]
      simp [Nat.not_lt.mpr hn]

/-- Settles O31: the set's flags are cleared port by port, and the reply is the mask of the flags that stand. -/
theorem acknowledgeChannelsResult : Obligations.AcknowledgeChannelsResult := by
  intro tag mask s hfree
  generalize hu : ({ s with cpc := { s.cpc with
    ports := s.cpc.ports.mapIdx fun ch p => if mask.testBit ch then { p with changed := false } else p } } : State) = u
  have htaking : takingOf (.acknowledgeChannels mask) s = accept u (beBytes 2 u.changedMask) := hu ▸ rfl
  have hport : ∀ ch, ch < 16 → u.port ch = { s.port ch with changed := (s.port ch).changed && !mask.testBit ch } := by
    intro ch hch
    have hread : u.port ch = if mask.testBit ch then { s.port ch with changed := false } else s.port ch := by
      simp [← hu, State.port, hch]
    rw [hread]
    split
    · next h => simp [h]
    · next h => simp [h]
  refine ⟨_, u.changedMask, exec_of_taking (c := .acknowledgeChannels tag mask) rfl nofun hfree htaking, ?line,
    fun ch hch => (State.port_congr ch (State.answered_cpc ..)).trans (hport ch hch), fun ch hch => ?still,
    maskOf_lt 16 _, ?_⟩
  case line =>
    have hline : u.sli = s.sli := hu ▸ rfl
    simp only [State.answered, State.placeFrame, hline]
    cases s.sli.leaving <;> rfl
  case still => rw [State.changedMask, maskOf_testBit, hport ch hch]; simp [hch]
  · simp [← hu]

end Sys2Proof.Machine
end

section
/-! A TRIP that applies, the faults of a channel and what they do to the engine, Rig Ready, and the servo responses (R85, R95,
R114 to R117, R120, R124 to R128, R136). -/

namespace Sys2Proof.Machine

open Sys2Proof

/-! ### A TRIP that applies (R72, R85, R95) -/

theorem State.enterState_cause_engine (s : State) (new : EngineState) (cause : Option EngineCause) :
    (s.enterState new cause).cause .engine = { s.cause .engine with
      count := min 255 ((s.cause .engine).count + 1), detail := some (.engine s.pe.state new cause) } :=
  State.raise_cause_same _ _ _

theorem State.enterState_cause_other (s : State) (new : EngineState) (cause : Option EngineCause) {c : Cause}
    (h : c ≠ .engine) : (s.enterState new cause).cause c = s.cause c := State.raise_cause_other _ _ h

/-- Entering TRIPPED raises ENGINE, then TRIP, and fires an armed advance watch. -/
theorem State.enterTripped_trips (s : State) (cause : EngineCause) (channel : Option Nat) :
    (s.enterTripped cause channel).sq = { s.sq with watch := false }
      ∧ (s.enterTripped cause channel).cause .trip = { s.cause .trip with
          count := min 255 ((s.cause .trip).count + 1), detail := some (.trip cause channel s.pe.counter) }
      ∧ (s.enterTripped cause channel).cause .engine = { s.cause .engine with
          count := min 255 ((s.cause .engine).count + 1), detail := some (.engine s.pe.state .tripped (some cause)) }
      ∧ (s.enterTripped cause channel).cause .advance
          = (if s.sq.watch then
              { s.cause .advance with count := min 255 ((s.cause .advance).count + 1), detail := some (.advance s.pe.counter) }
            else s.cause .advance)
      ∧ ∀ c, c ≠ .trip → c ≠ .engine → c ≠ .advance → (s.enterTripped cause channel).cause c = s.cause c := by
  unfold State.enterTripped
  dsimp only
  generalize hu : s.setPe _ = u
  have hcause : ∀ c, u.cause c = s.cause c := fun c => by rw [← hu]; rfl
  have hsq : u.sq = s.sq := by rw [← hu]; rfl
  have hstate : u.pe.state = s.pe.state := by rw [← hu]; rfl
  have hcounter : u.pe.counter = s.pe.counter := by rw [← hu]; rfl
  refine ⟨?queue, ?trip, ?engine, ?advance, fun c htrip hengine hadvance => ?others⟩
  case queue => rw [State.fireWatch_sq, State.raise_sq, State.enterState_sq, hsq]
  case trip =>
    rw [State.fireWatch_cause_other _ (by decide), State.raise_cause_same, State.enterState_cause_other _ _ _ (by decide),
      hcause]
  case engine =>
    rw [State.fireWatch_cause_other _ (by decide), State.raise_cause_other _ _ (by decide), State.enterState_cause_engine,
      hcause, hstate]
  case advance =>
    rw [State.fireWatch_cause_advance, State.raise_cause_other _ _ (by decide), State.enterState_cause_other _ _ _ (by decide),
      State.raise_sq, State.enterState_sq, State.raise_pe, State.enterState_pe, hcause, hsq, hcounter]
  case others =>
    rw [State.fireWatch_cause_other _ hadvance, State.raise_cause_other _ _ htrip, State.enterState_cause_other _ _ _ hengine,
      hcause]

theorem State.actionApplies_trip {s : State} (h : s.pe.state ≠ .tripped) : s.actionApplies .trip = true := by
  unfold State.actionApplies
  cases hstate : s.pe.state
  case tripped => exact absurd hstate h
  all_goals rfl

/-- A TRIP applies in every state but TRIPPED (R85). -/
theorem State.applyAction_trips {s : State} (h : s.pe.state ≠ .tripped) (cause : EngineCause) (channel : Option Nat) :
    s.Trips cause channel (s.applyAction .trip cause channel) := by
  rw [State.applyAction_applied (State.actionApplies_trip h), State.actionEffect]
  generalize hu : s.setPe _ = u
  have hpe : u.pe = { s.pe with
      lastAction := some { action := .trip, cause := cause, channel := channel, stamp := s.pe.counter, applied := true } } := by
    rw [← hu]
    rfl
  obtain ⟨hqueue, htrip, hengine, hadvance, hothers⟩ :=
    u.enterTripped_trips cause (if cause = .channelFault then channel else none)
  have hcause : ∀ c, u.cause c = s.cause c := fun c => by rw [← hu]; rfl
  have hsq : u.sq = s.sq := by rw [← hu]; rfl
  rw [hpe, hcause] at htrip hengine
  rw [hpe, hcause, hsq] at hadvance
  refine ⟨?_, hqueue.trans (by rw [hsq]), htrip, hengine, hadvance,
    fun c ht he ha => (hothers c ht he ha).trans (hcause c), ?_⟩
  · rw [State.enterTripped_pe, hpe]
  · have hmark := (u.enterTripped_markStands cause (if cause = .channelFault then channel else none)).units
    refine ⟨?_, ?_, ?_, ?_, ?_, ?_, hmark.trans (by rw [← hu]; rfl), ?_, ?_⟩ <;> simp [← hu]

/-! ### Rig Ready (R120) -/

/-- Settles O34: a deassertion is a TRIP from every state but TRIPPED, where it is recorded, and a reassertion no action. -/
theorem rigReadyResult : Obligations.RigReadyResult := by
  intro s
  refine ⟨fun h => ?trips, fun h => ?recorded, rfl⟩
  case trips =>
    generalize hu : ({ s with cpc := { s.cpc with rigReady := false } } : State) = u
    have htrips := State.applyAction_trips (s := u) (hu ▸ h) .rigReadyLost none
    obtain ⟨hcs, hdcu, hlm, hmu, hrcu, hcpc, -, hclock, hpending⟩ := htrips.others
    have hcpc : (u.applyAction .trip .rigReadyLost none).cpc = { s.cpc with rigReady := false } := by rw [hcpc, ← hu]
    subst hu
    exact ⟨_, rfl, htrips.engine, hcpc, hcs, hdcu, hlm, hmu, hrcu, htrips.queue, hclock, hpending,
      congrArg CauseState.detail htrips.trip, congrArg CauseState.detail htrips.left⟩
  case recorded =>
    have hnot : State.actionApplies { s with cpc := { s.cpc with rigReady := false } } .trip = false := by
      simp [State.actionApplies, h]
    exact congrArg Host.Outcome.next (State.applyAction_recorded hnot .rigReadyLost none)

/-! ### A channel's fault (R117) -/

/-- Whether the engine needs a channel whose port is in `st`: it plays a clip that drives the channel, or returns an ENGAGED one
(R117). -/
def State.needsChannel (s : State) (ch : Nat) (st : PortState) : Prop :=
  (s.pe.state = .rampIn ∨ s.pe.state = .running ∨ s.pe.state = .rampOut) ∧ ch ∈ s.drivenChannels
    ∨ s.pe.state = .returning ∧ st = .engaged

theorem State.not_needsChannel {s : State} {ch : Nat} {st : PortState}
    (hplays : s.pe.state = .rampIn ∨ s.pe.state = .running ∨ s.pe.state = .rampOut → ch ∉ s.drivenChannels)
    (hreturns : s.pe.state = .returning → st ≠ .engaged) : ¬ s.needsChannel ch st := by
  rintro (⟨hstate, hdriven⟩ | ⟨hstate, hengaged⟩)
  · exact hplays hstate hdriven
  · exact hreturns hstate hengaged

theorem State.needsChannel.ne_tripped {s : State} {ch : Nat} {st : PortState} (h : s.needsChannel ch st) :
    s.pe.state ≠ .tripped := by
  rcases h with ⟨h | h | h, -⟩ | ⟨h, -⟩ <;> rw [h] <;> nofun

theorem State.setPort_faultTrips_iff (s : State) {ch : Nat} (h : ch < 16) (p : Port) :
    (s.setPort ch p).faultTrips ch = true ↔ s.needsChannel ch p.state := by
  have hdriven : (s.setPort ch p).driven ch = s.driven ch := rfl
  rw [State.faultTrips, State.port_setPort_same s ch p h, hdriven, State.setPort_pe]
  simp only [Bool.or_eq_true, Bool.and_eq_true, beq_iff_eq, playing_iff, State.driven_iff, State.needsChannel]

/-- A channel in FAULT, its flag set and CHANNEL raised once (R117, R118). -/
def State.channelFaulted (s : State) (ch : Nat) (p : Port) (cause : FaultCause) : State :=
  (s.setPort ch (p.faulted cause)).raise .channel none

theorem State.faultChannel_setPort (s : State) {ch : Nat} (h : ch < 16) (p : Port) (cause : FaultCause) :
    (s.setPort ch p).faultChannel ch cause
      = if (s.setPort ch p).faultTrips ch then (s.channelFaulted ch p cause).applyAction .trip .channelFault (some ch)
        else s.channelFaulted ch p cause := by
  rw [State.faultChannel, State.port_setPort_same s ch p h, State.setPort_setPort, State.flagChange,
    State.port_setPort_same s ch _ h, State.setPort_setPort]
  rfl

section fault
variable {s : State} {ch : Nat} (h : ch < 16) {p : Port} (hp : p.state = (s.port ch).state)
include h hp

theorem State.faultChannel_of_unneeded (hneeds : ¬ s.needsChannel ch (s.port ch).state) (cause : FaultCause) :
    (s.setPort ch p).faultChannel ch cause = s.channelFaulted ch p cause := by
  have hno : ¬ (s.setPort ch p).faultTrips ch = true := by rwa [s.setPort_faultTrips_iff h, hp]
  rw [s.faultChannel_setPort h, if_neg hno]

/-- The fault of a channel that the engine needs is a TRIP, on top of the fault (R117). -/
theorem State.faultChannel_of_needed (hneeds : s.needsChannel ch (s.port ch).state) (cause : FaultCause) :
    (s.channelFaulted ch p cause).Trips .channelFault (some ch) ((s.setPort ch p).faultChannel ch cause) := by
  have hyes : (s.setPort ch p).faultTrips ch = true := by rwa [s.setPort_faultTrips_iff h, hp]
  have hpe : (s.channelFaulted ch p cause).pe = s.pe := by simp [State.channelFaulted]
  rw [s.faultChannel_setPort h, if_pos hyes]
  exact State.applyAction_trips (by rw [hpe]; exact hneeds.ne_tripped) _ _

end fault

/-! ### LINK_LOST and LINKING_TIMEOUT (R115, R116; log entry 1) -/

section missing
variable {s : State} {ch : Nat} {w : Window} (hw : (s.port ch).window = some w) (ha : w.answered = false)
include hw ha

theorem State.windowUnanswered_of_open : s.windowUnanswered ch = true := by simp [State.windowUnanswered, hw, ha]

theorem exec_linkLost_of_third (hs : (s.port ch).state = .standby ∨ (s.port ch).state = .engaged)
    (hmiss : (s.port ch).missCount = 2) :
    exec (.linkLost ch) s
      = .next ((s.setPort ch { s.port ch with window := none, missCount := 3 }).faultChannel ch .linkLost) := by
  have hrow : exec (.linkLost ch) s = .next (s.closeWindow ch) :=
    if_pos ⟨hs, by rw [hmiss], State.windowUnanswered_of_open hw ha⟩
  have hclose : s.closeWindow ch
      = (s.setPort ch { s.port ch with window := none, missCount := 3 }).faultChannel ch .linkLost := by
    rcases hs with hs | hs <;> simp [State.closeWindow, hw, ha, hs, hmiss]
  rw [hrow, hclose]

theorem exec_linkingTimeout_of_last (hs : (s.port ch).state = .linking) (hcount : (s.port ch).linkCount = some 255) :
    exec (.linkingTimeout ch) s
      = .next ((s.setPort ch { s.port ch with window := none, linkCount := some 256 }).faultChannel ch .noLink) := by
  have hrow : exec (.linkingTimeout ch) s = .next (s.closeWindow ch) :=
    if_pos ⟨hs, by rw [hcount]; decide, State.windowUnanswered_of_open hw ha⟩
  have hclose : s.closeWindow ch
      = (s.setPort ch { s.port ch with window := none, linkCount := some 256 }).faultChannel ch .noLink := by
    simp [State.closeWindow, hw, ha, hs, hcount]
  rw [hrow, hclose]

end missing

/-- Settles O33: each row is the closing of the window, which faults the channel. -/
theorem linkFaultsResult : Obligations.LinkFaultsResult := by
  intro ch w s hch hw ha
  refine ⟨fun u hs hmiss hu => ?lost, fun hs hcount hdriven => ?timeout⟩
  case lost =>
    subst hu
    rw [exec_linkLost_of_third hw ha hs hmiss]
    exact ⟨fun hplays hreturns =>
        congrArg Host.Outcome.next
          (State.faultChannel_of_unneeded hch (by rfl) (State.not_needsChannel hplays hreturns) .linkLost),
      fun hneeds => ⟨_, rfl, State.faultChannel_of_needed hch
        (p := { s.port ch with window := none, missCount := 3 }) rfl hneeds .linkLost⟩⟩
  case timeout =>
    have hneeds : ¬ s.needsChannel ch (s.port ch).state :=
      State.not_needsChannel (fun _ => hdriven) fun _ => by rw [hs]; nofun
    rw [exec_linkingTimeout_of_last hw ha hs hcount]
    exact congrArg Host.Outcome.next (State.faultChannel_of_unneeded hch (by rfl) hneeds .noLink)

/-! ### The feedback of an ENGAGED channel (R124 to R128, R136) -/

/-- Everything an evaluation of a detector can do: nothing, a move of the detector, or a move at which it fires. -/
def State.Evaluated (s : State) (ch : Nat) (t : State) : Prop :=
  t = s ∨ ∃ l, t = s.setLimits ch l ∨ ∃ r, t = (s.setLimits ch l).fireDetector r

theorem State.evalEnvelope_evaluated (s : State) (ch : Nat) (f : Int) (stamp : Nat) :
    s.Evaluated ch (s.evalEnvelope ch f stamp) := by
  unfold State.evalEnvelope
  dsimp only
  split
  · split
    · exact .inr ⟨_, .inr ⟨_, rfl⟩⟩
    · exact .inr ⟨_, .inl rfl⟩
  · exact .inl rfl

theorem State.evalTracking_evaluated (s : State) (ch : Nat) (f : Int) (stamp : Nat) :
    s.Evaluated ch (s.evalTracking ch f stamp) := by
  unfold State.evalTracking
  dsimp only
  split
  · split
    · exact .inr ⟨_, .inr ⟨_, rfl⟩⟩
    · exact .inr ⟨_, .inl rfl⟩
  · exact .inl rfl

theorem State.Evaluated.limits_other {s t : State} {ch : Nat} (h : s.Evaluated ch t) {j : Nat} (hj : j ≠ ch) :
    t.limits j = s.limits j := by
  rcases h with rfl | ⟨l, rfl | ⟨r, rfl⟩⟩
  · rfl
  · exact State.limits_setLimits_other s ch j l hj
  · rw [State.limits_congr j (State.fireDetector_lm _ r), State.limits_setLimits_other s ch j l hj]

theorem State.evalEnvelope_limits (s : State) {ch : Nat} (h : ch < 16) (f : Int) (stamp : Nat) :
    (s.evalEnvelope ch f stamp).limits ch = { s.limits ch with
      env := if (s.limits ch).config.env.enable then
          (s.limits ch).env.evaluate (s.limits ch).config.envPersist (envelopeOver (s.limits ch).config f)
        else (s.limits ch).env } := by
  unfold State.evalEnvelope
  dsimp only
  split
  · split
    · rw [State.limits_congr ch (State.fireDetector_lm _ _), State.limits_setLimits_same s ch _ h]
    · rw [State.limits_setLimits_same s ch _ h]
  · rfl

theorem State.evalTracking_limits (s : State) {ch : Nat} (h : ch < 16) (f : Int) (stamp : Nat) :
    (s.evalTracking ch f stamp).limits ch = { s.limits ch with
      trk := if (s.limits ch).config.trk.enable then
          (s.limits ch).trk.evaluate (s.limits ch).config.trkPersist
            (decide ((s.limits ch).config.eMax < trackingError (s.limits ch) f))
        else (s.limits ch).trk } := by
  unfold State.evalTracking
  dsimp only
  split
  · split
    · rw [State.limits_congr ch (State.fireDetector_lm _ _), State.limits_setLimits_same s ch _ h]
    · rw [State.limits_setLimits_same s ch _ h]
  · rfl

theorem envelopeOver_eq (c : LimitConfig) (f : Int) : envelopeOver c f = decide (f < c.fMin ∨ c.fMax < f) :=
  (Bool.decide_or _ _).symm

/-- Out of PAUSED, from `s` to `t` the context stands, and the engine does not reach PAUSED. -/
def State.KeepsVisit (s t : State) : Prop := s.pe.state ≠ .paused → t.pe.state ≠ .paused ∧ t.pe.ctx = s.pe.ctx

theorem State.KeepsVisit.of_same {s t : State} (hstate : t.pe.state = s.pe.state) (hctx : t.pe.ctx = s.pe.ctx) :
    s.KeepsVisit t := fun h => ⟨hstate ▸ h, hctx⟩

theorem State.KeepsVisit.trans {s t u : State} (h : s.KeepsVisit t) (h' : t.KeepsVisit u) : s.KeepsVisit u := fun hs =>
  have ⟨ht, hctx⟩ := h hs
  have ⟨hu, hctx'⟩ := h' ht
  ⟨hu, hctx'.trans hctx⟩

/-- Only a STOP in PAUSED releases the context (R85). -/
theorem State.actionEffect_keepsVisit (s : State) (a : Action) (cause : EngineCause) (channel : Option Nat) :
    s.KeepsVisit (s.actionEffect a cause channel) := by
  intro h
  cases a with
  | note => exact ⟨h, rfl⟩
  | pause => simp [State.actionEffect, State.enterRampOut_pe]
  | trip => simp [State.actionEffect, State.enterTripped_pe]
  | stop =>
    unfold State.actionEffect
    dsimp only
    split
    · exact ⟨h, rfl⟩
    · next hpaused => exact absurd hpaused h
    · simp [State.enterRampOut_pe]

theorem State.applyAction_keepsVisit (s : State) (a : Action) (cause : EngineCause) (channel : Option Nat) :
    s.KeepsVisit (s.applyAction a cause channel) := by
  unfold State.applyAction
  dsimp only
  split
  · exact .trans (.of_same (by rfl) (by rfl)) (State.actionEffect_keepsVisit _ a cause channel)
  · exact .of_same rfl rfl

theorem State.fireDetector_keepsVisit (s : State) (r : LimitRecord) : s.KeepsVisit (s.fireDetector r) := by
  have hraised : s.KeepsVisit (s.raise .limit (some (.limit r))) := .of_same (by simp) (by simp)
  unfold State.fireDetector
  dsimp only
  split
  · exact hraised
  · exact hraised.trans (State.applyAction_keepsVisit _ _ _ _)

theorem State.Evaluated.keepsVisit {s t : State} {ch : Nat} (h : s.Evaluated ch t) : s.KeepsVisit t := by
  rcases h with rfl | ⟨l, rfl | ⟨r, rfl⟩⟩
  · exact .of_same rfl rfl
  · exact .of_same rfl rfl
  · exact .trans (t := s.setLimits ch l) (.of_same rfl rfl) (State.fireDetector_keepsVisit _ r)

/-- The visit record of a channel takes the feedback while the engine plays a clip that drives the channel (R136). -/
theorem State.takeFeedback_ctx {s : State} {ch : Nat} (f : Int) {c : Context} {p : PlayContext}
    (hstate : s.pe.state = .rampIn ∨ s.pe.state = .running ∨ s.pe.state = .rampOut) (hctx : s.pe.ctx = some c)
    (hbody : c.body = .play p) (hch : ch ∈ p.chans) :
    (s.takeFeedback ch f).pe.ctx = some { c with body := .play { p with
      stats := p.stats.map fun st => if st.channel = ch then { st with span := takeSpan st.span f } else st } } := by
  have hdriven : s.driven ch = true := by
    obtain ⟨tag, body, counted, overrun, cut, first, last, due⟩ := c
    obtain rfl : body = .play p := hbody
    rw [State.driven_iff]
    simpa [State.drivenChannels, hctx] using hch
  simp [State.takeFeedback, (playing_iff _).mpr hstate, hdriven, State.mapStat_pe, hctx, Context.mapStats, hbody]

theorem State.takeFeedback_of_undriven {s : State} {ch : Nat} (h : ch ∉ s.drivenChannels) (f : Int) :
    s.takeFeedback ch f = s := by
  simp [State.takeFeedback, State.driven_of_not_mem h]

theorem State.takeFeedback_state (s : State) (ch : Nat) (f : Int) : (s.takeFeedback ch f).pe.state = s.pe.state := by
  unfold State.takeFeedback
  split
  · rw [State.mapStat_pe]
  · rfl

section feedback
variable (s : State) {ch : Nat} (f : Int) (stamp : Nat)

theorem State.limitFeedback_limits_other {j : Nat} (h : j ≠ ch) : (s.limitFeedback ch f stamp).limits j = s.limits j := by
  rw [State.limitFeedback, (State.evalTracking_evaluated _ ch f stamp).limits_other h,
    (State.evalEnvelope_evaluated _ ch f stamp).limits_other h, State.limits_congr j (State.takeFeedback_lm _ _ _)]

/-- A feedback is evaluated by ENVELOPE against its band and by TRACKING against the history (R124, R126, R128). -/
theorem State.limitFeedback_limits (h : ch < 16) :
    (s.limitFeedback ch f stamp).limits ch = { s.limits ch with
      env := if (s.limits ch).config.env.enable then
          (s.limits ch).env.evaluate (s.limits ch).config.envPersist
            (decide (f < (s.limits ch).config.fMin ∨ (s.limits ch).config.fMax < f))
        else (s.limits ch).env
      trk := if (s.limits ch).config.trk.enable then
          (s.limits ch).trk.evaluate (s.limits ch).config.trkPersist
            (decide ((s.limits ch).config.eMax
              < ((s.limits ch).history[(s.limits ch).config.delay + 1]?.getD 0 - f).natAbs))
        else (s.limits ch).trk } := by
  rw [State.limitFeedback, State.evalTracking_limits _ h, State.evalEnvelope_limits _ h,
    State.limits_congr ch (State.takeFeedback_lm _ _ _), envelopeOver_eq]
  rfl

/-- Out of PAUSED no detector's action touches the context. -/
theorem State.limitFeedback_ctx (h : s.pe.state ≠ .paused) :
    (s.limitFeedback ch f stamp).pe.ctx = (s.takeFeedback ch f).pe.ctx := by
  have hkeeps := (State.evalEnvelope_evaluated (s.takeFeedback ch f) ch f stamp).keepsVisit.trans
    (State.evalTracking_evaluated _ ch f stamp).keepsVisit
  exact (hkeeps (by rwa [State.takeFeedback_state])).2

end feedback

/-! ### Servo responses (R114) -/

/-- A port that has taken a response to its open window. -/
def Port.answeredBy (p : Port) (w : Window) (f sp : Int) : Port :=
  { p with window := some { w with answered := true }, missCount := 0, feedback := some f, setpoint := some sp }

theorem State.setPort_answeredBy_state (s : State) {ch : Nat} (h : ch < 16) (w : Window) (f sp : Int) :
    ((s.setPort ch ((s.port ch).answeredBy w f sp)).port ch).state = (s.port ch).state := by
  rw [State.port_setPort_same s ch _ h, Port.answeredBy]

theorem exec_servoResponse_of_unanswerable {s : State} {ch exchange : Nat} {intact : Bool}
    (h : s.answerable ch exchange = none ∨ intact = false) (f sp : Int) (st : ServoStatus) :
    exec (.servoResponse ch intact exchange f sp st) s = .next s := by
  show execServoResponse ch intact exchange f sp st s = .next s
  unfold execServoResponse
  rcases h with h | h
  · rw [h]
  · subst h
    cases s.answerable ch exchange <;> rfl

theorem State.answerable_eq_none {s : State} {ch exchange : Nat}
    (h : (∀ w, (s.port ch).window = some w → w.answered = true ∨ w.exchange ≠ exchange)
      ∨ (s.port ch).state.live = false) :
    s.answerable ch exchange = none := by
  unfold State.answerable
  cases hw : (s.port ch).window with
  | none => rfl
  | some w =>
    rcases h with h | h
    · rcases h w hw with h | h <;> simp [h]
    · simp [h]

section status
variable {s : State} {ch : Nat} {f : Int} {stamp : Nat}

theorem State.actOnStatus_of_standby (h : (s.port ch).state = .standby) : s.actOnStatus ch f .ok stamp = s := by
  simp only [State.actOnStatus, h]

theorem State.actOnStatus_of_linking (h : (s.port ch).state = .linking) :
    s.actOnStatus ch f .ok stamp = (s.setPort ch { s.port ch with state := .standby, linkCount := none }).flagChange ch := by
  simp only [State.actOnStatus, h]

theorem State.actOnStatus_of_engaged (h : (s.port ch).state = .engaged) :
    s.actOnStatus ch f .ok stamp = s.limitFeedback ch f stamp := by
  simp only [State.actOnStatus, h]

end status

section taken
variable {s : State} {ch exchange : Nat} (hch : ch < 16) {w : Window} (hw : (s.port ch).window = some w)
  (ha : w.answered = false) (he : w.exchange = exchange)
include hch hw ha he

theorem exec_servoResponse_of_answerable (hlive : (s.port ch).state.live = true) (f sp : Int) (st : ServoStatus) :
    exec (.servoResponse ch true exchange f sp st) s
      = .next ((s.setPort ch ((s.port ch).answeredBy w f sp)).actOnStatus ch f st w.stamp) := by
  have hanswers : s.answerable ch exchange = some w := by simp [State.answerable, hw, ha, he, hlive]
  show execServoResponse ch true exchange f sp st s = _
  simp only [execServoResponse, hanswers, Bool.true_and, decide_eq_true hch, if_true]
  rfl

theorem exec_servoResponse_of_standby (hs : (s.port ch).state = .standby) (f sp : Int) :
    exec (.servoResponse ch true exchange f sp .ok) s = .next (s.setPort ch ((s.port ch).answeredBy w f sp)) := by
  have hanswered := (s.setPort_answeredBy_state hch w f sp).trans hs
  rw [exec_servoResponse_of_answerable hch hw ha he (by rw [hs]; rfl), State.actOnStatus_of_standby hanswered]

/-- The first response of a LINKING channel ends the linking (R116). -/
theorem exec_servoResponse_of_linking (hs : (s.port ch).state = .linking) (f sp : Int) :
    exec (.servoResponse ch true exchange f sp .ok) s
      = .next (State.raise (s.setPort ch
          { (s.port ch).answeredBy w f sp with state := .standby, linkCount := none, changed := true }) .channel none) := by
  have hanswered := (s.setPort_answeredBy_state hch w f sp).trans hs
  rw [exec_servoResponse_of_answerable hch hw ha he (by rw [hs]; rfl), State.actOnStatus_of_linking hanswered,
    State.port_setPort_same s ch _ hch, State.setPort_setPort, State.flagChange, State.port_setPort_same s ch _ hch,
    State.setPort_setPort]

theorem exec_servoResponse_of_engaged (hs : (s.port ch).state = .engaged) (f sp : Int) :
    exec (.servoResponse ch true exchange f sp .ok) s
      = .next ((s.setPort ch ((s.port ch).answeredBy w f sp)).limitFeedback ch f w.stamp) := by
  have hanswered := (s.setPort_answeredBy_state hch w f sp).trans hs
  rw [exec_servoResponse_of_answerable hch hw ha he (by rw [hs]; rfl), State.actOnStatus_of_engaged hanswered]

/-- OVERLOAD faults the channel in whatever live state it is (R114, R117). -/
theorem exec_servoResponse_of_overload (hlive : (s.port ch).state.live = true) (f sp : Int) :
    exec (.servoResponse ch true exchange f sp .overload) s
      = .next ((s.setPort ch ((s.port ch).answeredBy w f sp)).faultChannel ch .overload) :=
  exec_servoResponse_of_answerable hch hw ha he hlive f sp .overload

end taken

theorem PortState.live_iff (st : PortState) : st.live = true ↔ st = .linking ∨ st = .standby ∨ st = .engaged := by
  cases st <;> decide

/-- Settles O32: the response by the port's state and by its status. -/
theorem servoResponseResult : Obligations.ServoResponseResult := by
  intro ch exchange intact f sp st s hch
  refine ⟨fun h => ?discarded, fun w taken hw ha he htaken => ?taken⟩
  case discarded =>
    rcases h with h | h | h | h
    · exact exec_servoResponse_of_unanswerable (.inl (State.answerable_eq_none (.inl h))) f sp st
    · exact exec_servoResponse_of_unanswerable (.inr h) f sp st
    · exact exec_servoResponse_of_unanswerable (.inl (State.answerable_eq_none (.inr (by rw [h]; rfl)))) f sp st
    · exact exec_servoResponse_of_unanswerable (.inl (State.answerable_eq_none (.inr (by rw [h]; rfl)))) f sp st
  case taken =>
    obtain rfl : taken = (s.port ch).answeredBy w f sp := htaken
    refine ⟨fun hs => exec_servoResponse_of_standby hch hw ha he hs f sp,
      fun hs => exec_servoResponse_of_linking hch hw ha he hs f sp, fun hs => ?engaged, fun u hs hu => ?overload⟩
    case engaged =>
      generalize hv : s.setPort ch ((s.port ch).answeredBy w f sp) = v
      have hlimits : ∀ j, v.limits j = s.limits j := fun j => by rw [← hv]; rfl
      have hcpc : (v.limitFeedback ch f w.stamp).cpc = (s.setPort ch ((s.port ch).answeredBy w f sp)).cpc := by simp [← hv]
      refine ⟨_, hv ▸ exec_servoResponse_of_engaged hch hw ha he hs f sp,
        (State.port_congr ch hcpc).trans (State.port_setPort_same s ch _ hch),
        fun j hj => (State.port_congr j hcpc).trans (State.port_setPort_other s ch j _ hj),
        fun j hj => (v.limitFeedback_limits_other f _ hj).trans (hlimits j),
        hlimits ch ▸ v.limitFeedback_limits f _ hch, fun c p hstate hctx hbody hdriven => ?joined,
        fun hpaused hdriven => ?kept, by rw [hcpc]; rfl, by rw [hcpc]; rfl, ?_⟩
      case joined =>
        have hpaused : v.pe.state ≠ .paused := by
          rw [← hv]
          rcases hstate with h | h | h <;> rw [State.setPort_pe, h] <;> nofun
        rw [v.limitFeedback_ctx f _ hpaused]
        exact State.takeFeedback_ctx f (hv ▸ hstate) (hv ▸ hctx) hbody hdriven
      case kept =>
        have hundriven : ch ∉ v.drivenChannels := hv ▸ hdriven
        rw [v.limitFeedback_ctx f _ (hv ▸ hpaused), State.takeFeedback_of_undriven hundriven, ← hv]
        rfl
      · simp [← hv]
    case overload =>
      subst hu
      rw [exec_servoResponse_of_overload hch hw ha he ((PortState.live_iff _).mpr hs)]
      exact ⟨fun hplays hreturns =>
          congrArg Host.Outcome.next
            (State.faultChannel_of_unneeded hch (by rfl) (State.not_needsChannel hplays hreturns) .overload),
        fun hneeds => ⟨_, rfl, State.faultChannel_of_needed hch (by rfl) hneeds .overload⟩⟩

end Sys2Proof.Machine
end

section
/-! Configure Limits, the three detectors of a channel and what their firing makes of the engine (R85, R95, R124 to R134). -/

namespace Sys2Proof.Machine

open Sys2Proof

/-! ### The persistence rule (R125) -/

section persistence
variable {d : Detector} {p : Nat}

theorem Detector.evaluate_over_of_clear (h : d.state = .clear) :
    d.evaluate p true = { state := if p = 1 then .triggered else .counting, count := 1 } := by
  simp [Detector.evaluate, h]

theorem Detector.evaluate_over_of_counting (h : d.state = .counting) :
    d.evaluate p true = { state := if p ≤ d.count + 1 then .triggered else .counting, count := d.count + 1 } := by
  simp [Detector.evaluate, h]

theorem Detector.evaluate_over_of_triggered (h : d.state = .triggered) : d.evaluate p true = d := by
  simp [Detector.evaluate, h]

/-- One in-limit evaluation clears a detector that has left CLEAR. -/
theorem Detector.evaluate_within (h : d.state ≠ .clear) : d.evaluate p false = Detector.cleared := by
  cases hs : d.state with
  | clear => exact absurd hs h
  | counting => simp [Detector.evaluate, hs]
  | triggered => simp [Detector.evaluate, hs]

/-- The over-limit evaluation that reaches the persistence, from CLEAR or COUNTING. -/
theorem Detector.evaluate_reaches
    (h : d.state = .clear ∧ d.count = 0 ∧ p = 1 ∨ d.state = .counting ∧ p ≤ d.count + 1) :
    d.evaluate p true = { state := .triggered, count := d.count + 1 } := by
  rcases h with ⟨hstate, hcount, hp⟩ | ⟨hstate, hp⟩
  · rw [Detector.evaluate_over_of_clear hstate, if_pos hp, hcount]
  · rw [Detector.evaluate_over_of_counting hstate, if_pos hp]

end persistence

/-- `n` over-limit evaluations in a row, from CLEAR. -/
def Detector.overRun (p n : Nat) : Detector := (fun d : Detector => d.evaluate p true)^[n] Detector.cleared

theorem Detector.overRun_succ (p n : Nat) : Detector.overRun p (n + 1) = (Detector.overRun p n).evaluate p true :=
  Function.iterate_succ_apply' _ _ _

theorem Detector.overRun_of_lt {p n : Nat} (hn : 1 ≤ n) (h : n < p) :
    Detector.overRun p n = { state := .counting, count := n } := by
  induction n, hn using Nat.le_induction with
  | base => rw [Detector.overRun_succ, Detector.evaluate_over_of_clear (by rfl), if_neg (by omega)]
  | succ n hn ih =>
    rw [Detector.overRun_succ, ih (by omega), Detector.evaluate_over_of_counting (by rfl), if_neg (by dsimp only; omega)]

/-- The p-th evaluation triggers: for p = 1 from CLEAR, else from COUNTING with count p − 1. -/
theorem Detector.overRun_self {p : Nat} (hp : 1 ≤ p) : Detector.overRun p p = { state := .triggered, count := p } := by
  obtain ⟨n, rfl⟩ : ∃ n, p = n + 1 := ⟨p - 1, by omega⟩
  rw [Detector.overRun_succ]
  rcases Nat.eq_zero_or_pos n with rfl | hn
  · exact Detector.evaluate_reaches (.inl ⟨rfl, rfl, rfl⟩)
  · rw [Detector.overRun_of_lt hn n.lt_succ_self]
    exact Detector.evaluate_reaches (.inr ⟨rfl, Nat.le_refl _⟩)

theorem Detector.overRun_of_ge {p n : Nat} (hp : 1 ≤ p) (h : p ≤ n) :
    Detector.overRun p n = { state := .triggered, count := p } := by
  induction n, h using Nat.le_induction with
  | base => exact Detector.overRun_self hp
  | succ n _ ih => rw [Detector.overRun_succ, ih, Detector.evaluate_over_of_triggered (by rfl)]

/-- Settles O36, by induction on the number of evaluations below and from the persistence on. -/
theorem persistenceLaw : Obligations.PersistenceLaw := by
  intro p n hp hn
  refine ⟨Detector.overRun_of_lt hn, Detector.overRun_of_ge hp, ?cleared⟩
  have hleft : (Detector.overRun p n).state ≠ .clear := by
    rcases Nat.lt_or_ge n p with h | h
    · rw [Detector.overRun_of_lt hn h]; nofun
    · rw [Detector.overRun_of_ge hp h]; nofun
  exact Detector.evaluate_within hleft

/-! ### Configure Limits (R134) -/

@[simp] theorem readAction_code (a : Action) : readAction a.code = some a := by cases a <;> rfl

theorem readFlag_of_lt {v : Nat} (h : v < 2) : readFlag v = some (v == 1) := by interval_cases v <;> rfl

theorem limitConfigOf_of_read {l : LimitFields} {ea ta ca : Action} (hea : l.envAction = ea.code) (hta : l.trkAction = ta.code)
    (hca : l.clampAction = ca.code) (hee : l.envEnable < 2) (hte : l.trkEnable < 2) (hce : l.clampEnable < 2) :
    limitConfigOf l = some
      { fMin := l.fMin, fMax := l.fMax, eMax := l.eMax, delay := l.delay, envPersist := l.envPersist,
        trkPersist := l.trkPersist, kc := l.kc, env := { action := ea, enable := l.envEnable == 1 },
        trk := { action := ta, enable := l.trkEnable == 1 }, clamp := { action := ca, enable := l.clampEnable == 1 } } := by
  simp only [limitConfigOf, hea, hta, hca, readAction_code, readFlag_of_lt hee, readFlag_of_lt hte, readFlag_of_lt hce]

theorem limitsInRange_iff (c : LimitConfig) :
    limitsInRange c = true ↔ c.fMin ≤ c.fMax ∧ c.delay ≤ 14 ∧ 1 ≤ c.envPersist ∧ c.envPersist ≤ 255 ∧ 1 ≤ c.trkPersist
      ∧ c.trkPersist ≤ 255 ∧ 1 ≤ c.kc := by
  simp [limitsInRange, and_assoc]

theorem takeConfigureLimits_of_accepted {s : State} {ch : Nat} {l : LimitFields} {c : LimitConfig} (hch : ch < 16)
    (hc : limitConfigOf l = some c) (hrange : limitsInRange c = true) :
    takeConfigureLimits ch l s = accept (s.setLimits ch { (s.limits ch).clearDetectors with config := c }) [] := by
  simp only [takeConfigureLimits, hc]
  exact if_neg (not_or.mpr ⟨by omega, not_not.mpr hrange⟩)

/-! ### DETECTOR_FIRE (R124, R131; log entry 1) -/

/-- The record of a channel's detector. -/
def ChannelLimits.detector (l : ChannelLimits) : DetectorKind → Detector
  | .envelope => l.env
  | .tracking => l.trk
  | .clampRate => l.clamp

/-- The evaluation that DETECTOR_FIRE takes alone. -/
def State.evaluateDetector (s : State) (ch : Nat) (f : Int) : DetectorKind → State
  | .envelope => s.evalEnvelope ch f (s.windowStamp ch)
  | .tracking => s.evalTracking ch f (s.windowStamp ch)
  | .clampRate => s.evalClamp ch

theorem exec_detectorFire (ch : Nat) (k : DetectorKind) (f : Int) (s : State) :
    exec (.detectorFire ch k f) s
      = if s.evaluates ch k = true
          ∧ fires ((s.limits ch).detector k) (((s.evaluateDetector ch f k).limits ch).detector k) = true
        then .next (s.evaluateDetector ch f k) else .next s := by
  cases k <;> rfl

theorem fires_of_triggered {old new : Detector} (hold : old.state ≠ .triggered) (hnew : new.state = .triggered) :
    fires old new = true := by
  simp [fires, hold, hnew]

/-- DETECTOR_FIRE where the evaluation moves the detector to TRIGGERED. -/
theorem exec_detectorFire_of_fires {s : State} {ch : Nat} (hch : ch < 16) {k : DetectorKind} {f : Int} {l : ChannelLimits}
    {r : LimitRecord} (heval : s.evaluates ch k = true)
    (hevaluated : s.evaluateDetector ch f k = (s.setLimits ch l).fireDetector r)
    (hfires : fires ((s.limits ch).detector k) (l.detector k) = true) :
    exec (.detectorFire ch k f) s = .next ((s.setLimits ch l).fireDetector r) := by
  have hlimits : ((s.setLimits ch l).fireDetector r).limits ch = l := by
    rw [State.limits_congr ch (State.fireDetector_lm _ r), State.limits_setLimits_same s ch l hch]
  rw [exec_detectorFire, hevaluated, hlimits, if_pos ⟨heval, hfires⟩]

theorem exec_detectorFire_of_not_evaluates {s : State} {ch : Nat} {k : DetectorKind} (h : s.evaluates ch k = false) (f : Int) :
    exec (.detectorFire ch k f) s = .next s := by
  rw [exec_detectorFire, if_neg (by simp [h])]

section feedback
variable {s : State} {ch : Nat} {w : Window} {d : Detector} {f : Int} (hch : ch < 16) (hs : (s.port ch).state = .engaged)
  (hw : (s.port ch).window = some w)
include hw

theorem State.windowStamp_of_open : s.windowStamp ch = w.stamp := by simp [State.windowStamp, hw]

include hch hs

/-- ENVELOPE fires on a feedback outside its band (R126, R131). -/
theorem exec_detectorFire_envelope (hen : (s.limits ch).config.env.enable = true)
    (hover : f < (s.limits ch).config.fMin ∨ (s.limits ch).config.fMax < f)
    (hold : (s.limits ch).env.state ≠ .triggered)
    (hd : (s.limits ch).env.evaluate (s.limits ch).config.envPersist true = d) (hnew : d.state = .triggered) :
    exec (.detectorFire ch .envelope f) s
      = .next (State.fireDetector (s.setLimits ch { s.limits ch with env := d })
          { channel := ch, detector := .envelope, action := (s.limits ch).config.env.action, stamp := w.stamp,
            measured := f }) := by
  have hfires := fires_of_triggered hold hnew
  refine exec_detectorFire_of_fires hch (by simp [State.evaluates, hs]) ?_ hfires
  simp only [State.evaluateDetector, State.evalEnvelope, State.windowStamp_of_open hw, hen, envelopeOver_eq,
    decide_eq_true hover, hd, hfires, if_true]

/-- TRACKING fires on an error above its limit (R128, R131). -/
theorem exec_detectorFire_tracking (hen : (s.limits ch).config.trk.enable = true)
    (hover : (s.limits ch).config.eMax < trackingError (s.limits ch) f)
    (hold : (s.limits ch).trk.state ≠ .triggered)
    (hd : (s.limits ch).trk.evaluate (s.limits ch).config.trkPersist true = d) (hnew : d.state = .triggered) :
    exec (.detectorFire ch .tracking f) s
      = .next (State.fireDetector (s.setLimits ch { s.limits ch with trk := d })
          { channel := ch, detector := .tracking, action := (s.limits ch).config.trk.action, stamp := w.stamp,
            measured := trackingError (s.limits ch) f }) := by
  have hfires := fires_of_triggered hold hnew
  refine exec_detectorFire_of_fires hch (by simp [State.evaluates, hs]) ?_ hfires
  simp only [State.evaluateDetector, State.evalTracking, State.windowStamp_of_open hw, hen, decide_eq_true hover, hd, hfires,
    if_true]

end feedback

/-- The indication that reaches Kc (R129). -/
theorem Detector.countClamp_reaches {d : Detector} {kc : Nat} (h : d.state ≠ .triggered) (hkc : kc ≤ min 65535 (d.count + 1)) :
    d.countClamp kc = { state := .triggered, count := min 65535 (d.count + 1) } := by
  cases hs : d.state with
  | triggered => exact absurd hs h
  | clear => simp only [Detector.countClamp, hs, if_pos hkc]
  | counting => simp only [Detector.countClamp, hs, if_pos hkc]

/-- CLAMP_RATE is evaluated for an ENGAGED channel while the engine plays a clip that drives it (R129, R133). -/
theorem State.evaluates_clampRate_iff (s : State) (ch : Nat) :
    s.evaluates ch .clampRate = true ↔ (s.port ch).state = .engaged
      ∧ (s.pe.state = .rampIn ∨ s.pe.state = .running ∨ s.pe.state = .rampOut) ∧ ch ∈ s.drivenChannels := by
  simp only [State.evaluates, Bool.and_eq_true, beq_iff_eq, playing_iff, State.driven_iff]

/-- CLAMP_RATE fires on the indication that reaches Kc (R129, R131). -/
theorem exec_detectorFire_clampRate {s : State} {ch : Nat} {d : Detector} (hch : ch < 16) (f : Int)
    (heval : s.evaluates ch .clampRate = true) (hen : (s.limits ch).config.clamp.enable = true)
    (hold : (s.limits ch).clamp.state ≠ .triggered)
    (hd : (s.limits ch).clamp.countClamp (s.limits ch).config.kc = d) (hnew : d.state = .triggered) :
    exec (.detectorFire ch .clampRate f) s
      = .next (State.fireDetector (s.setLimits ch { s.limits ch with clamp := d })
          { channel := ch, detector := .clampRate, action := (s.limits ch).config.clamp.action, stamp := s.pe.counter,
            measured := d.count }) := by
  have hfires := fires_of_triggered hold hnew
  refine exec_detectorFire_of_fires hch heval ?_ hfires
  simp only [State.evaluateDetector, State.evalClamp, hen, hd, hfires, if_true]

/-! ### PAUSE and STOP by engine state (R85, R90) -/

theorem State.actionApplies_pause_iff (s : State) :
    s.actionApplies .pause = true ↔ s.pe.state = .rampIn ∨ s.pe.state = .running := by
  cases h : s.pe.state <;> simp [State.actionApplies, h]

theorem State.actionApplies_stop_iff (s : State) :
    s.actionApplies .stop = true ↔ s.pe.state = .rampIn ∨ s.pe.state = .running
      ∨ s.pe.state = .rampOut ∧ s.pe.target = some .paused ∨ s.pe.state = .paused := by
  cases h : s.pe.state <;> simp [State.actionApplies, h]

/-- Entering IDLE, PAUSED or TRIPPED leaves no armed watch (R72). -/
theorem State.enterStopped_sq (s : State) (new : EngineState) (cause : Option EngineCause) :
    (s.enterStopped new cause).sq = { s.sq with watch := false } := by
  rw [State.enterStopped, State.fireWatch_sq, State.enterState_sq]

section actions
variable {s : State} (cause : EngineCause) (channel : Option Nat)

/-- While the engine ramps in or runs, a PAUSE and a STOP ramp out, each toward its own target. -/
theorem State.applyAction_of_playing (h : s.pe.state = .rampIn ∨ s.pe.state = .running) {a : Action} {target : Target}
    (ha : a = .pause ∧ target = .paused ∨ a = .stop ∧ target = .idle) :
    s.applyAction a cause channel
      = State.raise
          { s with pe := { s.pe with
            state := .rampOut, target := some target, stopCause := some cause,
            lastAction := some { action := a, cause := cause, channel := channel, stamp := s.pe.counter,
                                 applied := true } } }
          .engine (some (.engine s.pe.state .rampOut (some cause))) := by
  rcases ha with ⟨rfl, rfl⟩ | ⟨rfl, rfl⟩
  · rw [State.applyAction_applied (s.actionApplies_pause_iff.mpr h)]
    rfl
  · rw [State.applyAction_applied (s.actionApplies_stop_iff.mpr (h.imp_right .inl))]
    rcases h with h | h <;> simp only [State.actionEffect, State.setPe_pe, h] <;> rfl

/-- A STOP turns a ramp-out toward PAUSED to IDLE. -/
theorem State.applyAction_stop_of_pausing (h : s.pe.state = .rampOut) (htarget : s.pe.target = some .paused) :
    s.applyAction .stop cause channel
      = { s with pe := { s.pe with
          target := some .idle, stopCause := some cause,
          lastAction := some { action := .stop, cause := cause, channel := channel, stamp := s.pe.counter,
                               applied := true } } } := by
  rw [State.applyAction_applied (s.actionApplies_stop_iff.mpr (.inr (.inr (.inl ⟨h, htarget⟩))))]
  simp only [State.actionEffect, State.setPe_pe, h]
  rfl

/-- A STOP in PAUSED enters IDLE and releases the context. -/
theorem State.applyAction_stop_of_paused (h : s.pe.state = .paused) :
    s.applyAction .stop cause channel
      = ((s.setPe { s.pe with
            stopCause := some cause,
            lastAction := some { action := .stop, cause := cause, channel := channel, stamp := s.pe.counter,
                                 applied := true } }).enterStopped .idle (some cause)).releaseContext := by
  rw [State.applyAction_applied (s.actionApplies_stop_iff.mpr (.inr (.inr (.inr h))))]
  simp only [State.actionEffect, State.setPe_pe, h]
  rfl

theorem State.applyAction_stop_of_paused_pe (h : s.pe.state = .paused) :
    (s.applyAction .stop cause channel).pe = { s.pe with
      state := .idle, stopCause := some cause, ctx := none,
      lastAction := some { action := .stop, cause := cause, channel := channel, stamp := s.pe.counter, applied := true } } := by
  rw [State.applyAction_stop_of_paused cause channel h, State.releaseContext_pe, State.enterStopped_pe]
  rfl

theorem State.applyAction_stop_of_paused_sq (h : s.pe.state = .paused) {c : Context} {e : Entry} (hc : s.pe.ctx = some c)
    (he : s.cursorEntry = some e) :
    (s.applyAction .stop cause channel).sq = { s.queueReleased c e with watch := false } := by
  rw [State.applyAction_stop_of_paused cause channel h]
  generalize hu : s.setPe _ = u
  have hsq : (u.enterStopped .idle (some cause)).sq = { s.sq with watch := false } := by
    rw [State.enterStopped_sq, ← hu]
    rfl
  have hctx : (u.enterStopped .idle (some cause)).pe.ctx = some c := by
    rw [State.enterStopped_pe, ← hu]
    exact hc
  have hentry : (u.enterStopped .idle (some cause)).cursorEntry = some e := by
    rw [State.cursorEntry, hsq]
    exact he
  rw [State.releaseContext_sq hctx hentry, State.queueReleased_of_watch hsq]

end actions

/-! ### A firing (R131) -/

theorem State.fireDetector_of_note {s : State} {r : LimitRecord} (h : r.action = .note) :
    s.fireDetector r = s.raise .limit (some (.limit r)) := if_pos h

theorem State.fireDetector_of_action {s : State} {r : LimitRecord} {a : Action} (h : r.action = a) (ha : a ≠ .note) :
    s.fireDetector r = (s.raise .limit (some (.limit r))).applyAction a (limitCause a) (some r.channel) := by
  subst h
  exact if_neg ha

/-- A firing whose action does not apply raises LIMIT, and the action is recorded only (R85). -/
theorem State.fireDetector_of_recorded {s : State} {r : LimitRecord} {a : Action} (h : r.action = a) (ha : a ≠ .note)
    (hnot : s.actionApplies a = false) :
    s.fireDetector r = { s.raise .limit (some (.limit r)) with pe := { s.pe with
      lastAction := some { action := a, cause := limitCause a, channel := some r.channel, stamp := s.pe.counter,
                           applied := false } } } := by
  have hraised : (s.raise .limit (some (.limit r))).actionApplies a = false := by
    simpa only [State.actionApplies, State.raise_pe] using hnot
  rw [State.fireDetector_of_action h ha, State.applyAction_recorded hraised, State.raise_pe]
  rfl

/-- Settles O35: Configure Limits by its taking, DETECTOR_FIRE by detector, and a firing by action and engine state. -/
theorem limitMonitorResult : Obligations.LimitMonitorResult := by
  intro ch s hch
  refine ⟨fun tag l ea ta ca hfree hband hdelay henv1 henv2 htrk1 htrk2 hkc hea hta hca hee hte hce => ?configure,
    fun f w hs hw hcfg hp hclear hover => ?noted, fun f w l d err hl hs hw => ⟨?envelope, ?tracking, ?clampRate⟩,
    fun f h => ?still, fun r u last hu hlast => ⟨?note, ?pause, ?stop, ?trip⟩⟩
  case configure =>
    exact exec_of_taking (c := .configureLimits tag ch l) rfl nofun hfree
      (takeConfigureLimits_of_accepted hch (limitConfigOf_of_read hea hta hca hee hte hce)
        ((limitsInRange_iff _).mpr ⟨hband, hdelay, henv1, henv2, htrk1, htrk2, hkc⟩))
  case noted =>
    have hd : (s.limits ch).env.evaluate (s.limits ch).config.envPersist true = { state := .triggered, count := 1 } := by
      rw [Detector.evaluate_over_of_clear hclear, if_pos hp]
    rw [exec_detectorFire_envelope hch hs hw (by rw [hcfg]) hover (by rw [hclear]; nofun) hd rfl,
      State.fireDetector_of_note (by rw [hcfg]), hcfg]
  case envelope =>
    intro hen hd hreach hover
    subst hl hd
    have hold : (s.limits ch).env.state ≠ .triggered := by rcases hreach with ⟨h, -⟩ | ⟨h, -⟩ <;> rw [h] <;> nofun
    exact exec_detectorFire_envelope hch hs hw hen hover hold (Detector.evaluate_reaches hreach) rfl
  case tracking =>
    intro hen hd hreach herr hover
    subst hl hd herr
    have hold : (s.limits ch).trk.state ≠ .triggered := by rcases hreach with ⟨h, -⟩ | ⟨h, -⟩ <;> rw [h] <;> nofun
    exact exec_detectorFire_tracking hch hs hw hen hover hold (Detector.evaluate_reaches hreach) rfl
  case clampRate =>
    intro hen hd hold hreach hdriven hplays
    subst hl hd
    exact exec_detectorFire_clampRate hch f ((s.evaluates_clampRate_iff ch).mpr ⟨hs, hplays, hdriven⟩) hen hold
      (Detector.countClamp_reaches hold hreach) rfl
  case still =>
    refine exec_detectorFire_of_not_evaluates (Bool.eq_false_iff.mpr fun heval => ?_) f
    obtain ⟨-, hplays, hdriven⟩ := (s.evaluates_clampRate_iff ch).mp heval
    rcases h with h | h | h | h | h
    case inr.inr.inr.inr => exact h hdriven
    all_goals rw [h] at hplays; simp at hplays
  case note => exact fun h => (State.fireDetector_of_note h).trans hu.symm
  case pause =>
    intro h
    subst hu
    simp only [hlast, h]
    refine ⟨fun hplays => ?_, fun hin hrun => ?_⟩
    · rw [State.fireDetector_of_action h nofun,
        State.applyAction_of_playing _ _ (by rwa [State.raise_pe]) (.inl ⟨rfl, rfl⟩), State.raise_pe]
      rfl
    · exact State.fireDetector_of_recorded h nofun (Bool.eq_false_iff.mpr (by simp [State.actionApplies_pause_iff, hin, hrun]))
  case stop =>
    intro h
    have hfire := s.fireDetector_of_action h nofun
    subst hu
    simp only [hlast, h]
    refine ⟨fun hplays => ?_, fun hout htarget => ?_, fun c e hpaused hc he => ⟨?_, ?_, ?_, ?_⟩, fun hrest => ?_⟩
    · rw [hfire, State.applyAction_of_playing _ _ (by rwa [State.raise_pe]) (.inr ⟨rfl, rfl⟩), State.raise_pe]
      rfl
    · rw [hfire, State.applyAction_stop_of_pausing _ _ (by rwa [State.raise_pe]) (by rwa [State.raise_pe]), State.raise_pe]
      rfl
    · rw [hfire, State.applyAction_stop_of_paused_pe _ _ (by rwa [State.raise_pe]), State.raise_pe]
      rfl
    · have hraised := State.queueReleased_of_watch (State.raise_sq s .limit (some (.limit r))) c e
      have hentry : (s.raise .limit (some (.limit r))).cursorEntry = some e := by rwa [State.cursorEntry, State.raise_sq]
      rw [hfire, State.applyAction_stop_of_paused_sq _ _ (by rwa [State.raise_pe]) (by rwa [State.raise_pe]) hentry, hraised]
    · exact State.limits_congr ch (State.fireDetector_lm _ r)
    · exact State.port_congr ch (State.fireDetector_cpc _ r)
    · refine State.fireDetector_of_recorded h nofun (Bool.eq_false_iff.mpr ?_)
      rw [Ne, State.actionApplies_stop_iff]
      rcases hrest with h | h | h | ⟨h, htarget⟩ <;> simp [*]
  case trip =>
    intro h
    subst hu
    refine ⟨fun hlive => ?_, fun htripped => ?_⟩
    · rw [State.fireDetector_of_action h nofun]
      exact State.applyAction_trips (by rwa [State.raise_pe]) _ _
    · simp only [hlast, h]
      exact State.fireDetector_of_recorded h nofun (by simp [State.actionApplies, htripped])

end Sys2Proof.Machine
end

section
/-! The requests of the mark units and the edges at their inputs (R143, R144, R153 to R157). -/

namespace Sys2Proof.Machine

open Sys2Proof

/-! ### The bytes of a Configure Mark that have a meaning (R198) -/

theorem readSelector_of_clip {id : Nat} (h : id < 64) : readSelector id = some (some id) := if_pos h

@[simp] theorem readOutputMode_code (o : OutputMode) : readOutputMode o.code = some o := by cases o <;> rfl

@[simp] theorem readEdge_code (e : EdgeMode) : readEdge e.code = some e := by cases e <;> rfl

/-! ### The requests (R143, R144, R157) -/

theorem configuredMark_compare (u : MarkUnit) (m : Nat) {id value triggers : Nat} (o : OutputMode) (hid : id < 64)
    (hvalue : value ≤ Config.maxCompare) (htriggers : triggers < 8) :
    configuredMark u (.compare m id value o.code triggers)
      = some { u with mode := .compare, selector := some id, compareAt := value, outputMode := o,
                      trigNotify := triggers.testBit 0, trigCapture := triggers.testBit 1,
                      trigCut := triggers.testBit 2, counter := 0 } := by
  simp only [configuredMark, readSelector_of_clip hid, readOutputMode_code]
  exact if_pos ⟨hvalue, htriggers⟩

theorem configuredMark_capture (u : MarkUnit) (m : Nat) {prescale notify : Nat} (e : EdgeMode)
    (hprescale : prescale = 1 ∨ prescale = 4 ∨ prescale = 16) (hnotify : notify < 2) :
    configuredMark u (.capture m e.code prescale notify)
      = some { u with mode := .capture, edge := e, prescale := prescale, captureNotify := notify == 1,
                      counter := 0 } := by
  simp only [configuredMark, readEdge_code, readFlag_of_lt hnotify]
  exact if_pos hprescale

/-- A Configure Mark whose fields pass is answered OK, with its unit as the fields leave it. -/
theorem exec_configureMark_of_configured {fields : MarkFields} {u : MarkUnit} {s : State} (tag : Nat)
    (hfree : s.repliesHeld < 2) (hm : markUnitOf fields < 6)
    (hu : configuredMark (s.mark (markUnitOf fields)) fields = some u) :
    exec (.configureMark tag fields) s
      = .next (State.answered (s.setMark (markUnitOf fields) u) 0x70 tag .ok []) := by
  have htaking : takeConfigureMark fields s = accept (s.setMark (markUnitOf fields) u) [] := by
    simp only [takeConfigureMark, if_neg (show ¬ 5 < markUnitOf fields by omega), hu]
  exact exec_of_taking (c := .configureMark tag fields) rfl nofun hfree htaking

theorem takeSetMarkOutput_of_lt {m level : Nat} (hm : m < 6) (hlevel : level < 2) (s : State) :
    takeSetMarkOutput m level s = accept (s.setMark m { s.mark m with output := level == 1 }) [] := by
  simp only [takeSetMarkOutput, readFlag_of_lt hlevel]
  exact if_neg (by omega)

theorem takeReadMark_of_lt {m clear : Nat} (hm : m < 6) (hclear : clear < 2) (s : State) :
    takeReadMark m clear s
      = accept (s.setMark m { s.mark m with unread := false, overflow := (s.mark m).overflow && clear == 0 })
          (markBytes (s.mark m)) := by
  have hkeep : (!(clear == 1)) = (clear == 0) := by interval_cases clear <;> rfl
  simp only [takeReadMark, readFlag_of_lt hclear, hkeep]
  exact if_neg (by omega)

/-- Settles O37: each request is its taking with every field in range, answered OK. -/
theorem markRequestsResult : Obligations.MarkRequestsResult := by
  intro tag m s hfree hm
  refine ⟨?off, ?compare, ?capture, ?output, ?read⟩
  case off => exact exec_configureMark_of_configured tag hfree hm rfl
  case compare =>
    intro id value triggers o hid hvalue htriggers
    exact exec_configureMark_of_configured tag hfree hm (configuredMark_compare _ m o hid hvalue htriggers)
  case capture =>
    intro prescale notify e hprescale hnotify
    exact exec_configureMark_of_configured tag hfree hm (configuredMark_capture _ m e hprescale hnotify)
  case output =>
    intro level hlevel
    exact exec_of_taking (c := .setMarkOutput tag m level) rfl nofun hfree (takeSetMarkOutput_of_lt hm hlevel s)
  case read =>
    intro clear hclear
    exact exec_of_taking (c := .readMark tag m clear) rfl nofun hfree (takeReadMark_of_lt hm hclear s)

/-! ### An edge at a mark input (R153 to R156) -/

section edge
variable {s : State} {m : Nat} {rising : Bool}

theorem exec_markInputEdge_of_lt (hm : m < 6) : exec (.markInputEdge m rising) s = .next (s.markEdge m rising) :=
  if_pos hm

theorem State.markEdge_of_ignored (h : (s.mark m).qualifies rising = false) :
    s.markEdge m rising = s.setMark m { s.mark m with input := rising } :=
  if_neg (ne_true_of_eq_false h)

/-- A qualifying edge is counted, or captured when it completes the prescale (R153, R154). -/
theorem State.markEdge_of_qualifies (h : (s.mark m).qualifies rising = true) :
    s.markEdge m rising
      = if (s.mark m).prescale ≤ (s.mark m).counter + 1 then s.markCapture m { s.mark m with input := rising }
        else s.setMark m { s.mark m with input := rising, counter := (s.mark m).counter + 1 } :=
  if_pos h

end edge

/-- Settles O38: whether the edge qualifies, and whether it completes the prescale. -/
theorem markInputEdgeResult : Obligations.MarkInputEdgeResult := by
  intro m rising s hm
  rw [exec_markInputEdge_of_lt hm]
  refine ⟨?ignored, ?counted, ?captured⟩
  case ignored => exact fun hnot => congrArg _ (State.markEdge_of_ignored hnot)
  case counted =>
    intro hqual hbelow
    rw [State.markEdge_of_qualifies hqual, if_neg (not_le.mpr hbelow)]
  case captured =>
    rintro hqual hreached _ rfl
    rw [State.markEdge_of_qualifies hqual, if_pos hreached]
    rfl

end Sys2Proof.Machine
end

section
/-! The law of the Response Capture Unit: its banks stay in step with its headers, by what each operation makes of the bank of a
role, and so at every step (R159 to R172). -/

namespace Sys2Proof.Machine

open Sys2Proof

/-! ### The bank of a role -/

/-- No bank has the role, or one alone has it and holds this many words. -/
def CaptureUnit.BankOf (r : CaptureUnit) (role : BankRole) : Option Nat → Prop
  | none => r.bank0.role ≠ role ∧ r.bank1.role ≠ role
  | some n => (r.bank0.role = role ∧ r.bank0.words.length = n ∧ r.bank1.role ≠ role)
      ∨ (r.bank0.role ≠ role ∧ r.bank1.role = role ∧ r.bank1.words.length = n)

/-- The bank of a role in the words of the law: a count of banks, and the words of the one. -/
theorem CaptureUnit.bankOf_iff {r : CaptureUnit} {role : BankRole} {size : Option Nat} :
    r.BankOf role size ↔ [r.bank0, r.bank1].countP (fun b => b.role == role) = (if size.isSome then 1 else 0)
      ∧ ∀ n, size = some n → ∀ b ∈ [r.bank0, r.bank1], b.role = role → b.words.length = n := by
  by_cases h0 : r.bank0.role = role <;> by_cases h1 : r.bank1.role = role
  all_goals cases size <;> simp [CaptureUnit.BankOf, h0, h1]

theorem CaptureUnit.BankOf.oneFills {r : CaptureUnit} {n : Nat} (h : r.BankOf .filling (some n)) : r.OneFills :=
  h.imp (fun ⟨h0, _, h1⟩ => ⟨h0, h1⟩) fun ⟨h0, h1, _⟩ => ⟨h0, h1⟩

/-- Only the banks that have the role before or after an operation matter. -/
theorem CaptureUnit.BankOf.congr {r q : CaptureUnit} {role : BankRole} {size : Option Nat} (h : r.BankOf role size)
    (h0 : q.bank0 = r.bank0 ∨ r.bank0.role ≠ role ∧ q.bank0.role ≠ role)
    (h1 : q.bank1 = r.bank1 ∨ r.bank1.role ≠ role ∧ q.bank1.role ≠ role) : q.BankOf role size := by
  cases size with
  | none =>
    obtain ⟨hr0, hr1⟩ := h
    exact ⟨h0.elim (fun e => e ▸ hr0) And.right, h1.elim (fun e => e ▸ hr1) And.right⟩
  | some n =>
    rcases h with ⟨hr0, hn, hr1⟩ | ⟨hr0, hr1, hn⟩
    · have e := h0.resolve_right fun hne => hne.1 hr0
      exact .inl ⟨e ▸ hr0, e ▸ hn, h1.elim (fun e => e ▸ hr1) And.right⟩
    · have e := h1.resolve_right fun hne => hne.1 hr1
      exact .inr ⟨h0.elim (fun e => e ▸ hr0) And.right, e ▸ hr1, e ▸ hn⟩

/-- At most one bank has the role. -/
theorem CaptureUnit.BankOf.alone {r : CaptureUnit} {role : BankRole} {size : Option Nat} (h : r.BankOf role size)
    (h0 : r.bank0.role = role) : r.bank1.role ≠ role := by
  cases size with
  | none => exact absurd h0 h.1
  | some n =>
    rcases h with ⟨-, -, h1⟩ | ⟨hne, -, -⟩
    · exact h1
    · exact absurd h0 hne

@[simp] theorem Bank.joined_role (b : Bank) (ws : List Int) : (b.joined ws).role = b.role := by
  unfold Bank.joined
  split <;> rfl

theorem Bank.joined_of_filling {b : Bank} (h : b.role = .filling) (ws : List Int) :
    b.joined ws = { b with words := b.words ++ ws } := if_pos h

/-- Joining words changes the filling bank alone, which is not the committed one. -/
theorem Bank.joined_cases (b : Bank) (ws : List Int) :
    b.joined ws = b ∨ b.role ≠ .committed ∧ (b.joined ws).role ≠ .committed := by
  by_cases h : b.role = .filling
  · exact .inr (by simp [h])
  · exact .inl (if_neg h)

theorem Bank.aborted_role_ne (b : Bank) : b.aborted.role ≠ .filling := by
  unfold Bank.aborted
  split
  · nofun
  · next h => exact h

/-- An abort changes the filling bank alone, which is not the committed one. -/
theorem Bank.aborted_cases (b : Bank) : b.aborted = b ∨ b.role ≠ .committed ∧ b.aborted.role ≠ .committed := by
  by_cases h : b.role = .filling
  · exact .inr (by simp [Bank.aborted, h, Bank.empty])
  · exact .inl (if_neg h)

/-! ### The law of the unit -/

/-- A header asks for no more than a bank has. -/
def Header.Fits (h : Header) : Prop := fitsBank h.chans h.withCommand h.records

/-- The words of the records a header has taken (R161). -/
def Header.wordsTaken (h : Header) : Nat := h.taken * h.chans.length * (if h.withCommand then 2 else 1)

/-- The law of the capture banks, as a law of the unit alone. -/
structure CaptureUnit.Lawful (r : CaptureUnit) : Prop where
  filling_header : r.state = .filling ↔ r.filling.isSome
  configured : r.state ≠ .unconfigured → r.config.isSome
  config_fits : ∀ c, r.config = some c → fitsBank c.chans c.withCommand c.records
  filling_fits : ∀ h, r.filling = some h → h.taken < h.records ∧ h.Fits
  committed_fits : ∀ h, r.committed = some h → h.Fits
  filling_bank : r.BankOf .filling (r.filling.map Header.wordsTaken)
  committed_bank : r.BankOf .committed (r.committed.map headerWords)

theorem State.captureLawful_iff {s : State} : s.CaptureLawful ↔ s.rcu.Lawful := by
  constructor
  · intro hs
    refine ⟨hs.filling_header, hs.configured, hs.config_fits, fun h hh => ?_, fun h hh => (hs.committed_fits h hh).1, ?_, ?_⟩
    · obtain ⟨hmore, hfits, -⟩ := hs.filling_fits h hh
      exact ⟨hmore, hfits⟩
    · refine CaptureUnit.bankOf_iff.mpr ⟨by simpa using hs.one_filling, fun n hn => ?_⟩
      obtain ⟨h, hh, rfl⟩ := Option.map_eq_some_iff.mp hn
      obtain ⟨-, -, hwords⟩ := hs.filling_fits h hh
      exact hwords
    · refine CaptureUnit.bankOf_iff.mpr ⟨by simpa using hs.one_committed, fun n hn => ?_⟩
      obtain ⟨h, hh, rfl⟩ := Option.map_eq_some_iff.mp hn
      exact (hs.committed_fits h hh).2
  · intro hr
    obtain ⟨hfilling, hfillingWords⟩ := CaptureUnit.bankOf_iff.mp hr.filling_bank
    obtain ⟨hcommitted, hcommittedWords⟩ := CaptureUnit.bankOf_iff.mp hr.committed_bank
    exact
      { filling_header := hr.filling_header
        configured := hr.configured
        one_filling := by simpa using hfilling
        one_committed := by simpa using hcommitted
        config_fits := hr.config_fits
        filling_fits := fun h hh => by
          obtain ⟨hmore, hfits⟩ := hr.filling_fits h hh
          exact ⟨hmore, hfits, hfillingWords _ (Option.map_eq_some_iff.mpr ⟨h, hh, rfl⟩)⟩
        committed_fits := fun h hh =>
          ⟨hr.committed_fits h hh, hcommittedWords _ (Option.map_eq_some_iff.mpr ⟨h, hh, rfl⟩)⟩ }

/-- Without captures, the law is that of the configuration. -/
theorem CaptureUnit.Lawful.of_empty {r : CaptureUnit} (hstate : r.state ≠ .filling)
    (hconfigured : r.state ≠ .unconfigured → r.config.isSome)
    (hfits : ∀ c, r.config = some c → fitsBank c.chans c.withCommand c.records)
    (hfilling : r.filling = none) (hcommitted : r.committed = none) (h0 : r.bank0 = Bank.empty) (h1 : r.bank1 = Bank.empty) :
    r.Lawful where
  filling_header := by simp [hstate, hfilling]
  configured := hconfigured
  config_fits := hfits
  filling_fits _ hh := by simp [hfilling] at hh
  committed_fits _ hh := by simp [hcommitted] at hh
  filling_bank := by simp [CaptureUnit.BankOf, hfilling, h0, h1, Bank.empty]
  committed_bank := by simp [CaptureUnit.BankOf, hcommitted, h0, h1, Bank.empty]

namespace CaptureUnit.Lawful

variable {r : CaptureUnit} {c : CaptureConfig} {h y : Header} (hr : r.Lawful)
include hr

theorem filling_none (hs : r.state ≠ .filling) : r.filling = none := by
  have hnone := mt hr.filling_header.mpr hs
  simpa using hnone

theorem bank_filling (hh : r.filling = some h) : r.BankOf .filling (some h.wordsTaken) := by
  simpa [hh] using hr.filling_bank

/-! ### Requests and triggers (R160, R162, R169) -/

/-- A configuration taken outside FILLING (R160). -/
theorem configure (hs : r.state ≠ .filling) (hc : fitsBank c.chans c.withCommand c.records) :
    Lawful { r with config := some c, state := .armed } where
  filling_header := by simp [hr.filling_none hs]
  configured _ := rfl
  config_fits _ h := Option.some.inj h ▸ hc
  filling_fits := hr.filling_fits
  committed_fits := hr.committed_fits
  filling_bank := hr.filling_bank
  committed_bank := hr.committed_bank

/-- A trigger in ARMED: the bank that starts is no committed one, since two banks hold at most one committed (R162). -/
theorem start (hs : r.state = .armed) (hc : r.config = some c) (t : Trigger) :
    Lawful { r.startBank with state := .filling, filling := some (freshHeader c t) } := by
  have hnone : r.BankOf .filling none := by simpa [hr.filling_none (by rw [hs]; nofun)] using hr.filling_bank
  obtain ⟨hrecords, hwords⟩ := hr.config_fits c hc
  obtain ⟨hconfig, hcommitted⟩ : r.startBank.config = r.config ∧ r.startBank.committed = r.committed := by
    unfold startBank
    split <;> exact ⟨rfl, rfl⟩
  refine ⟨by simp, fun _ => by simp [hconfig, hc], by simpa [hconfig] using hr.config_fits, fun h hh => ?_,
    by simpa [hcommitted] using hr.committed_fits, ?filling, ?committed⟩
  · obtain rfl := Option.some.inj hh
    exact ⟨hrecords, hrecords, hwords⟩
  case filling =>
    obtain ⟨h0, h1⟩ := hnone
    unfold startBank
    split <;> simp [BankOf, h0, h1, Header.wordsTaken, freshHeader]
  case committed =>
    rw [hcommitted]
    unfold startBank
    split
    · next hfree => exact hr.committed_bank.congr (.inr ⟨by simp [hfree], nofun⟩) (.inl rfl)
    · next hfree =>
      have hbank0 : r.bank0.role = .committed := by
        cases hrole : r.bank0.role with
        | free => exact absurd hrole hfree
        | filling => exact absurd hrole hnone.1
        | committed => rfl
      exact hr.committed_bank.congr (.inl rfl) (.inr ⟨hr.committed_bank.alone hbank0, nofun⟩)

/-- A trigger in FILLING takes no record and moves no bank (R162). -/
theorem miss (hh : r.filling = some h) : Lawful { r with filling := some { h with missed := true } } where
  filling_header := by simp [hr.filling_header, hh]
  configured := hr.configured
  config_fits := hr.config_fits
  filling_fits y hy := Option.some.inj hy ▸ hr.filling_fits h hh
  committed_fits := hr.committed_fits
  filling_bank := (hr.bank_filling hh :)
  committed_bank := hr.committed_bank

/-- An abort frees the filling bank and keeps the committed one (R169). -/
theorem abort (hs : r.state = .filling) :
    Lawful { r with bank0 := r.bank0.aborted, bank1 := r.bank1.aborted, filling := none, state := .armed } where
  filling_header := by simp
  configured _ := hr.configured (by rw [hs]; nofun)
  config_fits := hr.config_fits
  filling_fits := nofun
  committed_fits := hr.committed_fits
  filling_bank := ⟨r.bank0.aborted_role_ne, r.bank1.aborted_role_ne⟩
  committed_bank := hr.committed_bank.congr r.bank0.aborted_cases r.bank1.aborted_cases

/-! ### Records (R161, R165, R167) -/

/-- A record that is not the last: its words join the filling bank. -/
theorem record (hh : r.filling = some h) (hmore : h.taken + 1 < h.records) (hfits : y.Fits) (hrecords : y.records = h.records)
    (htaken : y.taken = h.taken + 1) {ws : List Int} (hws : y.wordsTaken = h.wordsTaken + ws.length) :
    Lawful { r with filling := some y, bank0 := r.bank0.joined ws, bank1 := r.bank1.joined ws } where
  filling_header := by simp [hr.filling_header, hh]
  configured := hr.configured
  config_fits := hr.config_fits
  filling_fits z hz := by
    obtain rfl := Option.some.inj hz
    exact ⟨by omega, hfits⟩
  committed_fits := hr.committed_fits
  filling_bank := by
    rcases hr.bank_filling hh with ⟨h0, hn, h1⟩ | ⟨h0, h1, hn⟩
    · exact .inl ⟨by simp [h0], by simp [Bank.joined_of_filling h0, hn, hws], by simpa using h1⟩
    · exact .inr ⟨by simpa using h0, by simp [h1], by simp [Bank.joined_of_filling h1, hn, hws]⟩
  committed_bank := hr.committed_bank.congr (r.bank0.joined_cases ws) (r.bank1.joined_cases ws)

/-- The last record: the filling bank holds the whole capture and becomes the committed one (R167). -/
theorem complete (hc : r.config = some c) (hh : r.filling = some h) (hfits : y.Fits) {ws : List Int}
    (hws : headerWords y = h.wordsTaken + ws.length) : (r.completed c y ws).Lawful where
  filling_header := by
    unfold completed
    cases c.rearm <;> simp
  configured _ := by simp [completed, hc]
  config_fits := hr.config_fits
  filling_fits := nofun
  committed_fits z hz := by
    obtain rfl := Option.some.inj hz
    exact hfits
  filling_bank := by
    unfold completed
    constructor <;> dsimp only <;> split <;> nofun
  committed_bank := by
    have hsize : headerWords { y with sequence := some ((r.sequence + 1) % 4294967296) } = h.wordsTaken + ws.length := hws
    rcases hr.bank_filling hh with ⟨h0, hn, h1⟩ | ⟨h0, h1, hn⟩
    · exact .inl (by simp [completed, h0, h1, hn, hsize])
    · exact .inr (by simp [completed, h0, h1, hn, hsize])

/-! ### The reset (R172) -/

/-- A warm reset keeps the configuration alone. -/
theorem warm : r.warm.Lawful := by
  refine .of_empty ?_ ?_ hr.config_fits rfl rfl rfl rfl
  · unfold CaptureUnit.warm
    split <;> nofun
  · intro hs
    refine hr.configured fun hun => hs ?_
    simp [CaptureUnit.warm, hun]

end CaptureUnit.Lawful

/-! ### The operations of the part -/

/-- The fields that Configure Capture accepts ask for no more than a bank has (R160). -/
theorem captureConfigOf_fits {mask content decimation records rearm : Nat} {c : CaptureConfig}
    (h : captureConfigOf mask content decimation records rearm = some c) : fitsBank c.chans c.withCommand c.records := by
  unfold captureConfigOf at h
  split at h
  · obtain ⟨hin, hc⟩ := Option.ite_none_left_eq_some.mp h
    obtain rfl := Option.some.inj hc
    simp only [not_or, not_lt] at hin
    obtain ⟨-, -, -, hrecords, hwords⟩ := hin
    exact ⟨Nat.one_le_iff_ne_zero.mpr hrecords, hwords⟩
  · cases h

theorem State.wordsOf_length (s : State) (h : Header) :
    (s.wordsOf h).length = h.chans.length * (if h.withCommand then 2 else 1) := by
  unfold State.wordsOf
  cases h.withCommand <;> simp [List.length_flatMap]

/-- A record adds its words to those of the records taken (R161). -/
theorem Header.wordsTaken_recorded (h : Header) (s : State) (stamp : Nat) (pos : Option Position) :
    (h.recorded s stamp pos).wordsTaken = h.wordsTaken + (s.wordsOf h).length := by
  rw [State.wordsOf_length]
  calc (h.recorded s stamp pos).wordsTaken = (h.taken + 1) * h.chans.length * (if h.withCommand then 2 else 1) := rfl
    _ = h.wordsTaken + h.chans.length * (if h.withCommand then 2 else 1) := by rw [Header.wordsTaken]; ring

/-- With its last record a capture has the words of the whole (R167). -/
theorem Header.headerWords_eq {h : Header} (hall : h.records = h.taken) : headerWords h = h.wordsTaken := by
  rw [headerWords, Header.wordsTaken, hall]

namespace State.CaptureLawful

variable {s t : State}

theorem congr (h : t.rcu = s.rcu) (hs : s.CaptureLawful) : t.CaptureLawful := by
  rwa [State.captureLawful_iff, h, ← State.captureLawful_iff]

/-- A record, the last of its capture or not (R165, R167). -/
theorem takeRecord (hs : s.CaptureLawful) {h : Header} (hstate : s.rcu.state = .filling) (hh : s.rcu.filling = some h)
    (pos : Option Position) : (s.takeRecord h pos).CaptureLawful := by
  have hr := State.captureLawful_iff.mp hs
  have hone := (hr.bank_filling hh).oneFills
  obtain ⟨hmore, hfits⟩ := hr.filling_fits h hh
  have hfits : (h.recorded s s.pe.counter pos).Fits := hfits
  have hws := h.wordsTaken_recorded s s.pe.counter pos
  rw [State.captureLawful_iff]
  by_cases hlast : h.records ≤ h.taken + 1
  · obtain ⟨c, hc⟩ := Option.isSome_iff_exists.mp (hr.configured (by rw [hstate]; nofun))
    rw [State.takeRecord_rcu_last hlast hone hc]
    have hall : (h.recorded s s.pe.counter pos).records = (h.recorded s s.pe.counter pos).taken := by
      show h.records = h.taken + 1
      omega
    exact hr.complete hc hh hfits ((Header.headerWords_eq hall).trans hws)
  · rw [State.takeRecord_rcu (not_le.mp hlast) hone]
    exact hr.record hh (not_le.mp hlast) hfits rfl rfl hws

/-- A trigger starts a capture, is missed, or is ignored (R162). -/
theorem captureTrigger (hs : s.CaptureLawful) (x : Trigger) : (s.captureTrigger x).CaptureLawful := by
  have hr := State.captureLawful_iff.mp hs
  unfold State.captureTrigger
  split
  · next c _ hstate hc => exact State.captureLawful_iff.mpr (hr.start hstate hc x)
  · next h hstate hh => exact State.captureLawful_iff.mpr (hr.miss hh)
  · exact hs

theorem captureUpdate (hs : s.CaptureLawful) (pos : Option Position) : (s.captureUpdate pos).CaptureLawful := by
  unfold State.captureUpdate
  split
  · next h hstate hh =>
    split
    · exact hs.takeRecord hstate hh pos
    · exact hs
  · exact hs

theorem lateTrigger (hs : s.CaptureLawful) (pos : Option Position) (x : Trigger) : (s.lateTrigger pos x).CaptureLawful := by
  unfold State.lateTrigger
  dsimp only
  split
  · next h _ hstate hh => exact (hs.captureTrigger x).takeRecord hstate hh pos
  · exact hs.captureTrigger x

theorem captureStage (hs : s.CaptureLawful) (ts : List Trigger) (pos : Option Position) :
    (s.captureStage ts pos).CaptureLawful := by
  have htriggers : ∀ l : List Trigger, (l.foldl State.captureTrigger s).CaptureLawful := fun l =>
    List.foldlRecOn l _ hs fun _ ht x _ => ht.captureTrigger x
  unfold State.captureStage
  split
  · exact List.foldlRecOn _ (State.lateTrigger pos) ((htriggers _).captureUpdate pos) fun _ ht x _ => ht.lateTrigger pos x
  · exact (htriggers ts).captureUpdate pos

theorem raiseUpdate (hs : s.CaptureLawful) : s.raiseUpdate.CaptureLawful :=
  ((hs.congr s.capturing_rcu).captureStage _ _).congr s.raiseUpdate_rcu

/-! ### The requests of the unit (R160, R163, R169) -/

theorem takeConfigureCapture (hs : s.CaptureLawful) (mask content decimation records rearm : Nat) :
    (takeConfigureCapture mask content decimation records rearm s).1.CaptureLawful := by
  unfold Machine.takeConfigureCapture
  split
  · exact hs
  split
  · exact hs
  next hstate =>
  split
  · exact hs
  · next c hc =>
    exact State.captureLawful_iff.mpr ((State.captureLawful_iff.mp hs).configure hstate (captureConfigOf_fits hc))

theorem takeCaptureTrigger (hs : s.CaptureLawful) : (takeCaptureTrigger s).1.CaptureLawful := by
  unfold Machine.takeCaptureTrigger
  split
  · exact hs
  · exact hs.captureTrigger _
  · exact hs.captureTrigger _

theorem takeAbortCapture (hs : s.CaptureLawful) : (takeAbortCapture s).1.CaptureLawful := by
  unfold Machine.takeAbortCapture
  split
  · next h hstate _ =>
    refine State.captureLawful_iff.mpr ?_
    rw [accept_fst, State.raise_rcu]
    exact (State.captureLawful_iff.mp hs).abort hstate
  · exact hs

end State.CaptureLawful

/-! ### The requests that change no capture -/

/-- The requests that can change the Response Capture Unit. -/
def movesCapture : Request → Bool
  | .configureCapture .. => true | .captureTrigger => true | .abortCapture => true
  | _ => false

theorem takeFlushQueue_rcu (s : State) : (takeFlushQueue s).1.rcu = s.rcu := by
  unfold takeFlushQueue
  split
  · rfl
  · exact foldl_keeps State.rcu (fun t e => t.leaveEntry true e) (fun t e => t.leaveEntry_rcu true e) _ _

theorem takeFreeClip_rcu (id : Nat) (s : State) : (takeFreeClip id s).1.rcu = s.rcu := by
  rcases takeFreeClip_cases id s with h | ⟨-, -, -, h⟩
  · rw [h]
  · rw [h]
    split <;> simp

theorem takeEnableEvents_rcu (mask : Nat) (s : State) : (takeEnableEvents mask s).1.rcu = s.rcu := by
  unfold takeEnableEvents
  split
  · rfl
  · refine foldl_keeps State.rcu (State.announce s) (fun t c => ?_) _ _
    unfold State.announce
    split <;> simp

theorem takeSetRigMode_rcu (mode : Nat) (s : State) : (takeSetRigMode mode s).1.rcu = s.rcu := by
  have hreplay : ∀ (t : State) ch, (t.giveReplay ch).rcu = t.rcu := fun t ch => by
    unfold State.giveReplay
    split <;> simp
  have hlocal : ∀ (t : State) ch, (t.giveLocal ch).rcu = t.rcu := fun t ch => by
    unfold State.giveLocal
    split <;> simp
  unfold takeSetRigMode
  split
  · rfl
  · exact foldl_keeps State.rcu State.giveReplay hreplay _ _
  · unfold takeRigModeLocal
    split
    · rfl
    · exact foldl_keeps State.rcu State.giveLocal hlocal _ _

/-- Every other request leaves the Response Capture Unit as it was: it reads alone, or writes records of other blocks. -/
theorem takingOf_rcu {r : Request} (h : movesCapture r = false) (s : State) : (takingOf r s).1.rcu = s.rcu := by
  cases r <;> first | contradiction | skip
  case freeClip => exact takeFreeClip_rcu _ s
  case flushQueue => exact takeFlushQueue_rcu s
  case setRigMode => exact takeSetRigMode_rcu _ s
  case enableEvents => exact takeEnableEvents_rcu _ s
  case storeInfo | readDone | readEngine | captureInfo | queryIdentity | acknowledgeChannels => rfl
  case openClip | clipData | closeClip | clipInfo =>
    simp only [takingOf, takeOpenClip, takeClipData, takeCloseClip, takeClipInfo]
    (repeat' split) <;> simp
  case appendEntry | modifyEntry | readQueue | advanceWatch =>
    simp only [takingOf, takeAppendEntry, takeModifyEntry, takeReadQueue, takeAdvanceWatch]
    (repeat' split) <;> simp
  case start | pause | resume | stop | clearTrip | setRamp | setTimebase =>
    simp only [takingOf, takeStart, takePause, takeResume, takeStop, takeClearTrip, takeSetRamp, takeSetTimebase]
    (repeat' split) <;> simp
  case configureChannel | writeGainSet | readGainSet =>
    simp only [takingOf, takeConfigureChannel, takeWriteGainSet, takeReadGainSet]
    (repeat' split) <;> simp
  case channelPowerOn | channelPowerOff | setChannelOwner | engage | release | readChannel =>
    simp only [takingOf, takeChannelPowerOn, takeChannelPowerOff, takeSetChannelOwner, takeEngage, takeRelease, takeReadChannel]
    (repeat' split) <;> simp
  case configureLimits | configureMark | setMarkOutput | readMark | readCapture | takeEvent =>
    simp only [takingOf, takeConfigureLimits, takeConfigureMark, takeSetMarkOutput, takeReadMark, takeReadCapture, takeTakeEvent]
    (repeat' split) <;> simp
  case setSupervision | queryStatus | resetPart =>
    simp only [takingOf, takeSetSupervision, takeQueryStatus, takeResetPart]
    (repeat' split) <;> simp

/-! ### The law at every step -/

theorem takingOf_captureLawful (r : Request) {s : State} (hs : s.CaptureLawful) : (takingOf r s).1.CaptureLawful := by
  cases hr : movesCapture r with
  | false => exact hs.congr (takingOf_rcu hr s)
  | true =>
    cases r <;> first | contradiction | skip
    case configureCapture => exact hs.takeConfigureCapture _ _ _ _ _
    case captureTrigger => exact hs.takeCaptureTrigger
    case abortCapture => exact hs.takeAbortCapture

/-- Every operation of the part keeps the law of the banks: records, triggers and the requests of the unit by what each makes of
a role's bank, the resets since they leave every bank free, and every other operation as it leaves the unit alone. -/
theorem captureLawful_keptByOperations : KeptByOperations State.CaptureLawful where
  line _ _ _ _ := .congr rfl
  taking r _ := takingOf_captureLawful r
  warmReset _ _ hs := State.captureLawful_iff.mpr (State.captureLawful_iff.mp hs).warm
  fullReset _ _ _ := State.captureLawful_iff.mpr (.of_empty nofun (absurd rfl) nofun rfl rfl rfl rfl)
  update _ := .raiseUpdate
  sourceInternal _ := .congr rfl
  action _ _ _ _ := .congr (by simp)
  record _ _ pos hstate hh hs := hs.takeRecord hstate hh pos
  rampIn _ _ := .congr (by simp)
  rampOut _ _ _ := .congr (by simp)
  passEnd _ _ _ := .congr (by simp)
  passEndRampOut _ _ _ := .congr (by simp)
  response _ _ _ _ _ _ _ _ := .congr (by simp)
  envelope _ _ _ _ := .congr (by simp)
  tracking _ _ _ _ := .congr (by simp)
  clampRate _ _ := .congr (by simp)
  window _ _ := .congr (by simp)
  rigReady _ _ := .congr rfl
  markEdge _ _ _ _ := .congr (by simp)
  verified _ _ _ _ _ _ := .congr (by simp)

/-- Settles O60: each operation keeps the law of the banks, so every step does. -/
theorem stepKeepsCaptureLawful : Obligations.StepKeepsCaptureLawful :=
  fun _ _ hs h => captureLawful_keptByOperations.of_step hs h

end Sys2Proof.Machine
end

section
/-! The requests of the Response Capture Unit by capture state (R160, R162, R163, R169). -/

namespace Sys2Proof.Machine

open Sys2Proof

/-! ### Configure Capture (R160) -/

/-- Fields in range are the configuration they spell; a record of a channel has a word more with commands. -/
theorem captureConfigOf_of_fits {mask content decimation records rearm : Nat} (hchans : maskChannels mask ≠ [])
    (hcontent : content < 2) (hrearm : rearm < 2) (hmin : 1 ≤ decimation) (hmax : decimation ≤ 16) (hrecords : 1 ≤ records)
    (hfits : records * (maskChannels mask).length * (content + 1) ≤ 262144) :
    captureConfigOf mask content decimation records rearm
      = some { chans := maskChannels mask, withCommand := content == 1, decimation := decimation, records := records,
               rearm := rearm == 1 } := by
  have hwords : (if (content == 1) = true then 2 else 1) = content + 1 := by interval_cases content <;> rfl
  rw [captureConfigOf, readFlag_of_lt hcontent, readFlag_of_lt hrearm]
  refine if_neg ?_
  rw [hwords, Config.bankWords]
  rintro (hnone | _)
  · exact hchans hnone
  · omega

/-- Outside FILLING a configuration in range is taken. -/
theorem takeConfigureCapture_of_config {mask content decimation records rearm : Nat} {c : CaptureConfig} {s : State}
    (hs : s.rcu.state ≠ .filling) (hcontent : content < 2) (hrearm : rearm < 2)
    (hc : captureConfigOf mask content decimation records rearm = some c) :
    takeConfigureCapture mask content decimation records rearm s
      = accept (s.setRcu { s.rcu with config := some c, state := .armed }) (beBytes 4 ((records - 1) * decimation + 1)) := by
  simp [takeConfigureCapture, readFlag_of_lt hcontent, readFlag_of_lt hrearm, hs, hc]

/-! ### Capture Trigger (R162, R163) -/

section trigger
variable {s : State}

theorem takeCaptureTrigger_of_unconfigured (hs : s.rcu.state = .unconfigured) : takeCaptureTrigger s = refuse s .wrongState := by
  simp [takeCaptureTrigger, hs]

/-- In ARMED the request starts a capture and replies STARTED. -/
theorem takeCaptureTrigger_of_armed {c : CaptureConfig} (hs : s.rcu.state = .armed) (hc : s.rcu.config = some c) :
    takeCaptureTrigger s = accept (s.setRcu { s.rcu.startBank with
      state := .filling, filling := some (freshHeader c { kind := .request, unit := none }) }) (beBytes 1 0) := by
  simp [takeCaptureTrigger, State.captureTrigger, hs, hc]

/-- In FILLING the request is a missed trigger and replies MISSED. -/
theorem takeCaptureTrigger_of_filling {h : Header} (hs : s.rcu.state = .filling) (hh : s.rcu.filling = some h) :
    takeCaptureTrigger s
      = accept (s.setRcu { s.rcu with filling := some { h with missed := true } }) (beBytes 1 1) := by
  simp [takeCaptureTrigger, State.captureTrigger, hs, hh]

theorem CaptureUnit.startBank_of_free {r : CaptureUnit} (h : r.bank0.role = .free) :
    r.startBank = { r with bank0 := { role := .filling, words := [] } } := if_pos h

theorem CaptureUnit.startBank_of_taken {r : CaptureUnit} (h : r.bank0.role ≠ .free) :
    r.startBank = { r with bank1 := { role := .filling, words := [] } } := if_neg h

end trigger

/-! ### Abort Capture (R169) -/

theorem takeAbortCapture_of_filling {s : State} {h : Header} (hs : s.rcu.state = .filling) (hh : s.rcu.filling = some h) :
    takeAbortCapture s
      = accept ((s.setRcu { s.rcu with
          bank0 := s.rcu.bank0.aborted, bank1 := s.rcu.bank1.aborted, filling := none, state := .armed }).raise
            .capture (some (.capture none))) (beBytes 4 h.taken) := by
  simp only [takeAbortCapture, hs, hh]

theorem takeAbortCapture_of_not_filling {s : State} (hs : s.rcu.state ≠ .filling) :
    takeAbortCapture s = refuse s .wrongState := by
  unfold takeAbortCapture
  split
  · next hfilling _ => exact absurd hfilling hs
  · rfl

/-! ### The requests by capture state -/

/-- Settles O39: each request is its taking in the capture state, answered. -/
theorem captureRequestsResult : Obligations.CaptureRequestsResult := by
  intro tag s hfree
  have htrigger {t : State} {reply : Reply} (h : takeCaptureTrigger s = (t, reply)) :=
    exec_of_taking (c := .captureTrigger tag) rfl nofun hfree h
  have habort {t : State} {reply : Reply} (h : takeAbortCapture s = (t, reply)) :=
    exec_of_taking (c := .abortCapture tag) rfl nofun hfree h
  refine ⟨?configure, ?startFirst, ?startSecond, ?missed, ?unconfigured, ?abort, ?nothingToAbort⟩
  case configure =>
    rintro mask content decimation records rearm _ hs rfl hchans hcontent hrearm hmin hmax hrecords hfits
    exact exec_of_taking (c := .configureCapture tag mask content decimation records rearm) rfl nofun hfree
      (takeConfigureCapture_of_config hs hcontent hrearm
        (captureConfigOf_of_fits hchans hcontent hrearm hmin hmax hrecords hfits))
  case startFirst =>
    intro c hs hc hbank
    rw [htrigger (takeCaptureTrigger_of_armed hs hc), CaptureUnit.startBank_of_free hbank]
    rfl
  case startSecond =>
    intro c hs hc hbank
    refine ⟨_, htrigger (takeCaptureTrigger_of_armed hs hc), ?_⟩
    rw [State.answered_rcu, CaptureUnit.startBank_of_taken hbank]
    exact ⟨rfl, rfl, rfl, rfl, rfl, rfl⟩
  case missed => exact fun h hs hh => htrigger (takeCaptureTrigger_of_filling hs hh)
  case unconfigured => exact fun hs => htrigger (takeCaptureTrigger_of_unconfigured hs)
  case abort => exact fun h hs hh => habort (takeAbortCapture_of_filling hs hh)
  case nothingToAbort => exact fun hs => habort (takeAbortCapture_of_not_filling hs)

end Sys2Proof.Machine
end

section
/-! What reaches the Event Unit and the line from the other blocks: their operations do so by raising causes alone (R174). What
reads no more than these two units, and every raising keeps, those operations keep. -/

namespace Sys2Proof.Machine

open Sys2Proof

/-! ### A course of raisings -/

/-- From `s` to `t` the causes and the line change by raisings alone, one after the other. -/
inductive State.RaisesTo : State → State → Prop
  | unraised {s t : State} (hcauses : t.eu.causes = s.eu.causes) (hsli : t.sli = s.sli) : RaisesTo s t
  | raise (s : State) (c : Cause) (d : Option Detail) : RaisesTo s (s.raise c d)
  | trans {s t u : State} (h : RaisesTo s t) (h' : RaisesTo t u) : RaisesTo s u

namespace State.RaisesTo

theorem of_same {s t : State} (heu : t.eu = s.eu) (hsli : t.sli = s.sli) : s.RaisesTo t := .unraised (by rw [heu]) hsli

theorem foldl {α : Type} {f : State → α → State} (h : ∀ (s : State) a, s.RaisesTo (f s a)) :
    ∀ (l : List α) (s : State), s.RaisesTo (l.foldl f s)
  | [], _ => .of_same rfl rfl
  | a :: rest, s => (h s a).trans (foldl h rest (f s a))

end State.RaisesTo

/-! ### The queue (R57, R58, R69, R72) -/

theorem State.fireWatch_raisesTo (s : State) : s.RaisesTo s.fireWatch := by
  unfold State.fireWatch
  split
  · exact .trans (.of_same (by rfl) (by rfl)) (.raise _ _ _)
  · exact .of_same rfl rfl

theorem State.leaveEntry_raisesTo (s : State) (flushed : Bool) (e : Entry) : s.RaisesTo (s.leaveEntry flushed e) := by
  obtain ⟨u, heu, hsli, -, -, hleave⟩ := s.leaveEntry_eq_raise flushed e
  rw [hleave]
  split
  · exact .trans (.of_same heu hsli) (.raise u _ _)
  · exact .of_same heu hsli

theorem State.retire_raisesTo : ∀ (n : Nat) (s : State), s.RaisesTo (s.retire n)
  | 0, _ => .of_same rfl rfl
  | n + 1, s => by
    unfold State.retire
    split
    · exact .of_same rfl rfl
    · exact .trans (.of_same (by rfl) (by rfl)) (.trans (State.leaveEntry_raisesTo _ _ _) (State.retire_raisesTo n _))

theorem State.realRun_raisesTo (s : State) (start : Nat) : s.RaisesTo (s.realRun start) :=
  .trans (.of_same (by rfl) (by rfl)) (State.retire_raisesTo _ _)

/-! ### The engine's states and actions (R85, R90, R95, R103) -/

theorem State.enterState_raisesTo (s : State) (new : EngineState) (cause : Option EngineCause) :
    s.RaisesTo (s.enterState new cause) := .trans (.of_same (by rfl) (by rfl)) (.raise _ _ _)

theorem State.enterStopped_raisesTo (s : State) (new : EngineState) (cause : Option EngineCause) :
    s.RaisesTo (s.enterStopped new cause) := (s.enterState_raisesTo _ _).trans (State.fireWatch_raisesTo _)

theorem State.setPe_enterState_raisesTo (s : State) (e : Engine) (new : EngineState) (cause : Option EngineCause) :
    s.RaisesTo ((s.setPe e).enterState new cause) := .trans (.of_same (by rfl) (by rfl)) (State.enterState_raisesTo _ _ _)

theorem State.setPe_enterStopped_raisesTo (s : State) (e : Engine) (new : EngineState) (cause : Option EngineCause) :
    s.RaisesTo ((s.setPe e).enterStopped new cause) :=
  .trans (.of_same (by rfl) (by rfl)) (State.enterStopped_raisesTo _ _ _)

theorem State.enterRampOut_raisesTo (s : State) (target : Target) (cause : EngineCause) :
    s.RaisesTo (s.enterRampOut target cause) := s.setPe_enterState_raisesTo _ _ _

theorem State.enterTripped_raisesTo (s : State) (cause : EngineCause) (ch : Option Nat) :
    s.RaisesTo (s.enterTripped cause ch) :=
  (s.setPe_enterState_raisesTo _ _ _).trans (.trans (.raise _ _ _) (State.fireWatch_raisesTo _))

theorem State.releaseContext_raisesTo (s : State) : s.RaisesTo s.releaseContext := by
  unfold State.releaseContext
  split
  · exact .of_same rfl rfl
  · split
    · exact .trans (.of_same (s.endVisit_eu _) (s.endVisit_sli _)) (State.realRun_raisesTo _ _)
    · exact .of_same (s.interruptVisit_eu _) (s.interruptVisit_sli _)

theorem State.actionEffect_raisesTo (s : State) (a : Action) (cause : EngineCause) (ch : Option Nat) :
    s.RaisesTo (s.actionEffect a cause ch) := by
  unfold State.actionEffect
  cases a with
  | note => exact .of_same rfl rfl
  | pause => exact s.enterRampOut_raisesTo _ _
  | trip => exact s.enterTripped_raisesTo _ _
  | stop =>
    dsimp only
    split
    · exact .of_same rfl rfl
    · exact (s.setPe_enterStopped_raisesTo _ _ _).trans (State.releaseContext_raisesTo _)
    · exact s.enterRampOut_raisesTo _ _

theorem State.applyAction_raisesTo (s : State) (a : Action) (cause : EngineCause) (ch : Option Nat) :
    s.RaisesTo (s.applyAction a cause ch) := by
  unfold State.applyAction
  dsimp only
  split
  · exact .trans (.of_same (by rfl) (by rfl)) (State.actionEffect_raisesTo _ a cause ch)
  · exact .of_same rfl rfl

/-! ### Detectors and ports (R115 to R118, R124, R131) -/

theorem State.fireDetector_raisesTo (s : State) (r : LimitRecord) : s.RaisesTo (s.fireDetector r) := by
  unfold State.fireDetector
  dsimp only
  split
  · exact .raise _ _ _
  · exact .trans (.raise _ _ _) (State.applyAction_raisesTo _ _ _ _)

/-- A detector's new state is kept, and it may fire. -/
theorem State.setLimits_fired_raisesTo (s : State) (ch : Nat) (l : ChannelLimits) (fired : Bool) (r : LimitRecord) :
    s.RaisesTo (if fired = true then (s.setLimits ch l).fireDetector r else s.setLimits ch l) := by
  split
  · exact .trans (.of_same (by rfl) (by rfl)) (State.fireDetector_raisesTo _ r)
  · exact .of_same rfl rfl

theorem State.evalEnvelope_raisesTo (s : State) (ch : Nat) (f : Int) (stamp : Nat) :
    s.RaisesTo (s.evalEnvelope ch f stamp) := by
  unfold State.evalEnvelope
  dsimp only
  split
  · exact s.setLimits_fired_raisesTo _ _ _ _
  · exact .of_same rfl rfl

theorem State.evalTracking_raisesTo (s : State) (ch : Nat) (f : Int) (stamp : Nat) :
    s.RaisesTo (s.evalTracking ch f stamp) := by
  unfold State.evalTracking
  dsimp only
  split
  · exact s.setLimits_fired_raisesTo _ _ _ _
  · exact .of_same rfl rfl

theorem State.evalClamp_raisesTo (s : State) (ch : Nat) : s.RaisesTo (s.evalClamp ch) := by
  unfold State.evalClamp
  dsimp only
  split
  · exact s.setLimits_fired_raisesTo _ _ _ _
  · exact .of_same rfl rfl

theorem State.setPort_flagChange_raisesTo (s : State) (ch : Nat) (p : Port) : s.RaisesTo ((s.setPort ch p).flagChange ch) :=
  .trans (.of_same (by rfl) (by rfl)) (.raise _ _ _)

theorem State.faultChannel_raisesTo (s : State) (ch : Nat) (cause : FaultCause) : s.RaisesTo (s.faultChannel ch cause) := by
  unfold State.faultChannel
  dsimp only
  split
  · exact (s.setPort_flagChange_raisesTo _ _).trans (State.applyAction_raisesTo _ _ _ _)
  · exact s.setPort_flagChange_raisesTo _ _

theorem State.closeWindow_raisesTo (s : State) (ch : Nat) : s.RaisesTo (s.closeWindow ch) := by
  obtain ⟨p, cause, h | h | h⟩ := s.closeWindow_cases ch
  · rw [h]; exact .of_same rfl rfl
  · rw [h]; exact .of_same rfl rfl
  · rw [h]; exact .trans (.of_same (by rfl) (by rfl)) (State.faultChannel_raisesTo _ ch cause)

theorem State.takeResponse_raisesTo (s : State) (ch : Nat) (w : Window) (f sp : Int) (st : ServoStatus) :
    s.RaisesTo (s.takeResponse ch w f sp st) := by
  unfold State.takeResponse
  generalize hu : s.setPort ch _ = u
  refine .trans (t := u) (.of_same (hu ▸ rfl) (hu ▸ rfl)) ?_
  unfold State.actOnStatus
  split
  · exact u.faultChannel_raisesTo ch _
  · exact u.setPort_flagChange_raisesTo ch _
  · exact .trans (.of_same (u.takeFeedback_eu ch f) (u.takeFeedback_sli ch f))
      ((State.evalEnvelope_raisesTo _ ch f _).trans (State.evalTracking_raisesTo _ ch f _))
  · exact .of_same rfl rfl

theorem State.handOn_raisesTo (s : State) (cr : Nat × DriveResult) : s.RaisesTo (s.handOn cr) := by
  obtain ⟨ch, r⟩ := cr
  unfold State.handOn
  dsimp only
  generalize hu : s.setDrive ch { s.drive ch with lastOutput := r.command } = u
  have hset : s.RaisesTo u := .of_same (hu ▸ rfl) (hu ▸ rfl)
  have hcounted : s.RaisesTo (if r.dynamic = true then u.mapStat ch (countIndications r) else u) := by
    split
    · exact hset.trans (.of_same (u.mapStat_eu _ _) (u.mapStat_sli _ _))
    · exact hset
  split
  · exact hcounted.trans (State.evalClamp_raisesTo _ _)
  · exact hcounted

/-! ### Visits and passes (R78, R79, R87 to R91) -/

theorem State.reloadPoint_raisesTo (s : State) : s.RaisesTo s.reloadPoint := by
  unfold State.reloadPoint
  split
  · split
    · exact .trans (.of_same (by simp) (by simp)) (State.fireWatch_raisesTo _)
    · exact s.fireWatch_raisesTo
  · exact s.fireWatch_raisesTo

theorem State.beginVisit_raisesTo (s : State) : s.RaisesTo s.beginVisit := by
  unfold State.beginVisit
  split
  · split
    · exact .of_same rfl rfl
    · exact .trans (.of_same (by simp) (by simp)) (State.reloadPoint_raisesTo _)
  · exact .trans (.of_same (by simp) (by simp)) (State.reloadPoint_raisesTo _)
  · exact .of_same rfl rfl

theorem State.overrunOut_raisesTo (s : State) (c : Context) (cause : EngineCause) : s.RaisesTo (s.overrunOut c cause) :=
  (s.enterRampOut_raisesTo .idle cause).trans (.of_same (by rfl) (by rfl))

theorem State.passEndPlaying_raisesTo (s : State) : s.RaisesTo s.passEndPlaying := by
  unfold State.passEndPlaying
  split
  · exact .of_same rfl rfl
  · next c0 _ =>
    refine .trans (.of_same (s.countPass_eu c0) (s.countPass_sli c0)) ?_
    dsimp only
    generalize (if c0.overrun then c0 else { c0 with counted := c0.counted + 1 }) = c
    split
    · split
      · exact State.overrunOut_raisesTo _ _ _
      · split
        · exact State.overrunOut_raisesTo _ _ _
        · exact .trans (.of_same (State.endVisit_eu _ _) (State.endVisit_sli _ _))
            ((State.realRun_raisesTo _ _).trans (State.beginVisit_raisesTo _))
    · exact .trans (.of_same (by rfl) (by rfl)) (State.reloadPoint_raisesTo _)

theorem State.passEndRampOut_raisesTo (s : State) : s.RaisesTo s.passEndRampOut :=
  .of_same s.passEndRampOut_eu s.passEndRampOut_sli

theorem State.endRampOut_raisesTo (s : State) : s.RaisesTo s.endRampOut := by
  unfold State.endRampOut
  dsimp only
  split
  · exact s.setPe_enterStopped_raisesTo _ _ _
  · exact (s.setPe_enterStopped_raisesTo _ _ _).trans (State.releaseContext_raisesTo _)

theorem State.advanceStage_raisesTo (s : State) : s.RaisesTo s.advanceStage := by
  unfold State.advanceStage
  split
  · exact .of_same rfl rfl
  · split
    · split
      · split
        · exact s.passEndRampOut_raisesTo
        · exact s.passEndPlaying_raisesTo
      · exact .of_same rfl rfl
    · exact .of_same rfl rfl

theorem State.rampStep_raisesTo (s : State) : s.RaisesTo s.rampStep := by
  unfold State.rampStep
  split
  · dsimp only
    split
    · exact s.setPe_enterState_raisesTo _ _ _
    · exact .of_same rfl rfl
  · exact .of_same rfl rfl
  · exact .of_same rfl rfl

/-! ### Mark units and captures (R149, R154, R167) -/

/-- MARK's raising adds to its set of units, which is no part of the causes (R149). -/
theorem State.raiseMark_raisesTo (s : State) (m stamp : Nat) : s.RaisesTo (s.raiseMark m stamp) :=
  .trans (.raise s _ _) (.unraised (by rfl) (by rfl))

theorem State.markCompare_raisesTo (p : PlayPosition) (s : State) (m : Nat) : s.RaisesTo (s.markCompare p m) := by
  have hcut (t : State) : t.RaisesTo t.markCut := .of_same t.markCut_eu t.markCut_sli
  unfold State.markCompare
  dsimp only
  generalize hu : s.setMark m { s.mark m with output := (s.mark m).levelAfter p } = u
  have hset : s.RaisesTo u := .of_same (hu ▸ rfl) (hu ▸ rfl)
  have hraised : s.RaisesTo (if (s.mark m).trigNotify = true then u.raiseMark m s.pe.counter else u) := by
    split
    · exact hset.trans (State.raiseMark_raisesTo _ _ _)
    · exact hset
  split
  · split
    · exact hraised.trans (hcut _)
    · exact hraised
  · exact hset

theorem State.markStage_raisesTo (s : State) : s.RaisesTo s.markStage := by
  unfold State.markStage
  split
  · exact .of_same rfl rfl
  · exact State.RaisesTo.foldl (State.markCompare_raisesTo _) _ _

theorem State.markEdge_raisesTo (s : State) (m : Nat) (rising : Bool) : s.RaisesTo (s.markEdge m rising) := by
  unfold State.markEdge State.markCapture
  dsimp only
  split
  · split
    · split
      · exact .trans (.of_same (by rfl) (by rfl)) (State.raiseMark_raisesTo _ _ _)
      · exact .of_same rfl rfl
    · exact .of_same rfl rfl
  · exact .of_same rfl rfl

theorem State.takeRecord_raisesTo (s : State) (h : Header) (pos : Option Position) : s.RaisesTo (s.takeRecord h pos) := by
  rw [State.takeRecord_eq]
  split
  · exact .trans (.of_same (by rfl) (by rfl)) (.raise _ _ _)
  · exact .of_same rfl rfl

theorem State.captureTrigger_raisesTo (s : State) (x : Trigger) : s.RaisesTo (s.captureTrigger x) :=
  .of_same (s.captureTrigger_eu x) (s.captureTrigger_sli x)

theorem State.captureUpdate_raisesTo (s : State) (pos : Option Position) : s.RaisesTo (s.captureUpdate pos) := by
  unfold State.captureUpdate
  split
  · split
    · exact s.takeRecord_raisesTo _ _
    · exact .of_same rfl rfl
  · exact .of_same rfl rfl

theorem State.lateTrigger_raisesTo (pos : Option Position) (s : State) (x : Trigger) : s.RaisesTo (s.lateTrigger pos x) := by
  unfold State.lateTrigger
  dsimp only
  split
  · exact (s.captureTrigger_raisesTo x).trans (State.takeRecord_raisesTo _ _ _)
  · exact s.captureTrigger_raisesTo x

theorem State.captureStage_raisesTo (s : State) (ts : List Trigger) (pos : Option Position) :
    s.RaisesTo (s.captureStage ts pos) := by
  have hhandled (l : List Trigger) : s.RaisesTo ((l.foldl State.captureTrigger s).captureUpdate pos) :=
    (State.RaisesTo.foldl State.captureTrigger_raisesTo l s).trans (State.captureUpdate_raisesTo _ pos)
  unfold State.captureStage
  split
  · exact (hhandled _).trans (State.RaisesTo.foldl (State.lateTrigger_raisesTo pos) _ _)
  · exact hhandled ts

/-! ### The update (R87, R98) -/

theorem State.playedUpdate_raisesTo (s : State) : s.RaisesTo s.playedUpdate := by
  have hplayed (t : State) (results : List (Nat × DriveResult)) : t.RaisesTo (t.playStage results) :=
    (State.RaisesTo.foldl State.handOn_raisesTo results t).trans
      ((State.markStage_raisesTo _).trans (.of_same (State.stampLast_eu _) (State.stampLast_sli _)))
  have hadvanced : s.RaisesTo (s.rampStep.stampFirst.dropCaptureDue.playStage s.rampStep.stampFirst.computeAll).advanceStage :=
    s.rampStep_raisesTo.trans (.trans (.of_same (by simp) (by simp))
      ((hplayed _ _).trans (State.advanceStage_raisesTo _)))
  unfold State.playedUpdate
  dsimp only
  split
  · exact hadvanced.trans (State.endRampOut_raisesTo _)
  · exact hadvanced

theorem State.restUpdate_raisesTo (s : State) : s.RaisesTo s.restUpdate := by
  have hhanded := State.RaisesTo.foldl State.handOn_raisesTo s.computeAll s
  unfold State.restUpdate
  dsimp only
  split
  · exact hhanded.trans (State.enterStopped_raisesTo _ _ _)
  · exact hhanded

theorem State.engineUpdate_raisesTo (s : State) : s.RaisesTo s.engineUpdate := by
  unfold State.engineUpdate
  split
  · exact s.playedUpdate_raisesTo
  · exact s.restUpdate_raisesTo

theorem State.portUpdate_raisesTo (s : State) (ts : List Trigger) (pos : Option Position) :
    s.RaisesTo (s.portUpdate ts pos) :=
  (State.RaisesTo.foldl State.closeWindow_raisesTo allChannels s).trans
    ((State.captureStage_raisesTo _ ts pos).trans
      (.of_same (by rw [State.portUpdate, State.sendRecords_eu, State.recordHistory_eu]; rfl)
        (by rw [State.portUpdate, State.sendRecords_sli, State.recordHistory_sli]; rfl)))

theorem State.raiseUpdate_raisesTo (s : State) : s.RaisesTo s.raiseUpdate :=
  .trans (.of_same s.countUpdate_eu s.countUpdate_sli)
    ((State.engineUpdate_raisesTo _).trans (State.portUpdate_raisesTo _ _ _))

theorem State.loseSync_raisesTo (s : State) : s.RaisesTo s.loseSync :=
  .trans (.of_same (by rfl) (by rfl)) ((State.applyAction_raisesTo _ _ _ _).trans (State.raiseUpdate_raisesTo _))

theorem State.completeVerification_raisesTo (s : State) (id : Nat) (l : ClipLoad) :
    s.RaisesTo (s.completeVerification id l) := .trans (.of_same (by rfl) (by rfl)) (.raise _ _ _)

end Sys2Proof.Machine
end

section
/-! The requests and the rows that reach the Event Unit and the line by raisings alone: all but the Event Unit's own requests, Set
Supervision, Query Status and the rows of the line (R174). -/

namespace Sys2Proof.Machine

open Sys2Proof

/-! ### The requests -/

/-- The requests that change causes or the line otherwise than by raisings. -/
def actsOnLine : Request → Bool
  | .enableEvents .. => true | .takeEvent => true | .setSupervision .. => true | .queryStatus .. => true
  | _ => false

theorem takeFreeClip_raisesTo (id : Nat) (s : State) : s.RaisesTo (takeFreeClip id s).1 := by
  rcases takeFreeClip_cases id s with h | ⟨-, -, -, h⟩
  · rw [h]; exact .of_same rfl rfl
  · rw [h]
    split <;> exact .of_same (by simp) (by simp)

theorem takeCloseClip_raisesTo (id : Nat) (s : State) : s.RaisesTo (takeCloseClip id s).1 := by
  unfold takeCloseClip
  split
  · exact .of_same rfl rfl
  split
  · split
    · exact .trans (.of_same (by rfl) (by rfl)) (.raise _ _ _)
    · exact .of_same rfl rfl
  · exact .of_same rfl rfl

theorem takeFlushQueue_raisesTo (s : State) : s.RaisesTo (takeFlushQueue s).1 := by
  unfold takeFlushQueue
  split
  · exact .of_same rfl rfl
  · exact .trans (.of_same (by rfl) (by rfl))
      (State.RaisesTo.foldl (f := fun t e => t.leaveEntry true e) (fun t e => t.leaveEntry_raisesTo true e) _ _)

theorem takeAdvanceWatch_raisesTo (s : State) : s.RaisesTo (takeAdvanceWatch s).1 := by
  unfold takeAdvanceWatch
  split
  · exact .of_same rfl rfl
  · exact .trans (.of_same (by rfl) (by rfl)) (.raise _ _ _)

theorem takeStart_raisesTo (s : State) : s.RaisesTo (takeStart s).1 := by
  unfold takeStart
  split
  · exact .of_same rfl rfl
  split
  · exact .of_same rfl rfl
  split
  · exact .of_same rfl rfl
  split
  · exact .of_same rfl rfl
  · exact (s.realRun_raisesTo _).trans ((State.beginVisit_raisesTo _).trans (State.setPe_enterState_raisesTo _ _ _ _))

theorem takePause_raisesTo (s : State) : s.RaisesTo (takePause s).1 := by
  unfold takePause
  split
  · exact s.enterRampOut_raisesTo _ _
  · exact s.enterRampOut_raisesTo _ _
  all_goals exact .of_same rfl rfl

theorem takeResume_raisesTo (s : State) : s.RaisesTo (takeResume s).1 := by
  unfold takeResume
  split
  · split
    · exact s.setPe_enterState_raisesTo _ _ _
    · exact .of_same rfl rfl
  · exact s.setPe_enterState_raisesTo _ _ _
  · exact .of_same rfl rfl

theorem takeStop_raisesTo (s : State) : s.RaisesTo (takeStop s).1 := by
  unfold takeStop
  split
  case h_1 | h_2 => exact s.enterRampOut_raisesTo _ _
  case h_3 => split <;> exact .of_same rfl rfl
  case h_4 => exact (s.setPe_enterStopped_raisesTo _ _ _).trans (State.releaseContext_raisesTo _)
  all_goals exact .of_same rfl rfl

theorem takeClearTrip_raisesTo (s : State) : s.RaisesTo (takeClearTrip s).1 := by
  unfold takeClearTrip
  split
  · exact .of_same rfl rfl
  split
  · exact .of_same rfl rfl
  · exact s.releaseContext_raisesTo.trans (State.enterState_raisesTo _ _ _)

theorem takeSetRigMode_raisesTo (mode : Nat) (s : State) : s.RaisesTo (takeSetRigMode mode s).1 := by
  have hreplay (t : State) (ch : Nat) : t.RaisesTo (t.giveReplay ch) := by
    unfold State.giveReplay
    split
    · exact t.setPort_flagChange_raisesTo _ _
    · exact .of_same rfl rfl
  have hlocal (t : State) (ch : Nat) : t.RaisesTo (t.giveLocal ch) := by
    unfold State.giveLocal
    split
    · exact t.setPort_flagChange_raisesTo _ _
    · exact .of_same rfl rfl
  unfold takeSetRigMode
  split
  · exact .of_same rfl rfl
  · unfold takeRigModeReplay
    rw [accept_fst]
    exact .trans (.of_same (by rfl) (by rfl)) (State.RaisesTo.foldl hreplay _ _)
  · unfold takeRigModeLocal
    split
    · exact .of_same rfl rfl
    · rw [accept_fst]
      exact .trans (.of_same (by rfl) (by rfl)) (State.RaisesTo.foldl hlocal _ _)

theorem takeCaptureTrigger_raisesTo (s : State) : s.RaisesTo (takeCaptureTrigger s).1 := by
  unfold takeCaptureTrigger
  split
  · exact .of_same rfl rfl
  · exact s.captureTrigger_raisesTo _
  · exact s.captureTrigger_raisesTo _

theorem takeAbortCapture_raisesTo (s : State) : s.RaisesTo (takeAbortCapture s).1 := by
  unfold takeAbortCapture
  split
  · exact .trans (.of_same (by rfl) (by rfl)) (.raise _ _ _)
  · exact .of_same rfl rfl

/-- Every other request changes causes and line by raisings alone; those named last raise nothing. -/
theorem takingOf_raisesTo {r : Request} (h : actsOnLine r = false) (s : State) : s.RaisesTo (takingOf r s).1 := by
  cases r <;> first | contradiction | skip
  case freeClip => exact takeFreeClip_raisesTo _ s
  case closeClip => exact takeCloseClip_raisesTo _ s
  case flushQueue => exact takeFlushQueue_raisesTo s
  case advanceWatch => exact takeAdvanceWatch_raisesTo s
  case start => exact takeStart_raisesTo s
  case pause => exact takePause_raisesTo s
  case resume => exact takeResume_raisesTo s
  case stop => exact takeStop_raisesTo s
  case clearTrip => exact takeClearTrip_raisesTo s
  case setRigMode => exact takeSetRigMode_raisesTo _ s
  case captureTrigger => exact takeCaptureTrigger_raisesTo s
  case abortCapture => exact takeAbortCapture_raisesTo s
  case storeInfo | readDone | readEngine | captureInfo | queryIdentity | acknowledgeChannels => exact .of_same rfl rfl
  case openClip | clipData | clipInfo | appendEntry | modifyEntry | readQueue =>
    simp only [takingOf, takeOpenClip, takeClipData, takeClipInfo, takeAppendEntry, takeModifyEntry, takeReadQueue]
    (repeat' split) <;> exact .of_same (by simp) (by simp)
  case setRamp | setTimebase | configureChannel | writeGainSet | readGainSet | configureLimits | resetPart =>
    simp only [takingOf, takeSetRamp, takeSetTimebase, takeConfigureChannel, takeWriteGainSet, takeReadGainSet,
      takeConfigureLimits, takeResetPart]
    (repeat' split) <;> exact .of_same (by simp) (by simp)
  case channelPowerOn | channelPowerOff | setChannelOwner | engage | release | readChannel =>
    simp only [takingOf, takeChannelPowerOn, takeChannelPowerOff, takeSetChannelOwner, takeEngage, takeRelease, takeReadChannel]
    (repeat' split) <;> exact .of_same (by simp) (by simp)
  case configureMark | setMarkOutput | readMark | configureCapture | readCapture =>
    simp only [takingOf, takeConfigureMark, takeSetMarkOutput, takeReadMark, takeConfigureCapture, takeReadCapture]
    (repeat' split) <;> exact .of_same (by simp) (by simp)

/-! ### The rows of the events -/

theorem NextIn.imp {P Q : State → Prop} {a : Answer} (h : NextIn P a) (hPQ : ∀ {t}, P t → Q t) : NextIn Q a := by
  obtain ⟨h⟩ := h
  exact .next (hPQ h)

/-- The rows of the line itself: frames, bytes, the sending, the timer's expiry and the full reset. -/
def isLineRow : Instr → Bool
  | .unknownRequest .. => true | .requestArrival .. => true | .overlongFrame .. => true | .frameSent => true
  | .supervisionExpiry .. => true | .fullReset .. => true | .receivedByte .. => true
  | _ => false

/-- A row that is neither a request nor of the line changes causes and line by raisings alone. -/
theorem exec_raisesTo {c : Instr} (hc : c.asRequest = none) (hline : isLineRow c = false) (s : State) :
    NextIn s.RaisesTo (exec c s) := by
  have htick (at' : Nat) {t : State} (h : (s.tick at').RaisesTo t) : NextIn s.RaisesTo (.next t) :=
    .next (.trans (.of_same (by rfl) (by rfl)) h)
  have hticked (at' : Nat) : NextIn s.RaisesTo (.next (s.tick at')) := .next (.of_same rfl rfl)
  have hsame : NextIn s.RaisesTo (.next s) := .next (.of_same rfl rfl)
  cases c <;> first | contradiction | skip
  case update at' => exact .ite (fun _ => htick at' (State.raiseUpdate_raisesTo _)) fun _ => hticked at'
  case syncEdge at' =>
    exact .ite (fun _ => .ite (fun _ => htick at' (State.loseSync_raisesTo _))
      fun _ => .ite (fun _ => htick at' (State.raiseUpdate_raisesTo _)) fun _ => hticked at') fun _ => hticked at'
  case syncLoss at' => exact .ite (fun _ => htick at' (State.loseSync_raisesTo _)) fun _ => hticked at'
  case captureComplete =>
    show NextIn s.RaisesTo (execCaptureComplete s)
    unfold execCaptureComplete
    split
    · exact .ite (fun _ => .next (s.takeRecord_raisesTo _ _)) fun _ => hsame
    · exact hsame
  case rampInComplete => exact .ite (fun _ => .next s.rampStep_raisesTo) fun _ => hsame
  case rampOutComplete => exact .ite (fun _ => .next (s.rampStep_raisesTo.trans (State.endRampOut_raisesTo _))) fun _ => hsame
  case passEnd => exact .ite (fun _ => .next s.passEndPlaying_raisesTo) fun _ => hsame
  case passEndInRampOut => exact .ite (fun _ => .next s.passEndRampOut_raisesTo) fun _ => hsame
  case servoResponse ch intact exchange f sp st =>
    show NextIn s.RaisesTo (execServoResponse ch intact exchange f sp st s)
    unfold execServoResponse
    split
    · exact .ite (fun _ => .next (s.takeResponse_raisesTo ch _ f sp st)) fun _ => hsame
    · exact hsame
  case detectorFire ch detector f =>
    cases detector
    · exact .ite (fun _ => .next (s.evalEnvelope_raisesTo ch f _)) fun _ => hsame
    · exact .ite (fun _ => .next (s.evalTracking_raisesTo ch f _)) fun _ => hsame
    · exact .ite (fun _ => .next (s.evalClamp_raisesTo ch)) fun _ => hsame
  case linkLost ch => exact .ite (fun _ => .next (s.closeWindow_raisesTo ch)) fun _ => hsame
  case linkingTimeout ch => exact .ite (fun _ => .next (s.closeWindow_raisesTo ch)) fun _ => hsame
  case rigReadyDeasserted => exact .next (.trans (.of_same (by rfl) (by rfl)) (State.applyAction_raisesTo _ _ _ _))
  case rigReadyReasserted => exact .next (.of_same rfl rfl)
  case markInputEdge m rising => exact .ite (fun _ => .next (s.markEdge_raisesTo m rising)) fun _ => hsame
  case verificationComplete at' =>
    show NextIn s.RaisesTo (execVerificationComplete at' s)
    unfold execVerificationComplete
    dsimp only
    split
    · exact hticked at'
    · split
      · exact hticked at'
      · exact .ite (fun _ => htick at' (State.completeVerification_raisesTo _ _ _)) fun _ => hticked at'

end Sys2Proof.Machine
end

section
/-! The laws of the occurrence counts and of the supervision timer: a raising keeps both, and of the other operations only the
Event Unit's requests, Set Supervision, the timer's restart and the resets touch them (R174, R192, R193). -/

namespace Sys2Proof.Machine

open Sys2Proof

/-! ### The causes after the Event Unit's own operations (R180, R181, R183) -/

/-- What an operation makes of every cause's record, each cause reads. -/
theorem State.cause_mapIdx {s t : State} {f : Nat → CauseState → CauseState} (h : t.eu.causes = s.eu.causes.mapIdx f)
    (c : Cause) : t.cause c = f c.index (s.cause c) := by
  simp [State.cause, h, c.index_lt]

theorem State.cause_enabled (s : State) (mask : Nat) (c : Cause) :
    State.cause { s with eu := s.eu.enabled mask } c = { s.cause c with enable := mask.testBit c.index } :=
  State.cause_mapIdx (s := s) (f := fun i c => { c with enable := mask.testBit i }) rfl c

/-- The notices of Enable Events leave the causes as they were. -/
theorem State.announce_eu (before s : State) (c : Cause) : (State.announce before s c).eu = s.eu := by
  unfold State.announce
  split <;> simp

theorem takeEnableEvents_eu {mask : Nat} (h : mask < 512) (s : State) : (takeEnableEvents mask s).1.eu = s.eu.enabled mask := by
  rw [takeEnableEvents, if_neg (by omega), accept_fst]
  exact foldl_keeps State.eu (State.announce s) (State.announce_eu s) _ _

theorem State.clearCause_cause_same (s : State) (c : Cause) :
    (s.clearCause c).cause c = { count := 0, enable := (s.cause c).enable, detail := none } := by
  have hcleared := s.cause_setCause_same c { s.cause c with count := 0, detail := none }
  unfold State.clearCause
  dsimp only
  split <;> exact hcleared

theorem State.clearCause_cause_other (s : State) {c e : Cause} (h : e ≠ c) : (s.clearCause c).cause e = s.cause e := by
  have hother := s.cause_setCause_other c e { s.cause c with count := 0, detail := none } h
  unfold State.clearCause
  dsimp only
  split <;> exact hother

/-! ### The law of the counts (R174) -/

namespace State.CountsBounded

variable {s t : State}

theorem congr (h : t.eu.causes = s.eu.causes) (hs : s.CountsBounded) : t.CountsBounded := fun c => by
  rw [State.cause, h]
  exact hs c

/-- A raising holds its count at 255. -/
theorem raise (hs : s.CountsBounded) (c : Cause) (d : Option Detail) : (s.raise c d).CountsBounded := by
  intro e
  by_cases hec : e = c
  · subst hec
    rw [State.raise_cause_same]
    exact min_le_left _ _
  · rw [State.raise_cause_other s d hec]
    exact hs e

theorem raised (h : s.RaisesTo t) (hs : s.CountsBounded) : t.CountsBounded := by
  induction h with
  | unraised hcauses _ => exact hs.congr hcauses
  | raise s c d => exact hs.raise c d
  | trans _ _ ih ih' => exact ih' (ih hs)

theorem enableEvents (hs : s.CountsBounded) (mask : Nat) : (takeEnableEvents mask s).1.CountsBounded := by
  by_cases hmask : mask < 512
  · intro c
    rw [State.cause_congr (s := { s with eu := s.eu.enabled mask }) c (takeEnableEvents_eu hmask s), State.cause_enabled]
    exact hs c
  · rw [takeEnableEvents, if_pos (by omega)]
    exact hs

theorem clearCause (hs : s.CountsBounded) (c : Cause) : (s.clearCause c).CountsBounded := by
  intro e
  by_cases hec : e = c
  · subst hec
    rw [State.clearCause_cause_same]
    exact Nat.zero_le _
  · rw [State.clearCause_cause_other s hec]
    exact hs e

theorem taking (hs : s.CountsBounded) (r : Request) : (takingOf r s).1.CountsBounded := by
  cases hr : actsOnLine r with
  | false => exact hs.raised (takingOf_raisesTo hr s)
  | true =>
    cases r <;> first | contradiction | skip
    case enableEvents mask => exact hs.enableEvents mask
    case takeEvent =>
      simp only [takingOf, takeTakeEvent]
      split
      · exact hs
      · exact hs.clearCause _
    case setSupervision =>
      simp only [takingOf, takeSetSupervision]
      (repeat' split) <;> exact hs
    case queryStatus =>
      simp only [takingOf, takeQueryStatus]
      split <;> exact hs

theorem of_zero (h : ∀ c, (t.cause c).count = 0) : t.CountsBounded := fun c => (h c).trans_le (Nat.zero_le _)

end State.CountsBounded

/-- Every operation of the part keeps the law of the counts. -/
theorem countsBounded_keptByOperations : KeptByOperations State.CountsBounded where
  line _ _ _ _ := .congr rfl
  taking r _ hs := hs.taking r
  warmReset s _ _ := .of_zero fun c => by
    rw [State.cause_mapIdx (s := s) (f := fun _ c => { c with count := 0, detail := none }) rfl c]
  fullReset _ _ _ := .of_zero fun c => by cases c <;> rfl
  update s := .raised s.raiseUpdate_raisesTo
  sourceInternal _ := .congr rfl
  action s a cause ch := .raised (s.applyAction_raisesTo a cause ch)
  record s h pos _ _ := .raised (s.takeRecord_raisesTo h pos)
  rampIn s _ := .raised s.rampStep_raisesTo
  rampOut s _ _ := .raised (s.rampStep_raisesTo.trans (State.endRampOut_raisesTo _))
  passEnd s _ _ := .raised s.passEndPlaying_raisesTo
  passEndRampOut s _ _ := .raised s.passEndRampOut_raisesTo
  response s ch w f sp st _ _ := .raised (s.takeResponse_raisesTo ch w f sp st)
  envelope s ch f stamp := .raised (s.evalEnvelope_raisesTo ch f stamp)
  tracking s ch f stamp := .raised (s.evalTracking_raisesTo ch f stamp)
  clampRate s ch := .raised (s.evalClamp_raisesTo ch)
  window s ch := .raised (s.closeWindow_raisesTo ch)
  rigReady _ _ := .congr rfl
  markEdge s m rising _ := .raised (s.markEdge_raisesTo m rising)
  verified s id _ l _ _ := .raised (s.completeVerification_raisesTo id l)

/-! ### The supervision interval and timer, which frames leave alone (R192) -/

/-- What the law of the supervision reads of the line. -/
def LinkUnit.supervision (l : LinkUnit) : Nat × Option Nat := (l.interval, l.timerSince)

@[simp] theorem State.placeFrame_supervision (s : State) (f : Frame) :
    (s.placeFrame f).sli.supervision = s.sli.supervision := by
  unfold State.placeFrame
  split <;> rfl

@[simp] theorem State.placeNotice_supervision (s : State) (c : Cause) (n : Nat) :
    (s.placeNotice c n).sli.supervision = s.sli.supervision := by
  unfold State.placeNotice
  split
  · rfl
  · exact s.placeFrame_supervision _

@[simp] theorem State.raise_supervision (s : State) (c : Cause) (d : Option Detail) :
    (s.raise c d).sli.supervision = s.sli.supervision := by
  rw [State.raise_eq]
  dsimp only
  split
  · exact s.placeNotice_supervision c 1
  · rfl

theorem State.RaisesTo.supervision {s t : State} (h : s.RaisesTo t) : t.sli.supervision = s.sli.supervision := by
  induction h with
  | unraised _ hsli => rw [hsli]
  | raise s c d => exact s.raise_supervision c d
  | trans _ _ ih ih' => exact ih'.trans ih

@[simp] theorem State.bufferRequest_supervision (s : State) (f : RequestFrame) :
    (s.bufferRequest f).sli.supervision = s.sli.supervision := by
  unfold State.bufferRequest
  split
  · rfl
  · dsimp only
    split
    · exact State.placeFrame_supervision _ _
    · rfl

@[simp] theorem State.nextFrame_supervision (s : State) : s.nextFrame.sli.supervision = s.sli.supervision := by
  unfold State.nextFrame
  split <;> rfl

@[simp] theorem State.dropOverlong_supervision (s : State) : s.dropOverlong.sli.supervision = s.sli.supervision := by
  unfold State.dropOverlong
  split <;> rfl

theorem takeEnableEvents_supervision (mask : Nat) (s : State) :
    (takeEnableEvents mask s).1.sli.supervision = s.sli.supervision := by
  have hannounce (t : State) (c : Cause) : (State.announce s t c).sli.supervision = t.sli.supervision := by
    unfold State.announce
    split
    · exact t.placeNotice_supervision c _
    · rfl
  unfold takeEnableEvents
  split
  · rfl
  · exact foldl_keeps (fun t => t.sli.supervision) (State.announce s) hannounce _ _

/-- A warm reset leaves the line as it was (R196). -/
theorem State.warmReset_sli (s : State) : s.warmReset.sli = s.sli := by
  have hclips : s.warmResetClips.sli = s.sli :=
    State.warmResetClips_induction (P := fun t => t.sli = s.sli) rfl (fun t id _ _ h => (t.freeClip_sli id).trans h)
      fun _ h => h
  unfold State.warmReset
  dsimp only
  rw [hclips]

/-! ### The law of the supervision (R192, R193) -/

namespace State.SupervisionLawful

variable {s t : State}

theorem congr (h : t.sli.supervision = s.sli.supervision) (hs : s.SupervisionLawful) : t.SupervisionLawful := by
  obtain ⟨hinterval, htimer⟩ := Prod.mk.inj h
  exact ⟨hinterval ▸ hs.interval_admitted, by rw [hinterval, htimer]; exact hs.timer_runs⟩

theorem raised (h : s.RaisesTo t) : s.SupervisionLawful → t.SupervisionLawful := .congr h.supervision

/-! #### The timer and Set Supervision -/

/-- A timer restarts while the interval is not 0. -/
theorem restartTimer (hs : s.SupervisionLawful) : s.restartTimer.SupervisionLawful := by
  unfold State.restartTimer
  split
  · exact hs
  · next hne => exact ⟨hs.interval_admitted, iff_of_false hne nofun⟩

/-- Set Supervision admits an interval and starts the timer, or clears both. -/
theorem setSupervision (hs : s.SupervisionLawful) (interval : Nat) :
    (takeSetSupervision interval s).1.SupervisionLawful := by
  unfold takeSetSupervision
  split
  · exact ⟨.inl rfl, iff_of_true rfl rfl⟩
  split
  · next hne hin => exact ⟨.inr hin, iff_of_false hne nofun⟩
  · exact hs

theorem fullReset (s : State) (source : ResetSource) : (s.makeFullReset source).SupervisionLawful :=
  ⟨.inl rfl, iff_of_true rfl rfl⟩

/-! #### Takings -/

theorem taking (hs : s.SupervisionLawful) (r : Request) : (takingOf r s).1.SupervisionLawful := by
  cases hr : actsOnLine r with
  | false => exact hs.raised (takingOf_raisesTo hr s)
  | true =>
    cases r <;> first | contradiction | skip
    case enableEvents mask => exact hs.congr (takeEnableEvents_supervision mask s)
    case takeEvent =>
      simp only [takingOf, takeTakeEvent]
      split <;> exact hs.congr (by simp)
    case setSupervision interval => exact hs.setSupervision interval
    case queryStatus =>
      simp only [takingOf, takeQueryStatus]
      split <;> exact hs.congr (by rfl)

theorem perform {act : Taking} (h : (act s).1.SupervisionLawful) (code tag : Nat) :
    (s.perform code tag act).SupervisionLawful := h.congr (State.placeFrame_supervision _ _)

theorem performReset (hs : s.SupervisionLawful) (tag : Nat) : (s.performReset tag).SupervisionLawful := by
  have hreplied : (s.perform (requestCode .resetPart) tag takeResetPart).SupervisionLawful := perform (hs.taking .resetPart) _ _
  unfold State.performReset
  dsimp only
  split
  · exact hreplied.congr (by rw [State.warmReset_sli])
  · exact hreplied

theorem takeFrame (hs : s.SupervisionLawful) (f : RequestFrame) : (s.takeFrame f).SupervisionLawful := by
  unfold State.takeFrame
  split
  · exact perform hs _ _
  · exact perform hs _ _
  · next r _ =>
    unfold State.takeRequest
    split
    · exact hs.performReset _
    · exact perform (hs.taking r) _ _

theorem drain : ∀ (n : Nat) {s : State}, s.SupervisionLawful → (State.drain n s).SupervisionLawful
  | 0, _, hs => hs
  | n + 1, s, hs => by
    unfold State.drain
    split
    · exact hs
    · next f rest _ =>
      split
      · exact drain n ((hs.congr (t := s.setSli { s.sli with buffer := rest }) (by rfl)).takeFrame f)
      · exact hs

/-! #### Arrivals -/

theorem judgeFrame (hs : s.SupervisionLawful) (kind code tag : Nat) (payload : List Byte) (crc : Nat) :
    (s.judgeFrame kind code tag payload crc).SupervisionLawful := by
  unfold State.judgeFrame
  split
  · exact hs.congr (by rfl)
  split
  · exact hs.congr (by rfl)
  split
  · exact hs.congr (by rfl)
  · exact drain _ (hs.restartTimer.congr (State.bufferRequest_supervision _ _))

theorem headerTaken (hs : s.SupervisionLawful) (start : Nat) (header : List Byte) :
    (s.headerTaken start header).SupervisionLawful := by
  unfold State.headerTaken
  dsimp only
  (repeat' split) <;> exact hs.congr (by rfl)

theorem takeByte (hs : s.SupervisionLawful) (b : Byte) : (s.takeByte b).SupervisionLawful := by
  have hset (r : Receiver) : (s.setReceiver r).SupervisionLawful := hs.congr (by rfl)
  unfold State.takeByte
  split
  case h_1 =>
    split
    · exact hset _
    · exact hs
  case h_2 => (repeat' split) <;> exact hset _
  case h_3 =>
    dsimp only
    split
    · exact hset _
    · exact hs.headerTaken _ _
  case h_4 => dsimp only; split <;> exact hset _
  case h_5 =>
    dsimp only
    split
    · exact hset _
    · exact (hset .hunt).judgeFrame _ _ _ _ _

/-! #### The rows -/

/-- A row of the line keeps the law: bytes and frames reach the timer by takings and by its restart alone. -/
theorem lineRow {c : Instr} (hline : isLineRow c = true) (hs : s.SupervisionLawful) :
    NextIn State.SupervisionLawful (exec c s) := by
  have htick (at' : Nat) : (s.tick at').SupervisionLawful := hs.congr (by rfl)
  have hdropped (at' : Nat) : (s.tick at').dropOverlong.SupervisionLawful := (htick at').congr (State.dropOverlong_supervision _)
  cases c <;> first | contradiction | skip
  case unknownRequest code tag =>
    exact .ite (fun _ => .next (hs.takeFrame _)) fun _ => .next (hs.congr (s.bufferRequest_supervision _))
  case requestArrival kind code tag payload crc at' =>
    have hhunt : ((s.tick at').dropOverlong.setReceiver .hunt).SupervisionLawful := (hdropped at').congr (by rfl)
    exact .next (hhunt.judgeFrame _ _ _ _ _)
  case overlongFrame at' => exact .next (hdropped at')
  case frameSent => exact .ite (fun _ => .next (drain _ (hs.congr s.nextFrame_supervision))) fun _ => .next hs
  case supervisionExpiry at' =>
    exact .ite (fun _ => .next ((htick at').raised (State.applyAction_raisesTo _ _ _ _)).restartTimer) fun _ => .next (htick at')
  case fullReset source => exact .next (fullReset s source)
  case receivedByte b at' =>
    exact .ite (fun _ => .next ((htick at').takeByte b)) fun _ => .next ((hdropped at').takeByte b)

theorem row (c : Instr) (hs : s.SupervisionLawful) : NextIn State.SupervisionLawful (exec c s) := by
  cases hc : c.asRequest with
  | none =>
    cases hline : isLineRow c with
    | true => exact hs.lineRow hline
    | false => exact (exec_raisesTo hc hline s).imp fun h => hs.raised h
  | some pair =>
    obtain ⟨tag, r⟩ := pair
    by_cases hr : r = .resetPart
    · subst hr
      cases c <;> cases hc
      exact .ite (fun _ => .next (hs.performReset _)) fun _ => .next (hs.congr (s.bufferRequest_supervision _))
    · rw [exec_of_request hc hr]
      refine .next ?_
      unfold State.takeOrWait
      split
      · exact perform (hs.taking r) _ _
      · exact hs.congr (s.bufferRequest_supervision _)

theorem of_step (hs : s.SupervisionLawful) (h : step s = .next t) : t.SupervisionLawful := by
  rcases step_cases h with ⟨-, rfl⟩ | ⟨c, rest, -, h⟩
  · exact hs
  · have hrest : State.SupervisionLawful { s with pending := rest } := hs.congr (by rfl)
    exact (h ▸ hrest.row c).of_next

end State.SupervisionLawful

/-- Settles O58: the counts by the operations of the part, the supervision by the rows. -/
theorem stepKeepsCountsAndSupervision : Obligations.StepKeepsCountsAndSupervision :=
  ⟨fun _ _ hs h => countsBounded_keptByOperations.of_step hs h, fun _ _ hs h => hs.of_step h⟩

end Sys2Proof.Machine
end

section
/-! The Event Unit: what a raising does, and its two requests, Enable Events and Take Event (R174 to R181). -/

namespace Sys2Proof.Machine

open Sys2Proof

/-! ### A raising (R174, R178) -/

/-- Settles O41: a raising changes its cause's record, and the line exactly when an enabled cause goes from 0 to 1. -/
theorem raiseResult : Obligations.RaiseResult := by
  intro c d s
  refine ⟨s.raise_cause_same c d, fun c' h => s.raise_cause_other d h, by rw [State.raise_eq]; rfl, ?noticed, ?silent, ?_⟩
  case noticed =>
    intro hzero henabled
    rw [State.raise_eq]
    exact if_pos ⟨hzero, henabled⟩
  case silent =>
    intro h
    rw [State.raise_eq]
    refine if_neg fun ⟨hzero, henabled⟩ => ?_
    rcases h with hpending | hclear
    · exact hpending hzero
    · exact Bool.false_ne_true (hclear.symm.trans henabled)
  exact ⟨s.raise_cs c d, s.raise_sq c d, s.raise_pe c d, s.raise_dcu c d, s.raise_cpc c d, s.raise_lm c d, s.raise_mu c d,
    s.raise_rcu c d⟩

/-! ### The causes by their numbers (R173, R181) -/

theorem allCauses_index : allCauses.map Cause.index = List.range 9 := rfl

theorem Cause.index_lt_length (c : Cause) : c.index < allCauses.length := c.index_lt

theorem allCauses_getElem_index {j : Nat} (h : j < allCauses.length) : (allCauses[j]).index = j := by
  have hmapped : (allCauses.map Cause.index)[j]? = some j := by
    rw [allCauses_index]
    exact List.getElem?_range h
  simpa [h] using hmapped

theorem allCauses_getElem (c : Cause) : allCauses[c.index]'c.index_lt_length = c :=
  Cause.index_injective (allCauses_getElem_index c.index_lt_length)

/-- The bits 0 to 8 of a mask below 512 are the mask. -/
theorem maskOf_testBit_self {mask : Nat} (h : mask < 512) : maskOf 9 mask.testBit = mask := by
  refine Nat.eq_of_testBit_eq fun n => ?_
  rw [maskOf_testBit]
  by_cases hn : n < 9
  · simp [hn]
  · have hsmall : mask < 2 ^ n := h.trans_le (Nat.pow_le_pow_right two_pos (not_lt.mp hn) : 2 ^ 9 ≤ 2 ^ n)
    simp [hn, Nat.testBit_lt_two_pow hsmall]

/-- The enables of the nine causes, read as a mask. -/
theorem State.enableMask_eq_maskOf {s : State} {p : Nat → Bool} (h : ∀ c, (s.cause c).enable = p c.index) :
    s.enableMask = maskOf 9 p := by
  rw [State.enableMask, maskOf, ← allCauses_index, List.foldl_map]
  simp only [h]

/-! ### Enable Events (R180) -/

theorem State.placeNotice_eq (s : State) (c : Cause) (n : Nat) :
    s.placeNotice c n = { s with sli := (s.placeNotice c n).sli } := by
  unfold State.placeNotice
  split
  · rfl
  · exact State.placeFrame_eq s _

/-- The notices of Enable Events change the line alone. -/
theorem State.foldl_announce_eq (before s : State) (l : List Cause) :
    l.foldl (State.announce before) s = s.setSli (l.foldl (State.announce before) s).sli := by
  have hstep (t : State) (c : Cause) : (State.announce before t c).setSli s.sli = t.setSli s.sli := by
    unfold State.announce
    split
    · rw [State.placeNotice_eq]
      rfl
    · rfl
  have hfold := foldl_keeps (fun t : State => t.setSli s.sli) (State.announce before) hstep l s
  generalize l.foldl (State.announce before) s = u at hfold ⊢
  calc u = (u.setSli s.sli).setSli u.sli := rfl
    _ = (s.setSli s.sli).setSli u.sli := congrArg (State.setSli · u.sli) hfold
    _ = s.setSli u.sli := rfl

/-- Whether Enable Events places a notice of a cause: pending, its enable clear, and set by the mask (R178, R180). -/
def State.newlyEnabled (s : State) (mask : Nat) (c : Cause) : Bool :=
  !(s.cause c).enable && mask.testBit c.index && decide (0 < (s.cause c).count)

theorem State.announce_sli {s t : State} {mask : Nat} (h : t.eu = s.eu.enabled mask) (c : Cause) :
    (State.announce s t c).sli = if s.newlyEnabled mask c then (t.placeNotice c (s.cause c).count).sli else t.sli := by
  have hcause : t.cause c = { s.cause c with enable := mask.testBit c.index } :=
    (State.cause_congr (s := { s with eu := s.eu.enabled mask }) c h).trans (s.cause_enabled mask c)
  unfold State.announce
  rw [hcause]
  by_cases hnew : s.newlyEnabled mask c = true
  · rw [if_pos hnew, if_pos (by simpa [State.newlyEnabled, and_assoc] using hnew)]
  · rw [if_neg hnew, if_neg (by simpa [State.newlyEnabled, and_assoc] using hnew)]

/-- The line after Enable Events has the notices of the causes newly enabled, in their order. -/
theorem State.foldl_announce_sli (s : State) (mask : Nat) : ∀ (l : List Cause) {t u : State}, t.eu = s.eu.enabled mask →
    t.sli = u.sli → (l.foldl (State.announce s) t).sli
      = ((l.filter (s.newlyEnabled mask)).foldl (fun u c => u.placeNotice c (s.cause c).count) u).sli
  | [], _, _, _, hsli => hsli
  | c :: rest, t, u, heu, hsli => by
    have hannounced := State.announce_sli heu c
    have heu' : (State.announce s t c).eu = s.eu.enabled mask := (State.announce_eu s t c).trans heu
    rw [List.foldl_cons, List.filter_cons]
    split at hannounced
    · next hnew =>
      rw [if_pos hnew, List.foldl_cons]
      exact State.foldl_announce_sli s mask rest heu' (hannounced.trans (State.placeNotice_sli_congr hsli c _))
    · next hnew =>
      rw [if_neg hnew]
      exact State.foldl_announce_sli s mask rest heu' (hannounced.trans hsli)

/-- The state that Enable Events leaves. -/
def State.eventsEnabled (s : State) (mask : Nat) : State :=
  allCauses.foldl (State.announce s) { s with eu := s.eu.enabled mask }

theorem State.eventsEnabled_eq (s : State) (mask : Nat) :
    s.eventsEnabled mask = { s with eu := s.eu.enabled mask, sli := (s.eventsEnabled mask).sli } :=
  State.foldl_announce_eq s _ allCauses

theorem State.eventsEnabled_cause (s : State) (mask : Nat) (c : Cause) :
    (s.eventsEnabled mask).cause c = { s.cause c with enable := mask.testBit c.index } := by
  rw [State.eventsEnabled_eq]
  exact s.cause_enabled mask c

/-- A mask of the nine causes is taken, and the reply carries it and the counts. -/
theorem takeEnableEvents_of_lt {mask : Nat} (h : mask < 512) (s : State) :
    takeEnableEvents mask s
      = accept (s.eventsEnabled mask) (beBytes 2 mask ++ allCauses.flatMap fun c => beBytes 1 (s.cause c).count) := by
  have hmask : (s.eventsEnabled mask).enableMask = mask :=
    (State.enableMask_eq_maskOf fun c => by rw [State.eventsEnabled_cause]).trans (maskOf_testBit_self h)
  have hcounts (c : Cause) : ((s.eventsEnabled mask).cause c).count = (s.cause c).count := by rw [State.eventsEnabled_cause]
  have htaken : takeEnableEvents mask s = accept (s.eventsEnabled mask) (beBytes 2 (s.eventsEnabled mask).enableMask
      ++ allCauses.flatMap fun c => beBytes 1 ((s.eventsEnabled mask).cause c).count) := if_neg (by omega)
  simp only [htaken, hmask, hcounts]

/-- Settles O42: the taking sets the enables and places the notices, and the reply follows them. -/
theorem enableEventsResult : Obligations.EnableEventsResult := by
  rintro tag mask s causes hfree rfl
  refine ⟨fun hmask => ?taken, fun hmask => ?refused⟩
  case taken =>
    refine ⟨_, exec_of_taking (c := .enableEvents tag mask) rfl nofun hfree (takeEnableEvents_of_lt hmask s), fun c => ?causes,
      ?_, ?_, ?_, ?_, ?_, ?_, ?_, ?_, ?_, ?_, ?_, ?line⟩
    case causes => rw [State.answered_cause, State.eventsEnabled_cause]
    case line =>
      rintro noticed rfl
      exact State.answered_sli_congr (s.foldl_announce_sli mask allCauses (by rfl) (by rfl)) _ _ _ _
    all_goals
      rw [State.eventsEnabled_eq]
      simp [EventUnit.enabled]
  case refused =>
    exact exec_of_taking (c := .enableEvents tag mask) rfl nofun hfree (if_pos hmask : takeEnableEvents mask s = _)

/-! ### Take Event (R181) -/

theorem State.topCause_of_none {s : State} (h : ∀ c : Cause, (s.cause c).count = 0) : s.topCause = none :=
  List.find?_eq_none.mpr fun c _ => by simp [h c]

/-- The pending cause with none of a lower number pending is the first that is found. -/
theorem State.topCause_of_highest {s : State} {c : Cause} (hc : 0 < (s.cause c).count)
    (habove : ∀ c' : Cause, c'.index < c.index → (s.cause c').count = 0) : s.topCause = some c := by
  refine List.find?_eq_some_iff_getElem.mpr ⟨decide_eq_true hc, c.index, c.index_lt_length, allCauses_getElem c,
    fun j hj => ?_⟩
  have hindex := allCauses_getElem_index (hj.trans c.index_lt_length)
  simp [habove _ (hindex.trans_lt hj)]

theorem State.clearCause_markSet (s : State) (c : Cause) :
    (s.clearCause c).eu.markSet = if c = .mark then 0 else s.eu.markSet := by
  unfold State.clearCause
  dsimp only
  split <;> rfl

theorem State.pendingMask_congr {s t : State} (h : t.eu = s.eu) : t.pendingMask = s.pendingMask := by
  simp only [State.pendingMask, State.cause_congr _ h]

theorem takeTakeEvent_of_none {s : State} (h : s.topCause = none) : takeTakeEvent s = accept s [0, 0, 0, 0] := by
  rw [takeTakeEvent, h]
  rfl

theorem takeTakeEvent_of_some {s : State} {c : Cause} (h : s.topCause = some c) :
    takeTakeEvent s = accept (s.clearCause c) (beBytes 1 c.code ++ beBytes 1 (s.cause c).count
      ++ beBytes 2 (s.clearCause c).pendingMask ++ s.detailBytes c) := by
  rw [takeTakeEvent, h]

/-- Settles O43: the first cause found pending is served and cleared. -/
theorem takeEventResult : Obligations.TakeEventResult := by
  intro tag s hfree
  have htaking {t : State} {reply : Reply} (h : takeTakeEvent s = (t, reply)) :=
    exec_of_taking (c := .takeEvent tag) rfl nofun hfree h
  refine ⟨fun hnone => htaking (takeTakeEvent_of_none (State.topCause_of_none hnone)), fun c hc habove => ?_⟩
  refine ⟨_, htaking (takeTakeEvent_of_some (State.topCause_of_highest hc habove)), ?served, fun c' hc' => ?others, ?marks,
    ?line, ?_, ?_, ?_, ?_, ?_, ?_, ?_, ?_, ?_, ?_⟩
  case served => rw [State.answered_cause, State.clearCause_cause_same]
  case others => rw [State.answered_cause, State.clearCause_cause_other s hc']
  case marks => rw [State.answered_eu, State.clearCause_markSet]
  case line =>
    rw [State.pendingMask_congr (State.answered_eu ..)]
    exact State.answered_sli_congr (s.clearCause_sli c) _ _ _ _
  all_goals simp

end Sys2Proof.Machine
end

section
/-! The step and the rows: a step is its front command, every row answers a next state, and a request's row takes the request or
lets it wait (R188 to R190; log entries 7, 15). -/

namespace Sys2Proof.Machine

open Sys2Proof

/-- Settles O1: both clauses are the step's own two cases. -/
theorem stepRunsFrontCommand : Obligations.StepRunsFrontCommand :=
  ⟨fun _ _ _ => rfl, fun s h => by rw [step, h]⟩

/-- What holds of every state is kept by every operation. -/
theorem true_keptByOperations : KeptByOperations fun _ => True := by
  constructor <;> intros <;> trivial

theorem NextIn.exists_next {P : State → Prop} {a : Answer} (h : NextIn P a) : ∃ t, a = .next t := by
  obtain @⟨t, _⟩ := h
  exact ⟨t, rfl⟩

/-- Settles O2: the induction over the rows, which asks nothing of the state here. -/
theorem everyCommandAnswersNextState : Obligations.EveryCommandAnswersNextState := fun i _ =>
  (true_keptByOperations.row i trivial).exists_next

theorem State.takeRequest_of_ne {r : Request} (hr : r ≠ .resetPart) (s : State) (tag : Nat) :
    s.takeRequest tag r = s.perform (requestCode r) tag (takingOf r) := by
  unfold State.takeRequest
  split
  · exact absurd rfl hr
  · rfl

/-- The row of every request, Reset Part among them, takes it with a reply place free and lets it wait otherwise. -/
theorem exec_eq_takeRequest {c : Instr} {tag : Nat} {r : Request} {s : State} (h : c.asRequest = some (tag, r)) :
    exec c s = if s.repliesHeld < 2 then .next (s.takeRequest tag r)
      else .next (s.bufferRequest { code := requestCode r, tag := tag, payload := requestPayload r }) := by
  by_cases hr : r = .resetPart
  · subst hr
    cases c <;> cases h
    rfl
  · rw [exec_of_request h hr, State.takeRequest_of_ne hr]
    exact apply_ite Host.Outcome.next _ _ _

/-- Settles O3: each request's row by whether a reply place is free. -/
theorem requestRowsTakeOrWait : Obligations.RequestRowsTakeOrWait := fun _ _ _ _ h => by
  rw [exec_eq_takeRequest h]
  exact (apply_ite Host.Outcome.next _ _ _).symm

end Sys2Proof.Machine
end

section
/-! The bounds of the line: what joins the transmit queue, what the taking of a request makes of the line, and the law of the buffer,
the reply places and the transmit queue, which every row keeps (R187 to R190). -/

namespace Sys2Proof.Machine

open Sys2Proof

/-! ### What a frame makes of the transmit queue (R190) -/

theorem State.placeFrame_buffer (s : State) (f : Frame) : (s.placeFrame f).sli.buffer = s.sli.buffer := by
  unfold State.placeFrame
  split <;> rfl

theorem State.placeFrame_counters (s : State) (f : Frame) : (s.placeFrame f).sli.counters = s.sli.counters := by
  unfold State.placeFrame
  split <;> rfl

/-- A placed frame is one more of the queue's frames, whichever place it takes. -/
theorem State.placeFrame_repliesHeld (s : State) (f : Frame) :
    (s.placeFrame f).repliesHeld = s.repliesHeld + if f.cls = .reply then 1 else 0 := by
  have hone : ([f].filter fun f => f.cls == .reply).length = if f.cls = .reply then 1 else 0 := by
    by_cases hf : f.cls = .reply <;> simp [hf]
  unfold State.placeFrame State.repliesHeld State.queuedFrames
  rw [← hone, ← List.length_append, ← List.filter_append]
  cases hl : s.sli.leaving with
  | none => exact (List.perm_append_comm.filter _).length_eq
  | some g => simp [hl]

/-- The frames of a class that wait behind the leaving one. -/
def State.waitingOf (s : State) (c : FrameClass) : Nat := (s.sli.waiting.filter fun f => f.cls == c).length

theorem State.busyWaiting_eq (s : State) : s.busyWaiting = s.waitingOf .busy := rfl
theorem State.noticesWaiting_eq (s : State) (c : Cause) : s.noticesWaiting c = s.waitingOf (.notice c) := rfl

/-- Of the frames that wait, a placed frame adds at most itself. -/
theorem State.placeFrame_waitingOf_le (s : State) (f : Frame) (c : FrameClass) :
    (s.placeFrame f).waitingOf c ≤ s.waitingOf c + if f.cls = c then 1 else 0 := by
  unfold State.placeFrame
  split
  · exact Nat.le_add_right _ _
  · by_cases hf : f.cls = c <;> simp [State.waitingOf, List.filter_append, hf]

/-- Nothing waits unless a frame is leaving. -/
def State.SendsFirst (s : State) : Prop := s.sli.leaving = none → s.sli.waiting = []

theorem State.placeFrame_sendsFirst (s : State) (f : Frame) : (s.placeFrame f).SendsFirst := by
  unfold State.placeFrame
  split
  · nofun
  · next g hg => exact fun h => absurd (hg.symm.trans h) nofun

/-! ### What an operation sends (R178, R189, R190) -/

/-- From `s` to `t` so many replies join the transmit queue, beside them nothing but notices, and the error counters stand or are
cleared. -/
structure State.Sends (s : State) (replies : Nat) (t : State) : Prop where
  buffer : t.sli.buffer = s.sli.buffer
  held : t.repliesHeld = s.repliesHeld + replies
  busy : t.waitingOf .busy ≤ s.waitingOf .busy
  notices : ∀ c, t.waitingOf (.notice c) ≤ max 1 (s.waitingOf (.notice c))
  sends_first : s.SendsFirst → t.SendsFirst
  counters : t.sli.counters = s.sli.counters ∨ t.sli.counters = LinkCounters.reset

namespace State.Sends

/-- A change of neither frames nor counters sends nothing. -/
theorem of_same {s t : State} (hbuffer : t.sli.buffer = s.sli.buffer) (hleaving : t.sli.leaving = s.sli.leaving)
    (hwaiting : t.sli.waiting = s.sli.waiting)
    (hcounters : t.sli.counters = s.sli.counters ∨ t.sli.counters = LinkCounters.reset) : s.Sends 0 t where
  buffer := hbuffer
  held := by simp only [State.repliesHeld, State.queuedFrames, hleaving, hwaiting, add_zero]
  busy := by rw [State.waitingOf, hwaiting]; rfl
  notices c := by rw [State.waitingOf, hwaiting]; exact le_max_right _ _
  sends_first h hnone := hwaiting.trans (h (hleaving.symm.trans hnone))
  counters := hcounters

theorem of_sli {s t : State} (h : t.sli = s.sli) : s.Sends 0 t := of_same (by rw [h]) (by rw [h]) (by rw [h]) (.inl (by rw [h]))

theorem trans {s t u : State} {j k : Nat} (h : s.Sends j t) (h' : t.Sends k u) : s.Sends (j + k) u where
  buffer := h'.buffer.trans h.buffer
  held := by rw [h'.held, h.held, add_assoc]
  busy := h'.busy.trans h.busy
  notices c := (h'.notices c).trans (max_le (le_max_left _ _) (h.notices c))
  sends_first hs := h'.sends_first (h.sends_first hs)
  counters := h'.counters.elim (fun hc => h.counters.imp hc.trans hc.trans) .inr

/-- A reply that is placed. -/
theorem reply (s : State) {f : Frame} (hf : f.cls = .reply) : s.Sends 1 (s.placeFrame f) where
  buffer := s.placeFrame_buffer f
  held := by rw [s.placeFrame_repliesHeld, if_pos hf]
  busy := by simpa [hf] using s.placeFrame_waitingOf_le f .busy
  notices c := le_max_of_le_right (by simpa [hf] using s.placeFrame_waitingOf_le f (.notice c))
  sends_first _ := s.placeFrame_sendsFirst f
  counters := .inl (s.placeFrame_counters f)

/-- A notice of a cause none of which waits is placed. -/
theorem newNotice (s : State) {f : Frame} {c : Cause} (hf : f.cls = .notice c) (hnone : s.waitingOf (.notice c) = 0) :
    s.Sends 0 (s.placeFrame f) where
  buffer := s.placeFrame_buffer f
  held := by rw [s.placeFrame_repliesHeld, if_neg (by rw [hf]; nofun)]
  busy := by simpa [hf] using s.placeFrame_waitingOf_le f .busy
  notices c' := by
    have hle := s.placeFrame_waitingOf_le f (.notice c')
    by_cases hc : c' = c
    · subst hc
      rw [hnone, zero_add, if_pos hf] at hle
      exact le_max_of_le_left hle
    · exact le_max_of_le_right (by simpa [hf, Ne.symm hc] using hle)
  sends_first _ := s.placeFrame_sendsFirst f
  counters := .inl (s.placeFrame_counters f)

/-- Frames that wait and keep their classes are as many of each class as before. -/
theorem of_reworded {s t : State} {g : Frame → Frame} (hg : ∀ f, (g f).cls = f.cls) (hbuffer : t.sli.buffer = s.sli.buffer)
    (hleaving : t.sli.leaving = s.sli.leaving) (hwaiting : t.sli.waiting = s.sli.waiting.map g)
    (hcounters : t.sli.counters = s.sli.counters) : s.Sends 0 t := by
  have hcount (c : FrameClass) : t.waitingOf c = s.waitingOf c := by
    rw [State.waitingOf, hwaiting, List.filter_map, List.length_map]
    simp only [Function.comp_def, hg]
    rfl
  refine ⟨hbuffer, ?held, (hcount _).le, fun c => le_max_of_le_right (hcount _).le, fun h hnone => ?order, .inl hcounters⟩
  case held =>
    have hheld := hcount .reply
    simp only [State.waitingOf] at hheld
    simp only [State.repliesHeld, State.queuedFrames, hleaving, List.filter_append, List.length_append, hheld, add_zero]
  case order => rw [hwaiting, h (hleaving.symm.trans hnone), List.map_nil]

end State.Sends

theorem State.placeNotice_sends (s : State) (c : Cause) (n : Nat) : s.Sends 0 (s.placeNotice c n) := by
  unfold State.placeNotice
  split
  · exact .of_reworded (fun f => by split <;> rfl) rfl rfl rfl rfl
  · next hnone => exact .newNotice s rfl (by simpa [State.waitingOf] using hnone)

theorem State.raise_sends (s : State) (c : Cause) (d : Option Detail) : s.Sends 0 (s.raise c d) := by
  by_cases hnotice : (s.cause c).count = 0 ∧ (s.cause c).enable = true
  · exact (s.placeNotice_sends c 1).trans (.of_sli (by rw [State.raise_eq]; exact if_pos hnotice))
  · exact .of_sli (by rw [State.raise_eq]; exact if_neg hnotice)

theorem State.RaisesTo.sends {s t : State} (h : s.RaisesTo t) : s.Sends 0 t := by
  induction h with
  | unraised _ hsli => exact .of_sli hsli
  | raise s c d => exact s.raise_sends c d
  | trans _ _ ih ih' => exact ih.trans ih'

/-! ### What a taking sends (R189, R191) -/

theorem takeEnableEvents_sends (mask : Nat) (s : State) : s.Sends 0 (takeEnableEvents mask s).1 := by
  have hannounce (t : State) (c : Cause) : t.Sends 0 (State.announce s t c) := by
    unfold State.announce
    split
    · exact t.placeNotice_sends c _
    · exact .of_sli rfl
  have hall (l : List Cause) (t : State) : t.Sends 0 (l.foldl (State.announce s) t) := by
    induction l generalizing t with
    | nil => exact .of_sli rfl
    | cons c rest ih => exact (hannounce t c).trans (ih _)
  unfold takeEnableEvents
  split
  · exact .of_sli rfl
  · exact (State.Sends.of_sli (s := s) (t := { s with eu := s.eu.enabled mask }) rfl).trans (hall allCauses _)

/-- What a block does with a request sends no reply: its reply is placed behind. -/
theorem takingOf_sends (r : Request) (s : State) : s.Sends 0 (takingOf r s).1 := by
  cases hr : actsOnLine r with
  | false => exact (takingOf_raisesTo hr s).sends
  | true =>
    cases r <;> first | contradiction | skip
    case enableEvents mask => exact takeEnableEvents_sends mask s
    case takeEvent =>
      simp only [takingOf, takeTakeEvent]
      split
      · exact .of_sli rfl
      · exact .of_sli (s.clearCause_sli _)
    case setSupervision =>
      simp only [takingOf, takeSetSupervision]
      (repeat' split) <;> exact .of_same rfl rfl rfl (.inl rfl)
    case queryStatus =>
      simp only [takingOf, takeQueryStatus]
      split
      · exact .of_sli rfl
      · exact .of_sli rfl
      · exact .of_same rfl rfl rfl (.inr rfl)

theorem State.perform_sends {s : State} {act : Taking} (h : s.Sends 0 (act s).1) (code tag : Nat) :
    s.Sends 1 (s.perform code tag act) := by
  have hreply := h.trans (.reply (act s).1 (f := replyFrame code tag (act s).2) rfl)
  rwa [zero_add] at hreply

theorem State.performReset_sends (s : State) (tag : Nat) : s.Sends 1 (s.performReset tag) := by
  have hreplied : s.Sends 1 (s.perform (requestCode .resetPart) tag takeResetPart) :=
    State.perform_sends (takingOf_sends .resetPart s) _ _
  unfold State.performReset
  dsimp only
  split
  · exact hreplied.trans (.of_sli (State.warmReset_sli _))
  · exact hreplied

theorem State.takeRequest_sends (s : State) (tag : Nat) (r : Request) : s.Sends 1 (s.takeRequest tag r) := by
  unfold State.takeRequest
  split
  · exact s.performReset_sends tag
  · exact State.perform_sends (takingOf_sends r s) _ _

/-- A taken frame is answered with one reply. -/
theorem State.takeFrame_sends (s : State) (f : RequestFrame) : s.Sends 1 (s.takeFrame f) := by
  unfold State.takeFrame
  split
  · exact State.perform_sends (.of_sli rfl) _ _
  · exact State.perform_sends (.of_sli rfl) _ _
  · exact s.takeRequest_sends _ _

/-! ### The bounds of the line (R187 to R190) -/

/-- No counter is above 65535 (R187). -/
def LinkCounters.Bounded (c : LinkCounters) : Prop :=
  c.lengthErrors ≤ 65535 ∧ c.overlong ≤ 65535 ∧ c.crcErrors ≤ 65535 ∧ c.kindErrors ≤ 65535 ∧ c.busyAnswers ≤ 65535

theorem LinkCounters.reset_bounded : LinkCounters.reset.Bounded := ⟨by decide, by decide, by decide, by decide, by decide⟩

theorem sat16_le (n : Nat) : sat16 n ≤ 65535 := min_le_left _ _

/-- The law of the line but for the requests that wait beside a free reply place, which are about to be taken. -/
structure State.LinkBounded (s : State) : Prop where
  buffer_bound : s.sli.buffer.length ≤ 8
  places_bound : s.repliesHeld ≤ 2
  busy_bound : s.busyWaiting ≤ 8
  one_notice : ∀ c : Cause, s.noticesWaiting c ≤ 1
  sends_first : s.SendsFirst
  counters_bound : s.sli.counters.Bounded

theorem State.linkLawful_iff {s : State} : s.LinkLawful ↔ s.LinkBounded ∧ (s.sli.buffer = [] ∨ s.repliesHeld = 2) :=
  ⟨fun h => ⟨⟨h.buffer_bound, h.places_bound, h.busy_bound, h.one_notice, h.sends_first, h.counters_bound⟩, h.no_idle_place⟩,
    fun ⟨h, hidle⟩ => ⟨h.buffer_bound, h.places_bound, hidle, h.busy_bound, h.one_notice, h.sends_first, h.counters_bound⟩⟩

namespace State.LinkBounded

variable {s t : State}

/-- The receiver, the timer and the counters are no frames and no requests. -/
theorem of_frames (hs : s.LinkBounded) (hbuffer : t.sli.buffer = s.sli.buffer) (hleaving : t.sli.leaving = s.sli.leaving)
    (hwaiting : t.sli.waiting = s.sli.waiting) (hcounters : t.sli.counters.Bounded) : t.LinkBounded where
  buffer_bound := hbuffer ▸ hs.buffer_bound
  places_bound := by
    rw [State.repliesHeld, State.queuedFrames, hleaving, hwaiting]
    exact hs.places_bound
  busy_bound := by rw [State.busyWaiting, hwaiting]; exact hs.busy_bound
  one_notice c := by rw [State.noticesWaiting, hwaiting]; exact hs.one_notice c
  sends_first h := hwaiting.trans (hs.sends_first (hleaving.symm.trans h))
  counters_bound := hcounters

/-- Replies for which places are free, and notices, keep the bounds. -/
theorem sends (hs : s.LinkBounded) {k : Nat} (h : s.Sends k t) (hfree : s.repliesHeld + k ≤ 2) : t.LinkBounded where
  buffer_bound := h.buffer ▸ hs.buffer_bound
  places_bound := h.held.trans_le hfree
  busy_bound := h.busy.trans hs.busy_bound
  one_notice c := (h.notices c).trans (max_le le_rfl (hs.one_notice c))
  sends_first := h.sends_first hs.sends_first
  counters_bound := h.counters.elim (fun hc => hc ▸ hs.counters_bound) fun hc => hc ▸ LinkCounters.reset_bounded

/-- A BUSY_LINK reply joins fewer than 8 of these that wait (R188). -/
theorem placeBusy (hs : s.LinkBounded) {f : Frame} (hf : f.cls = .busy) (hfew : s.busyWaiting < 8) :
    (s.placeFrame f).LinkBounded where
  buffer_bound := by rw [s.placeFrame_buffer]; exact hs.buffer_bound
  places_bound := by rw [s.placeFrame_repliesHeld, if_neg (by rw [hf]; nofun)]; exact hs.places_bound
  busy_bound := by
    have hle := s.placeFrame_waitingOf_le f .busy
    rw [if_pos hf] at hle
    exact hle.trans hfew
  one_notice c := by
    have hle := s.placeFrame_waitingOf_le f (.notice c)
    rw [if_neg (by rw [hf]; nofun)] at hle
    exact hle.trans (hs.one_notice c)
  sends_first := s.placeFrame_sendsFirst f
  counters_bound := by rw [s.placeFrame_counters]; exact hs.counters_bound

/-- A request joins the buffer, or with 8 held is counted and may meet a BUSY_LINK reply (R188). -/
theorem bufferRequest (hs : s.LinkBounded) (f : RequestFrame) : (s.bufferRequest f).LinkBounded := by
  unfold State.bufferRequest
  split
  · next hroom =>
    have hjoined : (s.sli.buffer ++ [f]).length ≤ 8 := by simpa using hroom
    exact ⟨hjoined, hs.places_bound, hs.busy_bound, hs.one_notice, hs.sends_first, hs.counters_bound⟩
  · obtain ⟨hlength, hoverlong, hcrc, hkind, -⟩ := hs.counters_bound
    have hcounted : State.LinkBounded (s.setSli { s.sli with
        counters := { s.sli.counters with busyAnswers := min 65535 (s.sli.counters.busyAnswers + 1) } }) :=
      hs.of_frames rfl rfl rfl ⟨hlength, hoverlong, hcrc, hkind, min_le_left _ _⟩
    dsimp only
    split
    · next hfew => exact hcounted.placeBusy rfl hfew
    · exact hcounted

/-- The frame behind the leaving one begins to leave (R190). -/
theorem nextFrame (hs : s.LinkBounded) : s.nextFrame.LinkBounded := by
  unfold State.nextFrame
  split
  · next hnone =>
    have hempty : (s.setSli { s.sli with leaving := none }).repliesHeld ≤ s.repliesHeld := by
      simp [State.repliesHeld, State.queuedFrames, hnone]
    exact ⟨hs.buffer_bound, hempty.trans hs.places_bound, hs.busy_bound, hs.one_notice, fun _ => hnone, hs.counters_bound⟩
  · next f rest hwaiting =>
    have hfewer (p : Frame → Bool) : (rest.filter p).length ≤ (s.sli.waiting.filter p).length :=
      ((hwaiting ▸ List.sublist_cons_self f rest).filter p).length_le
    have hheld : (s.setSli { s.sli with leaving := some f, waiting := rest }).repliesHeld ≤ s.repliesHeld := by
      simp [State.repliesHeld, State.queuedFrames, hwaiting]
    exact ⟨hs.buffer_bound, hheld.trans hs.places_bound, (hfewer _).trans hs.busy_bound,
      fun c => (hfewer _).trans (hs.one_notice c), nofun, hs.counters_bound⟩

/-- When all requests that can be taken have been taken, none waits beside a free reply place (R189). -/
theorem drain : ∀ (n : Nat) {s : State}, s.LinkBounded → s.sli.buffer.length ≤ n → (State.drain n s).LinkLawful
  | 0, _, hs, hn => State.linkLawful_iff.mpr ⟨hs, .inl (List.eq_nil_of_length_eq_zero (Nat.le_zero.mp hn))⟩
  | n + 1, s, hs, hn => by
    unfold State.drain
    split
    · next hnone => exact State.linkLawful_iff.mpr ⟨hs, .inl hnone⟩
    · next f rest hbuffer =>
      have hbound := hs.buffer_bound
      rw [hbuffer, List.length_cons] at hbound hn
      split
      · next hfree =>
        have hshorter : State.LinkBounded (s.setSli { s.sli with buffer := rest }) :=
          ⟨(Nat.le_succ _).trans hbound, hs.places_bound, hs.busy_bound, hs.one_notice, hs.sends_first, hs.counters_bound⟩
        have hsends := State.takeFrame_sends (s.setSli { s.sli with buffer := rest }) f
        refine drain n (hshorter.sends hsends hfree) ?_
        rw [hsends.buffer]
        exact Nat.le_of_succ_le_succ hn
      · next hfull => exact State.linkLawful_iff.mpr ⟨hs, .inr (le_antisymm hs.places_bound (not_lt.mp hfull))⟩

end State.LinkBounded

theorem State.bufferRequest_repliesHeld (s : State) (f : RequestFrame) : (s.bufferRequest f).repliesHeld = s.repliesHeld := by
  unfold State.bufferRequest
  split
  · rfl
  · dsimp only
    split
    · rw [State.placeFrame_repliesHeld, if_neg nofun]
      rfl
    · rfl

/-! ### The law of the line -/

namespace State.LinkLawful

variable {s t : State}

theorem bounded (hs : s.LinkLawful) : s.LinkBounded := (State.linkLawful_iff.mp hs).1

theorem of_frames (hs : s.LinkLawful) (hbuffer : t.sli.buffer = s.sli.buffer) (hleaving : t.sli.leaving = s.sli.leaving)
    (hwaiting : t.sli.waiting = s.sli.waiting) (hcounters : t.sli.counters.Bounded) : t.LinkLawful := by
  refine State.linkLawful_iff.mpr ⟨hs.bounded.of_frames hbuffer hleaving hwaiting hcounters, ?_⟩
  rw [State.repliesHeld, State.queuedFrames, hbuffer, hleaving, hwaiting]
  exact hs.no_idle_place

theorem of_sli (hs : s.LinkLawful) (h : t.sli = s.sli) : t.LinkLawful :=
  hs.of_frames (by rw [h]) (by rw [h]) (by rw [h]) (h ▸ hs.counters_bound)

/-- What sends notices alone keeps the law. -/
theorem raised (hs : s.LinkLawful) (h : s.RaisesTo t) : t.LinkLawful :=
  State.linkLawful_iff.mpr ⟨hs.bounded.sends h.sends hs.places_bound, by
    rw [h.sends.buffer, h.sends.held]
    exact hs.no_idle_place⟩

/-- While a reply place is free no request waits, so a taking leaves none (R189). -/
theorem replied (hs : s.LinkLawful) (hfree : s.repliesHeld < 2) (h : s.Sends 1 t) : t.LinkLawful :=
  State.linkLawful_iff.mpr ⟨hs.bounded.sends h hfree, .inl (h.buffer.trans (hs.no_idle_place.resolve_right hfree.ne))⟩

/-- With both reply places held a request may wait (R190). -/
theorem waits (hs : s.LinkLawful) (hfull : ¬ s.repliesHeld < 2) (f : RequestFrame) : (s.bufferRequest f).LinkLawful :=
  State.linkLawful_iff.mpr ⟨hs.bounded.bufferRequest f,
    .inr ((s.bufferRequest_repliesHeld f).trans (le_antisymm hs.places_bound (not_lt.mp hfull)))⟩

theorem takeBuffered (hs : s.LinkBounded) : s.takeBuffered.LinkLawful := hs.drain _ le_rfl

theorem fullReset (s : State) (source : ResetSource) : (s.makeFullReset source).LinkLawful :=
  ⟨Nat.zero_le 8, Nat.zero_le 2, .inl rfl, Nat.zero_le 8, fun _ => Nat.zero_le 1, nofun, LinkCounters.reset_bounded⟩

/-! #### Arrivals (R185 to R188) -/

theorem setReceiver (hs : s.LinkLawful) (r : Receiver) : (s.setReceiver r).LinkLawful :=
  hs.of_frames rfl rfl rfl hs.counters_bound

/-- An error is counted (R187). -/
theorem mapCounters (hs : s.LinkLawful) {f : LinkCounters → LinkCounters} (h : (f s.sli.counters).Bounded) :
    (s.mapCounters f).LinkLawful := hs.of_frames rfl rfl rfl h

theorem lengthError (hs : s.LinkLawful) :
    (s.mapCounters fun c => { c with lengthErrors := sat16 c.lengthErrors }).LinkLawful := by
  obtain ⟨-, hoverlong, hcrc, hkind, hbusy⟩ := hs.counters_bound
  exact hs.mapCounters ⟨sat16_le _, hoverlong, hcrc, hkind, hbusy⟩

theorem dropOverlong (hs : s.LinkLawful) : s.dropOverlong.LinkLawful := by
  unfold State.dropOverlong
  split
  · obtain ⟨hlength, -, hcrc, hkind, hbusy⟩ := hs.counters_bound
    exact (hs.mapCounters ⟨hlength, sat16_le _, hcrc, hkind, hbusy⟩).setReceiver _
  · exact hs

theorem restartTimer (hs : s.LinkLawful) : s.restartTimer.LinkLawful := by
  unfold State.restartTimer
  split
  · exact hs
  · exact hs.of_frames rfl rfl rfl hs.counters_bound

theorem judgeFrame (hs : s.LinkLawful) (kind code tag : Nat) (payload : List Byte) (crc : Nat) :
    (s.judgeFrame kind code tag payload crc).LinkLawful := by
  obtain ⟨hlength, hoverlong, hcrc, hkind, hbusy⟩ := hs.counters_bound
  unfold State.judgeFrame
  split
  · exact hs.lengthError
  split
  · exact hs.mapCounters ⟨hlength, hoverlong, sat16_le _, hkind, hbusy⟩
  split
  · exact hs.mapCounters ⟨hlength, hoverlong, hcrc, sat16_le _, hbusy⟩
  · exact takeBuffered (hs.restartTimer.bounded.bufferRequest _)

theorem headerTaken (hs : s.LinkLawful) (start : Nat) (header : List Byte) : (s.headerTaken start header).LinkLawful := by
  unfold State.headerTaken
  dsimp only
  split
  · exact hs.lengthError.setReceiver _
  · split <;> exact hs.setReceiver _

theorem takeByte (hs : s.LinkLawful) (b : Byte) : (s.takeByte b).LinkLawful := by
  unfold State.takeByte
  split
  case h_1 =>
    split
    · exact hs.setReceiver _
    · exact hs
  case h_2 => (repeat' split) <;> exact hs.setReceiver _
  case h_3 =>
    dsimp only
    split
    · exact hs.setReceiver _
    · exact hs.headerTaken _ _
  case h_4 => dsimp only; split <;> exact hs.setReceiver _
  case h_5 =>
    dsimp only
    split
    · exact hs.setReceiver _
    · exact (hs.setReceiver .hunt).judgeFrame _ _ _ _ _

/-! #### The rows -/

/-- A row of the line keeps the law. -/
theorem lineRow {c : Instr} (hline : isLineRow c = true) (hs : s.LinkLawful) : NextIn State.LinkLawful (exec c s) := by
  have htick (at' : Nat) : (s.tick at').LinkLawful := hs.of_sli rfl
  cases c <;> first | contradiction | skip
  case unknownRequest code tag =>
    exact .ite (fun hfree => .next (hs.replied hfree (s.takeFrame_sends _))) fun hfull => .next (hs.waits hfull _)
  case requestArrival kind code tag payload crc at' =>
    exact .next (((htick at').dropOverlong.setReceiver .hunt).judgeFrame _ _ _ _ _)
  case overlongFrame at' => exact .next (htick at').dropOverlong
  case frameSent => exact .ite (fun _ => .next (takeBuffered hs.bounded.nextFrame)) fun _ => .next hs
  case supervisionExpiry at' =>
    exact .ite (fun _ => .next ((htick at').raised (State.applyAction_raisesTo _ _ _ _)).restartTimer) fun _ => .next (htick at')
  case fullReset source => exact .next (fullReset s source)
  case receivedByte b at' =>
    exact .ite (fun _ => .next ((htick at').takeByte b)) fun _ => .next ((htick at').dropOverlong.takeByte b)

/-- A request's row is its taking with a reply place free, or its waiting; the other rows raise causes or are the line's. -/
theorem row (c : Instr) (hs : s.LinkLawful) : NextIn State.LinkLawful (exec c s) := by
  cases hc : c.asRequest with
  | none =>
    cases hline : isLineRow c with
    | true => exact hs.lineRow hline
    | false => exact (exec_raisesTo hc hline s).imp fun h => hs.raised h
  | some pair =>
    obtain ⟨tag, r⟩ := pair
    rw [exec_eq_takeRequest hc]
    split
    · next hfree => exact .next (hs.replied hfree (s.takeRequest_sends tag r))
    · next hfull => exact .next (hs.waits hfull _)

theorem of_step (hs : s.LinkLawful) (h : step s = .next t) : t.LinkLawful := by
  rcases step_cases h with ⟨-, rfl⟩ | ⟨c, rest, -, h⟩
  · exact hs
  · have hrest : State.LinkLawful { s with pending := rest } := hs.of_sli rfl
    exact (h ▸ hrest.row c).of_next

end State.LinkLawful

/-- Settles O59: a taking places one reply where a place is free, all else places notices, and an arrival or a sent frame is
followed by all takings that are possible. -/
theorem stepKeepsLinkLawful : Obligations.StepKeepsLinkLawful := fun _ _ hs h => hs.of_step h

end Sys2Proof.Machine
end

section
/-! A taking accepts the request, or refuses it and leaves the part as it was (R191). -/

namespace Sys2Proof.Machine

open Sys2Proof

/-- What a block may answer: OK in whatever state its effect leads to, or any status in the state as it was. -/
inductive State.Answers (s : State) : State × Reply → Prop
  | accepted (t : State) (fields : List Byte) : Answers s (t, { status := .ok, fields := fields })
  | refused (st : Status) (fields : List Byte) : Answers s (s, { status := st, fields := fields })

theorem State.Answers.unchanged {s : State} {a : State × Reply} (h : s.Answers a) (hst : a.2.status ≠ .ok) : a.1 = s := by
  cases h with
  | accepted => exact absurd rfl hst
  | refused => rfl

/-- Every taking ends in an acceptance or in a refusal of the state it began in. -/
theorem takingOf_answers (r : Request) (s : State) : s.Answers (takingOf r s) := by
  cases r
  case storeInfo | readDone | readEngine | acknowledgeChannels | captureInfo | queryIdentity => exact .accepted _ _
  case openClip | clipData | closeClip | freeClip | clipInfo =>
    simp only [takingOf, takeOpenClip, takeClipData, takeCloseClip, takeFreeClip, takeClipInfo]
    (repeat' split) <;> constructor
  case appendEntry | modifyEntry | flushQueue | readQueue | advanceWatch =>
    simp only [takingOf, takeAppendEntry, takeModifyEntry, takeFlushQueue, takeReadQueue, takeAdvanceWatch]
    (repeat' split) <;> constructor
  case start | pause | resume | stop | clearTrip | setRamp | setTimebase =>
    simp only [takingOf, takeStart, takePause, takeResume, takeStop, takeClearTrip, takeSetRamp, takeSetTimebase]
    (repeat' split) <;> constructor
  case configureChannel | writeGainSet | readGainSet | configureLimits =>
    simp only [takingOf, takeConfigureChannel, takeWriteGainSet, takeReadGainSet, takeConfigureLimits]
    (repeat' split) <;> constructor
  case channelPowerOn | channelPowerOff | setChannelOwner | engage | release | readChannel =>
    simp only [takingOf, takeChannelPowerOn, takeChannelPowerOff, takeSetChannelOwner, takeEngage, takeRelease, takeReadChannel]
    (repeat' split) <;> constructor
  case setRigMode =>
    simp only [takingOf, takeSetRigMode, takeRigModeReplay, takeRigModeLocal]
    (repeat' split) <;> constructor
  case configureMark | setMarkOutput | readMark =>
    simp only [takingOf, takeConfigureMark, takeSetMarkOutput, takeReadMark]
    (repeat' split) <;> constructor
  case configureCapture | captureTrigger | abortCapture | readCapture =>
    simp only [takingOf, takeConfigureCapture, takeCaptureTrigger, takeAbortCapture, takeReadCapture]
    (repeat' split) <;> constructor
  case enableEvents | takeEvent | setSupervision | queryStatus | resetPart =>
    simp only [takingOf, takeEnableEvents, takeTakeEvent, takeSetSupervision, takeQueryStatus, takeResetPart]
    (repeat' split) <;> constructor

/-- Settles O4: a taking that does not accept has refused. -/
theorem refusedRequestsChangeNothing : Obligations.RefusedRequestsChangeNothing := fun r s hst =>
  (takingOf_answers r s).unchanged hst

end Sys2Proof.Machine
end

section
/-! The fields of a payload: each field is read back from its place, and so is each request from its code and payload (R198 to
R200). -/

namespace Sys2Proof.Machine

open Sys2Proof

/-! ### Numbers (R198) -/

@[simp] theorem beBytes_length : ∀ n v : Nat, (beBytes n v).length = n
  | 0, _ => rfl
  | n + 1, v => congrArg Nat.succ (beBytes_length n v)

/-- The bytes of a number, read on from a number already read. -/
theorem foldl_beBytes : ∀ n v acc : Nat,
    (beBytes n v).foldl (fun acc b => acc * 256 + b.toNat) acc = acc * 256 ^ n + v % 256 ^ n
  | 0, v, acc => by simp [beBytes, Nat.mod_one]
  | n + 1, v, acc => by
    rw [beBytes, List.foldl_cons, foldl_beBytes n v, Nat.mod_pow_succ, BitVec.toNat_ofNat, pow_succ 256 n]
    ring

theorem beValue_beBytes {n v : Nat} (h : v < 256 ^ n) : beValue (beBytes n v) = v := by
  rw [beValue, foldl_beBytes, zero_mul, zero_add, Nat.mod_eq_of_lt h]

/-! ### Fields at their places -/

/-- A number stands at the front of the bytes that follow it. -/
theorem field_front {n v : Nat} (h : v < 256 ^ n) (rest : List Byte) : field (beBytes n v ++ rest) 0 n = v := by
  rw [field, List.drop_zero, List.take_left' (beBytes_length n v), beValue_beBytes h]

theorem field_only {n v : Nat} (h : v < 256 ^ n) : field (beBytes n v) 0 n = v := by
  simpa using field_front h []

/-- A place behind some bytes is counted from their end. -/
theorem field_behind {front : List Byte} {place : Nat} (h : front.length ≤ place) (n : Nat) (rest : List Byte) :
    field (front ++ rest) place n = field rest (place - front.length) n := by
  rw [field, List.drop_append, List.drop_eq_nil_of_le h, List.nil_append, field]

theorem drop_behind {front : List Byte} {place : Nat} (h : front.length ≤ place) (rest : List Byte) :
    (front ++ rest).drop place = rest.drop (place - front.length) := by
  rw [List.drop_append, List.drop_eq_nil_of_le h, List.nil_append]

@[simp] theorem countBytes_length (v : Int) : (countBytes v).length = 2 := beBytes_length 2 _

/-- A count is read back from its pattern. -/
theorem countField_front {v : Int} (hlow : -32768 ≤ v) (hhigh : v ≤ 32767) (rest : List Byte) :
    countField (countBytes v ++ rest) 0 = v := by
  rw [countField, countBytes, field_front (countPattern v).isLt, BitVec.ofNat_toNat, BitVec.setWidth_eq, countPattern,
    BitVec.toInt_ofInt]
  exact Int.bmod_eq_of_le (by omega) (by omega)

theorem countField_behind {front : List Byte} {place : Nat} (h : front.length ≤ place) (rest : List Byte) :
    countField (front ++ rest) place = countField rest (place - front.length) := by
  rw [countField, field_behind h, countField]

/-! ### Lists of points, gains and changes -/

theorem readPoints_pointBytes (p : Point) (rest : List Byte) : readPoints (pointBytes p ++ rest) = p :: readPoints rest := by
  have hbytes : (BitVec.ofNat 8 (p.toNat / 256) ++ BitVec.ofNat 8 p.toNat : BitVec 16) = p := by
    refine BitVec.eq_of_toNat_eq ?_
    have hlt := p.isLt
    rw [BitVec.toNat_append, ← Nat.shiftLeft_add_eq_or_of_lt (BitVec.isLt _), Nat.shiftLeft_eq]
    simp only [BitVec.toNat_ofNat]
    omega
  simpa [pointBytes, beBytes, readPoints] using hbytes

theorem readPoints_flatMap : ∀ points : List Point, readPoints (points.flatMap pointBytes) = points
  | [] => rfl
  | p :: rest => by rw [List.flatMap_cons, readPoints_pointBytes, readPoints_flatMap rest]

theorem pointBytes_length (p : Point) : (pointBytes p).length = 2 := beBytes_length 2 _

theorem readGains_flatMap {gains : List Nat} (h : ∀ g ∈ gains, g < 65536) : readGains (gains.flatMap (beBytes 2)) = gains := by
  induction gains with
  | nil => rfl
  | cons g rest ih =>
    have hg : (BitVec.ofNat 16 g).toNat = g := by simpa using h g (by simp)
    have hbytes : beBytes 2 g = pointBytes (BitVec.ofNat 16 g) := by rw [pointBytes, hg]
    rw [readGains, List.flatMap_cons, hbytes, readPoints_pointBytes, List.map_cons, hg]
    exact congrArg (g :: ·) (ih fun g' hg' => h g' (List.mem_cons_of_mem _ hg'))

/-- The bytes of a field change (R200). -/
def changeBytes (c : FieldChange) : List Byte := beBytes 1 c.field ++ beBytes 4 c.value

theorem changeBytes_length (c : FieldChange) : (changeBytes c).length = 5 := by simp [changeBytes]

theorem readChanges_changeBytes {c : FieldChange} (h : c.wf = true) (rest : List Byte) :
    readChanges (changeBytes c ++ rest) = c :: readChanges rest := by
  simp only [FieldChange.wf, byteWf, wordWf, Bool.and_eq_true, decide_eq_true_eq] at h
  obtain ⟨hfield, hvalue⟩ := h
  have hread : readChanges (changeBytes c ++ rest)
      = { field := (BitVec.ofNat 8 (c.field / 256 ^ 0)).toNat, value := beValue (beBytes 4 c.value) } :: readChanges rest := rfl
  rw [hread, beValue_beBytes hvalue, BitVec.toNat_ofNat, pow_zero, Nat.div_one, Nat.mod_eq_of_lt hfield]

theorem readChanges_flatMap {changes : List FieldChange} (h : ∀ c ∈ changes, c.wf = true) :
    readChanges (changes.flatMap changeBytes) = changes := by
  induction changes with
  | nil => rfl
  | cons c rest ih =>
    rw [List.flatMap_cons, readChanges_changeBytes (h c (by simp)), ih fun c' hc' => h c' (List.mem_cons_of_mem _ hc')]


/-! ### The payloads of one length, kind or mode each (R200) -/

/-- A kind byte that names no kind leaves the fields unread. -/
theorem parseAppend_of_unknown {p : List Byte} (h : 4 ≤ field p 0 1) (hlength : 3 ≤ p.length ∧ p.length ≤ 16) :
    parseAppend p = .request (.appendEntry (.unknown (field p 0 1) (p.drop 1))) := by
  unfold parseAppend
  rw [if_neg (by omega)]
  generalize field p 0 1 = kind at h ⊢
  obtain ⟨k, rfl⟩ := Nat.exists_eq_add_of_le' h
  exact if_pos hlength

theorem parseAppend_appendPayload {fields : AppendFields} (h : fields.wf = true) :
    parseAppend (appendPayload fields) = .request (.appendEntry fields) := by
  cases fields with
  | play | dwell | loopOpen | loopClose =>
    simp only [AppendFields.wf, byteWf, halfWf, wordWf, Bool.and_eq_true, decide_eq_true_eq] at h
    simp [parseAppend, appendPayload, fixedLength, field_front, field_behind, field_only, h]
  | unknown kind body =>
    simp only [AppendFields.wf, byteWf, Bool.and_eq_true, decide_eq_true_eq] at h
    obtain ⟨⟨⟨hunknown, hkind⟩, hshort⟩, hlong⟩ := h
    have hfield : field (appendPayload (.unknown kind body)) 0 1 = kind := field_front hkind body
    rw [parseAppend_of_unknown (hunknown.trans_eq hfield.symm) (by simp only [appendPayload, List.length_append, beBytes_length]; omega),
      hfield]
    rfl

/-- A mode byte that names no mode leaves the fields unread. -/
theorem parseMark_of_unknown {p : List Byte} (h : 3 ≤ field p 1 1) (hlength : 2 ≤ p.length ∧ p.length ≤ 9) :
    parseMark p = .request (.configureMark (.unknown (field p 0 1) (field p 1 1) (p.drop 2))) := by
  unfold parseMark
  rw [if_neg (by omega)]
  generalize field p 1 1 = mode at h ⊢
  obtain ⟨m, rfl⟩ := Nat.exists_eq_add_of_le' h
  exact if_pos hlength

theorem parseMark_markPayload {fields : MarkFields} (h : fields.wf = true) :
    parseMark (markPayload fields) = .request (.configureMark fields) := by
  cases fields with
  | off | compare | capture =>
    simp only [MarkFields.wf, byteWf, wordWf, Bool.and_eq_true, decide_eq_true_eq] at h
    simp [parseMark, markPayload, fixedLength, field_front, field_behind, field_only, h]
  | unknown unit mode body =>
    simp only [MarkFields.wf, byteWf, Bool.and_eq_true, decide_eq_true_eq] at h
    obtain ⟨⟨⟨hunit, hunknown⟩, hmode⟩, hlong⟩ := h
    have hpayload : markPayload (.unknown unit mode body) = beBytes 1 unit ++ (beBytes 1 mode ++ body) := List.append_assoc _ _ _
    have hfield : field (markPayload (.unknown unit mode body)) 1 1 = mode := by
      rw [hpayload, field_behind (by simp)]
      exact field_front hmode body
    rw [parseMark_of_unknown (hunknown.trans_eq hfield.symm) (by simp only [hpayload, List.length_append, beBytes_length]; omega), hfield,
      hpayload, field_front hunit]
    rfl

theorem parseClipData_payload {id offset : Nat} {points : List Point} (h : Request.wf (.clipData id offset points) = true) :
    parseClipData (requestPayload (.clipData id offset points)) = .request (.clipData id offset points) := by
  simp only [Request.wf, byteWf, wordWf, Bool.and_eq_true, decide_eq_true_eq] at h
  obtain ⟨⟨hid, hoffset⟩, hpoints⟩ := h
  have hcount : points.length < 65536 := by omega
  simp [parseClipData, requestPayload, field_front, field_behind, drop_behind, hid, hoffset, hcount, readPoints_flatMap,
    pointBytes_length]
  omega

theorem parseModify_payload {entry : Nat} {changes : List FieldChange} (h : Request.wf (.modifyEntry entry changes) = true) :
    parseModify (requestPayload (.modifyEntry entry changes)) = .request (.modifyEntry entry changes) := by
  simp only [Request.wf, halfWf, Bool.and_eq_true, decide_eq_true_eq, List.all_eq_true] at h
  obtain ⟨⟨hentry, hfew⟩, hchanges⟩ := h
  have hcount : changes.length < 256 := by omega
  have hbytes : requestPayload (.modifyEntry entry changes)
    = beBytes 2 entry ++ (beBytes 1 changes.length ++ changes.flatMap changeBytes) := by simp [requestPayload]; rfl
  simp [parseModify, hbytes, field_front, field_behind, drop_behind, hentry, hcount, readChanges_flatMap hchanges,
    changeBytes_length]
  omega

theorem parseRequest_writeGainSet {set : Nat} {gains : List Nat} (h : Request.wf (.writeGainSet set gains) = true) :
    parseRequest 0x41 (requestPayload (.writeGainSet set gains)) = .request (.writeGainSet set gains) := by
  simp only [Request.wf, byteWf, halfWf, Bool.and_eq_true, decide_eq_true_eq, List.all_eq_true] at h
  obtain ⟨⟨hset, hsixteen⟩, hgains⟩ := h
  simp [requestPayload, parseRequest, fixedLength, field_front, readGains_flatMap hgains, hset, hsixteen]

/-- Settles O49: a payload without fields, one whose length its own bytes give, or fields at fixed places, each as wide as its
place. -/
theorem requestEncodingRoundTrip : Obligations.RequestEncodingRoundTrip := by
  intro r hr
  cases r
  case storeInfo | flushQueue | advanceWatch | start | pause | resume | stop | clearTrip | readEngine | captureTrigger
      | abortCapture | captureInfo | takeEvent | queryIdentity | resetPart => rfl
  case appendEntry => exact parseAppend_appendPayload hr
  case configureMark => exact parseMark_markPayload hr
  case clipData => exact parseClipData_payload hr
  case modifyEntry => exact parseModify_payload hr
  case writeGainSet => exact parseRequest_writeGainSet hr
  case configureChannel | configureLimits =>
    simp only [Request.wf, LimitFields.wf, byteWf, halfWf, countWf, Bool.and_eq_true, decide_eq_true_eq] at hr
    simp [requestCode, requestPayload, limitPayload, parseRequest, parseLimits, fixedLength, field_front, field_behind, field_only,
      countField_front, countField_behind, hr]
  case openClip | closeClip | freeClip | clipInfo | readQueue | readDone | setRamp | setTimebase | readGainSet | channelPowerOn
      | channelPowerOff | setRigMode | setChannelOwner | engage | release | acknowledgeChannels | readChannel | setMarkOutput
      | readMark | configureCapture | readCapture | enableEvents | setSupervision | queryStatus =>
    simp only [Request.wf, byteWf, halfWf, wordWf, Bool.and_eq_true, decide_eq_true_eq] at hr
    simp [requestCode, requestPayload, parseRequest, fixedLength, field_front, field_behind, field_only, hr]

end Sys2Proof.Machine
end

section
/-! The receiver: a frame that arrives byte by byte is judged as the frame that arrives at once (R185, R186). -/

namespace Sys2Proof.Machine

open Sys2Proof

/-! ### Bytes at one moment -/

theorem State.received_cons {s t : State} {b : Byte} {at' : Nat} (h : exec (.receivedByte b at') s = .next t) (rest : List Byte) :
    s.received (b :: rest) at' = t.received rest at' := by
  simp only [State.received, List.foldl_cons, h]

theorem State.received_append {s t : State} {front : List Byte} {at' : Nat} (h : s.received front at' = .next t)
    (rest : List Byte) : s.received (front ++ rest) at' = t.received rest at' := by
  simp only [State.received] at h ⊢
  rw [List.foldl_append, h]

/-- At the moment it has reached, the clock stands. -/
theorem State.tick_of_le {s : State} {at' : Nat} (h : at' ≤ s.clock) : s.tick at' = s := by
  rw [State.tick, max_eq_left h]

theorem State.dropOverlong_of_fresh {s : State} (h : s.frameOverlong = false) : s.dropOverlong = s := by
  rw [State.dropOverlong, h]
  rfl

/-- A byte of a frame that is not overlong is taken in the receiver's state, whatever is judged first. -/
theorem exec_receivedByte_of_fresh {s : State} {at' : Nat} (hfresh : (s.tick at').frameOverlong = false) (b : Byte) :
    exec (.receivedByte b at') s = .next ((s.tick at').takeByte b) := by
  show execReceivedByte b at' s = _
  simp only [execReceivedByte, State.dropOverlong_of_fresh hfresh, ite_self]

/-! ### The receiver's stages (R185) -/

@[simp] theorem State.setReceiver_setReceiver (s : State) (r r' : Receiver) :
    (s.setReceiver r).setReceiver r' = s.setReceiver r' := rfl

/-- A frame that begins at this moment is not overlong. -/
theorem State.frameOverlong_of_now {s : State} {r : Receiver} (h : r.frameStart = some s.clock) :
    (s.setReceiver r).frameOverlong = false := by
  unfold State.frameOverlong
  rw [State.setReceiver, State.setSli_sli, h]
  simp [Config.overlongTime]

theorem State.setReceiver_self {s : State} {r : Receiver} (h : s.sli.receiver = r) : s.setReceiver r = s := by
  rw [← h]
  rfl

theorem State.frameOverlong_of_no_start {s : State} (h : s.sli.receiver.frameStart = none) : s.frameOverlong = false := by
  rw [State.frameOverlong, h]

/-- In HUNT a byte is dropped unless it is the first sync byte. -/
theorem State.takeByte_of_hunt {s : State} (h : s.sli.receiver = .hunt) (b : Byte) :
    s.takeByte b = s.setReceiver (if b = 0x5A#8 then .sync s.clock else .hunt) := by
  unfold State.takeByte
  rw [h]
  dsimp only
  split
  · rfl
  · exact (State.setReceiver_self h).symm

/-- In SYNC the second sync byte begins the header, and the first one begins anew. -/
theorem State.takeByte_of_sync {s : State} {start : Nat} (h : s.sli.receiver = .sync start) (b : Byte) :
    s.takeByte b
      = s.setReceiver (if b = 0xC3#8 then .header start [] else if b = 0x5A#8 then .sync s.clock else .hunt) := by
  unfold State.takeByte
  rw [h]
  dsimp only
  split
  · rfl
  · split <;> rfl

theorem exec_receivedByte_of_hunt {s : State} (h : s.sli.receiver = .hunt) (b : Byte) (at' : Nat) :
    exec (.receivedByte b at') s
      = .next ((s.tick at').setReceiver (if b = 0x5A#8 then .sync (s.tick at').clock else .hunt)) := by
  have hhunt : (s.tick at').sli.receiver = .hunt := h
  rw [exec_receivedByte_of_fresh (State.frameOverlong_of_no_start (by rw [hhunt]; rfl)), State.takeByte_of_hunt hhunt]

theorem exec_receivedByte_of_sync {s : State} {start : Nat} (h : s.sli.receiver = .sync start) (b : Byte) (at' : Nat) :
    exec (.receivedByte b at') s
      = .next ((s.tick at').setReceiver
          (if b = 0xC3#8 then .header start [] else if b = 0x5A#8 then .sync (s.tick at').clock else .hunt)) := by
  have hsync : (s.tick at').sli.receiver = .sync start := h
  rw [exec_receivedByte_of_fresh (State.frameOverlong_of_no_start (by rw [hsync]; rfl)), State.takeByte_of_sync hsync]

/-- The two sync bytes begin a frame. -/
theorem State.received_sync {s : State} (h : s.sli.receiver = .hunt) (at' : Nat) :
    s.received [0x5A, 0xC3] at' = .next ((s.tick at').setReceiver (.header (s.tick at').clock [])) := by
  have hclock : at' ≤ (s.tick at').clock := le_max_right _ _
  have hfirst : exec (.receivedByte 0x5A at') s = .next ((s.tick at').setReceiver (.sync (s.tick at').clock)) :=
    exec_receivedByte_of_hunt h 0x5A at'
  have hsecond := exec_receivedByte_of_sync (s := (s.tick at').setReceiver (.sync (s.tick at').clock)) rfl 0xC3 at'
  rw [State.tick_of_le (s := (s.tick at').setReceiver (.sync (s.tick at').clock)) hclock] at hsecond
  rw [State.received_cons hfirst, State.received_cons hsecond]
  rfl

/-- The bytes of a stage of the receiver are collected until the stage has them all. -/
theorem State.received_stage {s : State} {at' : Nat} (hclock : at' ≤ s.clock) {stage : List Byte → Receiver} {n : Nat}
    {done : List Byte → State} (hstart : ∀ bytes, (stage bytes).frameStart = some s.clock)
    (hbyte : ∀ bytes b, (s.setReceiver (stage bytes)).takeByte b
      = if (bytes ++ [b]).length < n then s.setReceiver (stage (bytes ++ [b])) else done (bytes ++ [b])) :
    ∀ l bytes : List Byte, l ≠ [] → bytes.length + l.length = n →
      (s.setReceiver (stage bytes)).received l at' = .next (done (bytes ++ l))
  | [], _, hne, _ => absurd rfl hne
  | b :: rest, bytes, _, hn => by
    have hnow : (s.setReceiver (stage bytes)).tick at' = s.setReceiver (stage bytes) := State.tick_of_le hclock
    have htaken := exec_receivedByte_of_fresh (by rw [hnow]; exact State.frameOverlong_of_now (hstart bytes)) b
    rw [hnow, hbyte] at htaken
    rw [List.length_cons] at hn
    cases rest with
    | nil =>
      rw [if_neg (by simp at hn ⊢; omega)] at htaken
      exact State.received_cons htaken []
    | cons b' rest' =>
      rw [if_pos (by simp at hn ⊢; omega)] at htaken
      rw [State.received_cons htaken,
        State.received_stage hclock hstart hbyte (b' :: rest') (bytes ++ [b]) nofun (by simp at hn ⊢; omega), List.append_assoc]
      rfl

/-- The header is judged by its length field alone, wherever the receiver stood (R186). -/
theorem State.headerTaken_setReceiver (s : State) (r : Receiver) (start : Nat) (header : List Byte) :
    (s.setReceiver r).headerTaken start header = s.headerTaken start header := by
  unfold State.headerTaken
  dsimp only
  split
  · rfl
  · split <;> rfl

section frame

variable {s : State} {at' : Nat} (hclock : at' ≤ s.clock)
include hclock

theorem State.received_header {header : List Byte} (h : header.length = 6) :
    (s.setReceiver (.header s.clock [])).received header at' = .next (s.headerTaken s.clock header) :=
  State.received_stage hclock (stage := .header s.clock) (done := s.headerTaken s.clock) (fun _ => rfl)
    (fun bytes b => by rw [← State.headerTaken_setReceiver s (.header s.clock bytes)]; rfl) header []
    (by rintro rfl; cases h) (by simpa using h)

theorem State.received_payload {payload : List Byte} (header : List Byte) (h : payload ≠ []) :
    (s.setReceiver (.payload s.clock header payload.length [])).received payload at'
      = .next (s.setReceiver (.check s.clock header payload [])) :=
  State.received_stage hclock (stage := .payload s.clock header payload.length)
    (done := fun bytes => s.setReceiver (.check s.clock header bytes [])) (fun _ => rfl) (fun _ _ => rfl) payload [] h (by simp)

theorem State.received_check {check : List Byte} (header payload : List Byte) (h : check.length = 2) :
    (s.setReceiver (.check s.clock header payload [])).received check at' = .next (s.judgeReceived header payload check) :=
  State.received_stage hclock (stage := .check s.clock header payload) (done := s.judgeReceived header payload) (fun _ => rfl)
    (fun _ _ => rfl) check [] (by rintro rfl; cases h) (by simpa using h)

/-- A header whose length field is that of the payload, the payload and the two CRC bytes are judged as a frame. -/
theorem State.received_frame {header payload check : List Byte} (hheader : header.length = 6)
    (hlength : field header 4 2 = payload.length) (hshort : payload.length ≤ 1024) (hcheck : check.length = 2) :
    (s.setReceiver (.header s.clock [])).received (header ++ (payload ++ check)) at' = .next (s.judgeReceived header payload check) := by
  rw [State.received_append (State.received_header hclock hheader)]
  unfold State.headerTaken
  dsimp only
  rw [hlength, if_neg (not_lt.mpr hshort)]
  by_cases hnone : payload = []
  · subst hnone
    exact State.received_check hclock header [] hcheck
  · rw [if_neg (by simpa using hnone), State.received_append (State.received_payload hclock header hnone)]
    exact State.received_check hclock header payload hcheck

end frame

/-- Settles O50: after the two sync bytes the header gives the payload's length, and with the CRC's last byte the frame is judged
with the kind, code and tag of its header. -/
theorem receiverRefinesArrival : Obligations.ReceiverRefinesArrival := by
  intro kind code tag crc at' payload s hkind hcode htag hcrc hshort hhunt
  have hcount : payload.length < 65536 := by omega
  generalize hheader : beBytes 1 kind ++ (beBytes 1 code ++ (beBytes 2 tag ++ beBytes 2 payload.length)) = header
  have hsplit : [0x5A, 0xC3] ++ coveredBytes kind code tag payload ++ beBytes 2 crc
      = [0x5A, 0xC3] ++ (header ++ (payload ++ beBytes 2 crc)) := by simp [← hheader, coveredBytes]
  have hsix : header.length = 6 := by simp [← hheader]
  have hlength : field header 4 2 = payload.length := by simp [← hheader, field_behind, field_only, hcount]
  have hclock : at' ≤ (s.tick at').clock := le_max_right _ _
  have hbytes : s.received ([0x5A, 0xC3] ++ coveredBytes kind code tag payload ++ beBytes 2 crc) at'
      = .next ((s.tick at').judgeReceived header payload (beBytes 2 crc)) := by
    rw [hsplit, State.received_append (State.received_sync hhunt at'),
      State.received_frame hclock hsix hlength hshort (beBytes_length 2 crc)]
  have hfresh : (s.tick at').dropOverlong = s.tick at' :=
    State.dropOverlong_of_fresh (State.frameOverlong_of_no_start (s := s.tick at') (congrArg Receiver.frameStart hhunt))
  have harrival : exec (.requestArrival kind code tag payload crc at') s
      = .next (((s.tick at').setReceiver .hunt).judgeFrame kind code tag payload crc) := by
    rw [← hfresh]
    rfl
  have hkindField : field header 0 1 = kind := by simp [← hheader, field_front, hkind]
  have hcodeField : field header 1 1 = code := by simp [← hheader, field_front, field_behind, hcode]
  have htagField : field header 2 2 = tag := by simp [← hheader, field_front, field_behind, htag]
  rw [hbytes, harrival, State.judgeReceived, hkindField, hcodeField, htagField, beValue_beBytes hcrc]

end Sys2Proof.Machine
end

section
/-! The requests of the link itself, and the law of every block after a full reset (R192, R195, R197, R199). -/

namespace Sys2Proof.Machine

open Sys2Proof

/-! ### Requests (R192, R195, R199) -/

/-- A code that names no request is judged so, whatever the payload. -/
theorem parseRequest_of_unknown {code : Nat} (h : code ∉ knownCodes) (p : List Byte) : parseRequest code p = .unknownCode := by
  unfold parseRequest
  split
  case h_47 => rfl
  all_goals exact absurd (by decide) h

theorem exec_unknownRequest_of_unknown {s : State} {code : Nat} (hfree : s.repliesHeld < 2) (h : code ∉ knownCodes) (tag : Nat) :
    exec (.unknownRequest code tag) s = .next (s.answered code tag .unknownRequest []) := by
  have htaken : s.takeFrame { code := code, tag := tag, payload := [] } = s.answered code tag .unknownRequest [] := by
    unfold State.takeFrame
    rw [parseRequest_of_unknown h]
    rfl
  show execUnknownRequest code tag s = _
  rw [execUnknownRequest, if_pos hfree, htaken]

/-- Settles O44: each request by its taking, answered. -/
theorem linkRequestsResult : Obligations.LinkRequestsResult := by
  intro tag s hfree
  refine ⟨?stopped, fun interval hlow hhigh hten => ?started, fun interval hne hout => ?refused, ?cleared,
    fun code h => exec_unknownRequest_of_unknown hfree h tag⟩
  case stopped => exact exec_of_taking (c := .setSupervision tag 0) rfl nofun hfree rfl
  case started =>
    exact exec_of_taking (c := .setSupervision tag interval) rfl nofun hfree
      ((if_neg (by omega)).trans (if_pos ⟨hlow, hhigh, hten⟩))
  case refused =>
    exact exec_of_taking (c := .setSupervision tag interval) rfl nofun hfree ((if_neg hne).trans (if_neg (by omega)))
  case cleared => exact exec_of_taking (c := .queryStatus tag 1) rfl nofun hfree rfl

/-! ### The state after reset (R197) -/

/-- The state after reset is what a full reset at power-on makes of it. -/
theorem State.makeFullReset_reset : State.reset.makeFullReset .powerOn = State.reset := by
  have hmarks : (State.reset.mu.mapIdx fun _ u => { MarkUnit.reset with input := u.input }) = State.reset.mu := by
    ext i hi
    simp [State.reset]
  rw [State.makeFullReset, hmarks]
  simp only [State.reset, ClipStore.reset, Engine.reset, PortUnit.reset]

theorem State.makeFullReset_captureLawful (s : State) (source : ResetSource) : (s.makeFullReset source).CaptureLawful :=
  State.captureLawful_iff.mpr (.of_empty nofun (absurd rfl) nofun rfl rfl rfl rfl)

theorem State.makeFullReset_localNotEngaged (s : State) (source : ResetSource) : (s.makeFullReset source).LocalNotEngaged :=
  fun ch _ _ => by rw [makeFullReset_port]; nofun

theorem State.makeFullReset_countsBounded (s : State) (source : ResetSource) : (s.makeFullReset source).CountsBounded :=
  .of_zero fun c => by rw [makeFullReset_cause]

/-- Settles O51: each law holds after a full reset. -/
theorem resetStateIsLawful : Obligations.ResetStateIsLawful := by
  have hpoints : State.reset.PointsCanonical := rfl
  unfold Obligations.ResetStateIsLawful
  rw [← State.makeFullReset_reset] at hpoints ⊢
  generalize State.reset = s at hpoints ⊢
  exact ⟨hpoints, s.makeFullReset_pagesPartitioned _, s.makeFullReset_refsLawful _,
    (State.queueLawful_iff _).mpr (numbered_keptByAgenda.empty _ rfl rfl), .of_idle rfl rfl, s.makeFullReset_localNotEngaged _,
    s.makeFullReset_countsBounded _, .fullReset s _, .fullReset s _, s.makeFullReset_captureLawful _,
    scheduled_keptByAgenda.empty _ rfl rfl⟩

end Sys2Proof.Machine
end

section
/-! The events of the line: an arriving frame and its request, a frame sent, an overlong frame, the timer's expiry, and a byte in
HUNT and SYNC (R185 to R193). -/

namespace Sys2Proof.Machine

open Sys2Proof

/-! ### The takings that are possible (R189) -/

theorem State.drain_of_empty {s : State} (h : s.sli.buffer = []) : ∀ n, State.drain n s = s
  | 0 => rfl
  | n + 1 => by rw [State.drain, h]

theorem State.drain_of_full {s : State} (h : ¬ s.repliesHeld < 2) : ∀ n, State.drain n s = s
  | 0 => rfl
  | n + 1 => by
    unfold State.drain
    split
    · rfl
    · exact if_neg h

/-- With one reply place free the oldest request is taken, whose reply takes the place. -/
theorem State.takeBuffered_of_one_free {s : State} {r : RequestFrame} {rest : List RequestFrame} (hbuffer : s.sli.buffer = r :: rest)
    (hone : s.repliesHeld = 1) : s.takeBuffered = (s.setSli { s.sli with buffer := rest }).takeFrame r := by
  have hheld := (State.takeFrame_sends (s.setSli { s.sli with buffer := rest }) r).held
  have hkept : (s.setSli { s.sli with buffer := rest }).repliesHeld = 1 := hone
  have htwo : ¬ ((s.setSli { s.sli with buffer := rest }).takeFrame r).repliesHeld < 2 := by omega
  rw [State.takeBuffered, hbuffer, List.length_cons, State.drain, hbuffer]
  dsimp only
  rw [if_pos (by rw [hone]; decide), State.drain_of_full htwo]

/-! ### A request arrives (R188, R193) -/

/-- The timer restarts with its interval, and stands while the interval is 0. -/
theorem State.restartTimer_eq_setSli (s : State) :
    s.restartTimer = s.setSli { s.sli with timerSince := if s.sli.interval = 0 then s.sli.timerSince else some s.clock } := by
  unfold State.restartTimer
  split <;> rfl

/-- With nothing waiting and a reply place free an arriving request is taken at once. -/
theorem State.takeBuffered_bufferRequest_of_idle {s : State} (hnone : s.sli.buffer = []) (hfree : s.repliesHeld < 2)
    (f : RequestFrame) : (s.bufferRequest f).takeBuffered = s.takeFrame f := by
  have hjoined : s.bufferRequest f = s.setSli { s.sli with buffer := [f] } := by
    rw [State.bufferRequest, if_pos (by rw [hnone]; decide), hnone]
    rfl
  have hleft : s.setSli { s.sli with buffer := [] } = s := by
    rw [← hnone]
    rfl
  rw [hjoined]
  calc State.takeBuffered (s.setSli { s.sli with buffer := [f] })
      = if s.repliesHeld < 2 then State.takeFrame (s.setSli { s.sli with buffer := [] }) f
        else s.setSli { s.sli with buffer := [f] } := rfl
    _ = s.takeFrame f := by rw [if_pos hfree, hleft]

/-- With both reply places held nothing is taken. -/
theorem State.takeBuffered_bufferRequest_of_full {s : State} (hfull : s.repliesHeld = 2) (f : RequestFrame) :
    (s.bufferRequest f).takeBuffered = s.bufferRequest f :=
  State.drain_of_full (by rw [s.bufferRequest_repliesHeld, hfull]; decide) _

/-! ### A frame arrives (R186) -/

/-- A frame in progress is overlong 20 milliseconds after its start. -/
theorem State.frameOverlong_iff (s : State) :
    s.frameOverlong = true ↔ ∃ start, s.sli.receiver.frameStart = some start ∧ start + 65536000 ≤ s.clock := by
  unfold State.frameOverlong
  split
  · next h => simp [h]
  · next start h => simp [h, Config.overlongTime]

theorem State.frameOverlong_eq (s : State) :
    s.frameOverlong = s.sli.receiver.frameStart.any fun start => decide (start + 65536000 ≤ s.clock) := by
  rw [Bool.eq_iff_iff, s.frameOverlong_iff, Option.any_eq_true]
  simp only [decide_eq_true_eq]

/-- The part as a frame arrives: the receiver hunts again, and the counters are `k`. -/
def State.atArrival (s : State) (at' : Nat) (k : LinkCounters) : State :=
  { s with clock := max s.clock at', sli := { s.sli with receiver := .hunt, counters := k } }

/-- A frame is judged after the frame in progress is counted, if that one has become overlong. -/
theorem exec_requestArrival {s : State} {at' : Nat} {k : LinkCounters}
    (hk : k = if s.sli.receiver.frameStart.any (fun start => decide (start + 65536000 ≤ max s.clock at')) then
        { s.sli.counters with overlong := min 65535 (s.sli.counters.overlong + 1) } else s.sli.counters)
    (kind code tag : Nat) (payload : List Byte) (crc : Nat) :
    exec (.requestArrival kind code tag payload crc at') s
      = .next ((s.atArrival at' k).judgeFrame kind code tag payload crc) := by
  have hstate : (s.tick at').dropOverlong.setReceiver .hunt = s.atArrival at' k := by
    rw [State.dropOverlong, State.frameOverlong_eq, State.tick_sli, State.tick_clock, hk]
    by_cases hover : s.sli.receiver.frameStart.any (fun start => decide (start + 65536000 ≤ max s.clock at')) = true
    · rw [if_pos hover, if_pos hover]
      rfl
    · rw [if_neg hover, if_neg hover]
      rfl
  rw [← hstate]
  rfl

/-- A frame that passes every check is a valid request. -/
theorem State.judgeFrame_of_valid {u : State} {crc code tag : Nat} {payload : List Byte} (hshort : payload.length ≤ 1024)
    (hcrc : crc = crc16 (coveredBytes 1 code tag payload)) :
    u.judgeFrame 1 code tag payload crc = u.validArrival { code := code, tag := tag, payload := payload } := by
  rw [State.judgeFrame, if_neg (not_lt.mpr hshort), if_neg (not_not.mpr hcrc), if_neg (not_not.mpr rfl)]

/-- Settles O45: the judgements in their order, and the buffer's three cases. -/
theorem requestArrivalResult : Obligations.RequestArrivalResult := by
  intro kind code tag crc at' payload k s hk
  refine ⟨fun hlong => ?length, fun hshort hcrc => ?crc, fun hshort hcrc hkind => ?kind, ?valid⟩
  case length =>
    rw [exec_requestArrival hk, State.judgeFrame, if_pos hlong]
    rfl
  case crc =>
    rw [exec_requestArrival hk, State.judgeFrame, if_neg (not_lt.mpr hshort), if_pos hcrc]
    rfl
  case kind =>
    rw [exec_requestArrival hk, State.judgeFrame, if_neg (not_lt.mpr hshort), if_neg (not_not.mpr hcrc), if_pos hkind]
    rfl
  case valid =>
    rintro timer hshort hcrc rfl htimer
    have hvalid : exec (.requestArrival 1 code tag payload crc at') s
        = .next (State.takeBuffered (State.bufferRequest
            { s with clock := max s.clock at', sli := { s.sli with receiver := .hunt, timerSince := timer, counters := k } }
            { code := code, tag := tag, payload := payload })) := by
      rw [exec_requestArrival hk, State.judgeFrame_of_valid hshort hcrc, State.validArrival, State.restartTimer_eq_setSli, htimer]
      rfl
    refine ⟨fun hnone hfree => ?taken, fun hroom hfull => ?joined, ?busy⟩
    case taken =>
      refine hvalid.trans (congrArg Host.Outcome.next (State.takeBuffered_bufferRequest_of_idle ?_ ?_ _))
      · exact hnone
      · exact hfree
    case joined =>
      refine hvalid.trans (congrArg Host.Outcome.next ((State.takeBuffered_bufferRequest_of_full ?_ _).trans (if_pos ?_)))
      · exact hfull
      · exact hroom
    case busy =>
      rintro hall hfull t rfl
      refine hvalid.trans (congrArg Host.Outcome.next ((State.takeBuffered_bufferRequest_of_full ?_ _).trans (if_neg ?_)))
      · exact hfull
      · exact not_lt.mpr hall.ge

/-! ### A frame is sent (R189, R190) -/

theorem State.nextFrame_eq_setSli (s : State) :
    s.nextFrame = s.setSli { s.sli with leaving := s.sli.waiting.head?, waiting := s.sli.waiting.tail } := by
  unfold State.nextFrame
  split
  · next h => simp [h]
  · next h => simp [h]

/-- The leaving frame was one of the replies held, or none of them. -/
theorem State.nextFrame_repliesHeld {s : State} {f : Frame} (h : s.sli.leaving = some f) :
    s.repliesHeld = s.nextFrame.repliesHeld + if f.cls = .reply then 1 else 0 := by
  have hqueue : s.queuedFrames = f :: s.nextFrame.queuedFrames := by
    rw [State.nextFrame_eq_setSli, State.queuedFrames, State.queuedFrames, h]
    cases s.sli.waiting <;> rfl
  rw [State.repliesHeld, hqueue, State.repliesHeld]
  by_cases hf : f.cls = .reply <;> simp [hf]

theorem exec_frameSent_of_leaving {s : State} {f : Frame} (h : s.sli.leaving = some f) :
    exec .frameSent s = .next s.nextFrame.takeBuffered := if_pos (by rw [h]; rfl)

/-- With no request waiting nothing is taken. -/
theorem exec_frameSent_of_empty {s : State} {f : Frame} (h : s.sli.leaving = some f) (hbuffer : s.sli.buffer = []) :
    exec .frameSent s = .next (s.setSli { s.sli with leaving := s.sli.waiting.head?, waiting := s.sli.waiting.tail }) := by
  have hnone : (s.setSli { s.sli with leaving := s.sli.waiting.head?, waiting := s.sli.waiting.tail }).sli.buffer = [] := hbuffer
  rw [exec_frameSent_of_leaving h, State.nextFrame_eq_setSli, State.takeBuffered, State.drain_of_empty hnone]

/-! ### The timer's expiry (R193) -/

/-- An expiry is a STOP, which leaves the interval, and the timer restarts with it. -/
theorem exec_supervisionExpiry_of_expired {s t : State} {at' since : Nat} (hinterval : s.sli.interval ≠ 0)
    (hsince : s.sli.timerSince = some since) (hexpired : since + s.sli.interval * 3276800 ≤ max s.clock at')
    (ht : (s.tick at').applyAction .stop .supervision none = t) :
    exec (.supervisionExpiry at') s = .next (t.setSli { t.sli with timerSince := some (max s.clock at') }) := by
  have htimer : (s.tick at').timerExpired = true := by
    rw [State.timerExpired, State.tick_sli, hsince]
    simp [hinterval, hexpired, Config.millisecond]
  have hrow : exec (.supervisionExpiry at') s = .next ((s.tick at').applyAction .stop .supervision none).restartTimer :=
    if_pos htimer
  have hkept : t.sli.interval = s.sli.interval :=
    ht ▸ congrArg Prod.fst ((s.tick at').applyAction_raisesTo .stop .supervision none).supervision
  have hclock : t.clock = max s.clock at' := ht ▸ (s.tick at').applyAction_clock .stop .supervision none
  rw [hrow, ht, State.restartTimer, if_neg (hkept.symm ▸ hinterval), hclock]

/-- Settles O46: each event by its rule, the expiry by what a STOP is in the engine's state. -/
theorem linkEventsResult : Obligations.LinkEventsResult := by
  intro at' s
  refine ⟨fun start hstart hlate => ?overlong, fun f g rest hleaving hwaiting hbuffer => ?next,
    fun f hleaving hwaiting hbuffer => ?last, ?waits, fun since hinterval hsince hexpired hstate => ?quiet,
    fun since hinterval hsince hexpired hstate => ?playing, fun b h => exec_receivedByte_of_hunt h b at',
    fun b start h => exec_receivedByte_of_sync h b at'⟩
  case overlong =>
    have hover : (s.tick at').frameOverlong = true := (State.frameOverlong_iff _).mpr ⟨start, hstart, hlate⟩
    exact congrArg Host.Outcome.next (if_pos hover)
  case next => rw [exec_frameSent_of_empty hleaving hbuffer, hwaiting]; rfl
  case last =>
    rw [exec_frameSent_of_empty hleaving hbuffer]
    simp [State.setSli, hwaiting]
  case waits =>
    rintro f r rest hleaving hbuffer htwo u rfl
    have hheld := State.nextFrame_repliesHeld hleaving
    rw [htwo, State.nextFrame_eq_setSli] at hheld
    rw [exec_frameSent_of_leaving hleaving, State.nextFrame_eq_setSli]
    refine ⟨fun hreply => ?_, fun hother => ?_⟩
    · rw [if_pos hreply] at hheld
      exact congrArg Host.Outcome.next (State.takeBuffered_of_one_free hbuffer (by omega))
    · rw [if_neg hother] at hheld
      exact congrArg Host.Outcome.next (State.drain_of_full (by omega) _)
  case quiet =>
    by_cases hpausing : s.pe.state = .rampOut ∧ s.pe.target = some .paused
    · obtain ⟨hout, htarget⟩ := hpausing
      rw [exec_supervisionExpiry_of_expired hinterval hsince hexpired
        (State.applyAction_stop_of_pausing (s := s.tick at') _ _ hout htarget)]
      simp [hout, htarget, State.setSli, State.tick]
    · have hrecorded : (s.tick at').actionApplies .stop = false := by
        rw [Bool.eq_false_iff, Ne, State.actionApplies_stop_iff, State.tick_pe]
        rintro (h | h | h | h)
        · simp [h] at hstate
        · simp [h] at hstate
        · exact hpausing h
        · simp [h] at hstate
      rw [exec_supervisionExpiry_of_expired hinterval hsince hexpired (State.applyAction_recorded hrecorded _ _)]
      simp [hpausing, State.setSli, State.setPe, State.tick]
  case playing =>
    refine ⟨_, exec_supervisionExpiry_of_expired hinterval hsince hexpired
      (State.applyAction_of_playing (s := s.tick at') _ _ hstate (.inr ⟨rfl, rfl⟩)), ?_⟩
    simp

end Sys2Proof.Machine
end

section
/-! Reset Part: its reply, and what the warm reset makes of each block (R196). -/

namespace Sys2Proof.Machine

open Sys2Proof

/-! ### The Clip Store's part (R43) -/

/-- A clip that a warm reset frees: its loading or its verification is not finished. -/
def Clip.unfinished (c : Clip) : Bool := c.state == .loading || c.state == .verifying

theorem Clip.unfinished_iff (c : Clip) : c.unfinished = true ↔ c.state = .loading ∨ c.state = .verifying := by
  simp [Clip.unfinished]

/-- What the freeing of the unfinished clips makes of a clip. -/
def Clip.reclaimed (c : Clip) : Clip := if c.unfinished then { Clip.reset with refs := c.refs } else c

/-- One clip under the freeing of the unfinished clips. -/
def State.reclaim (s : State) (id : Nat) : State := if (s.clip id).unfinished then s.freeClip id else s

/-- The verification order and the reference counts are cleared. -/
def State.clearOrder (s : State) : State :=
  { s with cs := { s.cs with order := [], clips := s.cs.clips.mapIdx fun _ c => { c with refs := 0 } } }

theorem State.warmResetClips_eq (s : State) :
    s.warmResetClips = ((List.range Config.clips).foldl State.reclaim s).clearOrder := by
  show State.clearOrder (List.foldl _ s _) = _
  refine congrArg (fun f => State.clearOrder (List.foldl f s (List.range Config.clips))) (funext₂ fun t id => ?_)
  unfold State.reclaim Clip.unfinished
  cases (t.clip id).state <;> rfl

theorem State.reclaim_clip_same (s : State) {id : Nat} (h : id < 64) : (s.reclaim id).clip id = (s.clip id).reclaimed := by
  unfold State.reclaim Clip.reclaimed
  split
  · exact s.clip_setClip_same id _ h
  · rfl

theorem State.reclaim_clip_other (s : State) {id j : Nat} (h : id ≠ j) : (s.reclaim id).clip j = s.clip j := by
  unfold State.reclaim
  split
  · exact s.clip_setClip_other id j _ h.symm
  · rfl

theorem State.mem_freePages_reclaim (s : State) (id p : Nat) :
    p ∈ (s.reclaim id).cs.freePages ↔ p ∈ s.cs.freePages ∨ ((s.clip id).unfinished = true ∧ p ∈ s.clipPages id) := by
  unfold State.reclaim
  split
  · next h =>
    have hmerged : p ∈ (s.freeClip id).cs.freePages ↔ p ∈ s.clipPages id ++ s.cs.freePages :=
      (mergePages_perm s.cs.freePages (s.clipPages id)).mem_iff
    simp [hmerged, h, or_comm]
  · next h => simp [h]

/-- The free pages after the unfinished clips of a list of distinct clips are freed: theirs have joined. -/
theorem State.mem_freePages_foldl_reclaim (p : Nat) : ∀ (l : List Nat) (s : State), l.Nodup →
    (p ∈ (l.foldl State.reclaim s).cs.freePages
      ↔ p ∈ s.cs.freePages ∨ ∃ id ∈ l, (s.clip id).unfinished = true ∧ p ∈ s.clipPages id)
  | [], s, _ => by simp
  | id :: rest, s, hnodup => by
    obtain ⟨hnot, hrest⟩ := List.nodup_cons.mp hnodup
    have hlater : (∃ j ∈ rest, ((s.reclaim id).clip j).unfinished = true ∧ p ∈ (s.reclaim id).clipPages j)
        ↔ ∃ j ∈ rest, (s.clip j).unfinished = true ∧ p ∈ s.clipPages j := by
      refine exists_congr fun j => and_congr_right fun hj => ?_
      have hsame := s.reclaim_clip_other (ne_of_mem_of_not_mem hj hnot).symm
      rw [hsame, State.clipPages_congr (congrArg Clip.load hsame)]
    rw [List.foldl_cons, mem_freePages_foldl_reclaim p rest _ hrest, hlater, s.mem_freePages_reclaim, or_assoc]
    simp only [List.mem_cons, or_and_right, exists_or, exists_eq_left]

namespace State

variable (s : State)

theorem warmReset_clip {id : Nat} (h : id < 64) : s.warmReset.clip id = { (s.clip id).reclaimed with refs := 0 } := by
  have hreclaimed : ((List.range Config.clips).foldl State.reclaim s).clip id = (s.clip id).reclaimed := by
    rw [foldl_at (view := fun t => t.clip id) (after := fun t => (t.clip id).reclaimed) id
      (fun t => t.reclaim_clip_same h) (fun t _ hne => t.reclaim_clip_other hne)
      (fun t _ hne => congrArg Clip.reclaimed (t.reclaim_clip_other hne)) _ s List.nodup_range]
    exact if_pos (List.mem_range.mpr h)
  rw [State.clip_congr id s.warmReset_cs, s.warmResetClips_eq, State.clearOrder, State.clip_cleared, hreclaimed]

/-- A clip whose loading and verification are done stays, without references (R43). -/
theorem warmReset_clip_finished {id : Nat} (h : id < 64) (hloading : (s.clip id).state ≠ .loading)
    (hverifying : (s.clip id).state ≠ .verifying) : s.warmReset.clip id = { s.clip id with refs := 0 } := by
  have hdone : ¬ (s.clip id).unfinished = true := by rw [Clip.unfinished_iff]; exact not_or.mpr ⟨hloading, hverifying⟩
  rw [s.warmReset_clip h, Clip.reclaimed, if_neg hdone]

/-- A clip that is LOADING or VERIFYING becomes FREE (R43). -/
theorem warmReset_clip_unfinished {id : Nat} (h : id < 64)
    (hstate : (s.clip id).state = .loading ∨ (s.clip id).state = .verifying) : s.warmReset.clip id = Clip.reset := by
  rw [s.warmReset_clip h, Clip.reclaimed, if_pos ((s.clip id).unfinished_iff.mpr hstate)]
  rfl

theorem warmReset_order : s.warmReset.cs.order = [] := by
  rw [s.warmReset_cs]
  rfl

theorem warmReset_points : s.warmReset.cs.points = s.cs.points := by
  rw [s.warmReset_cs]
  exact State.warmResetClips_induction (P := fun t => t.cs.points = s.cs.points) rfl
    (fun t id _ _ h => (t.freeClip_points id).trans h) fun _ h => h

theorem warmReset_mem_freePages (p : Nat) : p ∈ s.warmReset.cs.freePages
    ↔ p ∈ s.cs.freePages
      ∨ ∃ id, id < 64 ∧ ((s.clip id).state = .loading ∨ (s.clip id).state = .verifying) ∧ p ∈ s.clipPages id := by
  rw [s.warmReset_cs, s.warmResetClips_eq]
  simpa [Clip.unfinished_iff, State.clearOrder, Config.clips] using
    State.mem_freePages_foldl_reclaim p (List.range Config.clips) s List.nodup_range

/-! ### The other blocks' parts (R73, R122, R123, R142, R172, R183) -/

/-- The driven records, the elapsed time and the commands that wait are not the reset's. -/
theorem warmReset_kept : s.warmReset.dcu = s.dcu ∧ s.warmReset.clock = s.clock ∧ s.warmReset.pending = s.pending := by
  have hclips : s.warmResetClips.dcu = s.dcu ∧ s.warmResetClips.clock = s.clock ∧ s.warmResetClips.pending = s.pending :=
    State.warmResetClips_induction (P := fun t => t.dcu = s.dcu ∧ t.clock = s.clock ∧ t.pending = s.pending) ⟨rfl, rfl, rfl⟩
      (fun t id _ _ h => by simpa using h) fun _ h => h
  unfold State.warmReset
  dsimp only
  exact hclips

theorem warmReset_cpc :
    s.warmReset.cpc = { s.cpc with ports := s.cpc.ports.mapIdx fun _ p => p.warm } := rfl

theorem warmReset_rcu : s.warmReset.rcu = s.rcu.warm := rfl

theorem warmReset_port {ch : Nat} (h : ch < 16) : s.warmReset.port ch = (s.port ch).warm := by
  simp [State.warmReset, State.port, h]

theorem warmReset_limits {ch : Nat} (h : ch < 16) : s.warmReset.limits ch = (s.limits ch).warm := by
  simp [State.warmReset, State.limits, h]

theorem warmReset_mark {m : Nat} (h : m < 6) : s.warmReset.mark m = (s.mark m).warm := by
  simp [State.warmReset, State.mark, h]

theorem warmReset_cause (c : Cause) : s.warmReset.cause c = { s.cause c with count := 0, detail := none } :=
  State.cause_mapIdx (s := s) (f := fun _ c => { c with count := 0, detail := none }) rfl c

end State

theorem Port.warm_eq (p : Port) :
    p.warm = { p with changed := false, state := if p.state = .engaged then .standby else p.state } := by
  unfold Port.warm Port.disengaged
  split <;> rfl

/-! ### The request (R196) -/

theorem State.resettable_iff (s : State) : s.resettable = true ↔ s.pe.state = .idle ∨ s.pe.state = .tripped := by
  simp [State.resettable]

/-- A Reset Part taken in IDLE or TRIPPED: the reply, then the warm reset. -/
theorem State.performReset_of_resettable {s : State} (h : s.resettable = true) (tag : Nat) :
    s.performReset tag = (s.answered 0xA3 tag .ok []).warmReset := by
  rw [State.performReset, if_pos h, State.perform_eq_answered, takeResetPart, if_pos h]
  rfl

theorem State.performReset_of_not_resettable {s : State} (h : ¬ s.resettable = true) (tag : Nat) :
    s.performReset tag = s.answered 0xA3 tag .wrongState [] := by
  rw [State.performReset, if_neg h, State.perform_eq_answered, takeResetPart, if_neg h]
  rfl

/-- Settles O6: the reply, then the warm reset block by block, read in the state the reply leaves. -/
theorem resetPartResult : Obligations.ResetPartResult := by
  unfold Obligations.ResetPartResult
  intro tag s hfree
  have hexec : exec (.resetPart tag) s = .next (s.performReset tag) := if_pos hfree
  rw [hexec]
  refine ⟨fun hstate => ?_, fun hidle htripped => ?_⟩
  · rw [State.performReset_of_resettable (s.resettable_iff.mpr hstate)]
    generalize hu : s.answered 0xA3 tag .ok [] = u
    have hcs : u.cs = s.cs := hu ▸ s.answered_cs ..
    have hpe : u.pe = s.pe := hu ▸ s.answered_pe ..
    have hcpc : u.cpc = s.cpc := hu ▸ s.answered_cpc ..
    have hrcu : u.warmReset.rcu = s.rcu.warm := u.warmReset_rcu.trans (congrArg CaptureUnit.warm (hu ▸ s.answered_rcu ..))
    have hclip : ∀ id, u.clip id = s.clip id := fun id => State.clip_congr id hcs
    obtain ⟨hdcu, hclock, hpending⟩ := u.warmReset_kept
    refine ⟨_, rfl, u.warmReset_sli, rfl, congrArg Engine.warm hpe, hdcu.trans (hu ▸ s.answered_dcu ..),
      u.warmReset_points.trans (congrArg ClipStore.points hcs), u.warmReset_order, fun id hid hloading hverifying => ?_,
      fun id hid hunfinished => ?_, fun hpages => ⟨?_, fun p => ?_⟩, ?_, ?_, fun ch hch => ?_,
      fun ch hch => ?_, fun m hm => ?_, ?_, ?_, rfl, rfl, rfl, rfl, congrArg CaptureUnit.state hrcu, fun c => ?_, rfl,
      hclock.trans (hu ▸ s.answered_clock ..), hpending.trans (hu ▸ s.answered_pending ..)⟩
    · rw [← hclip id] at hloading hverifying ⊢
      exact u.warmReset_clip_finished hid hloading hverifying
    · exact u.warmReset_clip_unfinished hid (by rwa [hclip id])
    · exact (pagesPartitioned_keptByStore.warmReset u (hpages.of_storeKept (.of_cs hcs))).free_ascending
    · simp only [u.warmReset_mem_freePages, hcs, hclip, State.clipPages]
    · rw [u.warmReset_cpc, hcpc]
    · rw [u.warmReset_cpc, hcpc]
    · rw [u.warmReset_port hch, Port.warm_eq, State.port_congr ch hcpc]
    · rw [u.warmReset_limits hch, State.limits_congr ch (hu ▸ s.answered_lm ..)]
      rfl
    · rw [u.warmReset_mark hm, State.mark_congr m (hu ▸ s.answered_mu ..)]
      rfl
    · rw [hrcu]
      rfl
    · rw [hrcu]
      rfl
    · rw [u.warmReset_cause, State.cause_congr c (hu ▸ s.answered_eu ..)]
  · have hnot : ¬ s.resettable = true := by rw [s.resettable_iff]; exact not_or.mpr ⟨hidle, htripped⟩
    rw [State.performReset_of_not_resettable hnot]

end Sys2Proof.Machine
end
